-- ==== Sys2Proof/Word.lean ====
section
/-!
DEFINITION. The plain types of the model: a register word, a byte, a sparse table, and the unit
indices of R8.
-/

namespace Sys2Proof

/-- A 32-bit register word (R9). -/
abbrev Word := BitVec 32

/-- One byte of a message, a plan, a manifest or device memory. -/
abbrev Byte := BitVec 8

/-- A sparse table: pairs of key and value, keys rising. -/
abbrev Tbl (α : Type) := List (Nat × α)

/-- Global core index of R8: die × 144 + cluster × 18 + core. -/
abbrev CoreIx := Fin 576

/-- Engine E00 to E15 of a core (R8). -/
abbrev EngIx := Fin 16

/-- Die D0 to D3 (R8). -/
abbrev DieIx := Fin 4

/-- Cluster of the package: die × 8 + cluster (R8). -/
abbrev ClusterIx := Fin 32

/-- Memory stack M0 to M11, and the channel of the same number (R8, R15). -/
abbrev StackIx := Fin 12

/-- Lock-group index g (R167). -/
abbrev GroupIx := Fin 12

end Sys2Proof
end

