-- ==== Sys2Proof/Machine/Num.lean ====
section
/-!
DEFINITION. Exact arithmetic: fractions, rounding to nearest with ties to even, and the FP32 and BF16
values of the vector side. Every computation of the spec is done exactly on fractions and narrowed once.
-/

namespace Sys2Proof.Machine

/-- An exact fraction; the denominator is positive wherever the model builds one. -/
structure Frac where
  num : Int
  den : Nat
  deriving DecidableEq, Repr

def Frac.ofInt (n : Int) : Frac := ⟨n, 1⟩
def Frac.ofNat (n : Nat) : Frac := ⟨n, 1⟩
def Frac.add (a b : Frac) : Frac := ⟨a.num * b.den + b.num * a.den, a.den * b.den⟩
def Frac.neg (a : Frac) : Frac := ⟨-a.num, a.den⟩
def Frac.sub (a b : Frac) : Frac := a.add b.neg
def Frac.mul (a b : Frac) : Frac := ⟨a.num * b.num, a.den * b.den⟩

/-- Quotient; a zero divisor gives 0 (no caller divides by 0). -/
def Frac.div (a b : Frac) : Frac :=
  if b.num = 0 then ⟨0, 1⟩
  else ⟨a.num * b.den * b.num.sign, a.den * b.num.natAbs⟩

def Frac.abs (a : Frac) : Frac := ⟨a.num.natAbs, a.den⟩
def Frac.le (a b : Frac) : Bool := decide (a.num * b.den ≤ b.num * a.den)
def Frac.lt (a b : Frac) : Bool := decide (a.num * b.den < b.num * a.den)
def Frac.eq (a b : Frac) : Bool := decide (a.num * b.den = b.num * a.den)
def Frac.max (a b : Frac) : Frac := if a.le b then b else a
def Frac.min (a b : Frac) : Frac := if a.le b then a else b
def Frac.clamp (a lo hi : Frac) : Frac := (a.max lo).min hi
def Frac.isZero (a : Frac) : Bool := decide (a.num = 0)

/-- m × 2^e. -/
def Frac.dyadic (m e : Int) : Frac :=
  if 0 ≤ e then ⟨m * (2 ^ e.toNat : Nat), 1⟩ else ⟨m, 2 ^ (-e).toNat⟩

def Frac.floor (a : Frac) : Int := a.num / (a.den : Int)

def Frac.ceil (a : Frac) : Int := -((-a.num) / (a.den : Int))

/-- Nearest integer, ties to even. -/
def Frac.round (a : Frac) : Int :=
  let q := a.num / (a.den : Int)
  let r := a.num % (a.den : Int)
  if 2 * r < (a.den : Int) then q
  else if 2 * r = (a.den : Int) then (if q % 2 = 0 then q else q + 1)
  else q + 1

/-- Sum of a list of fractions. -/
def Frac.sum (l : List Frac) : Frac := l.foldl Frac.add ⟨0, 1⟩

/-- Clamp an integer to a range. -/
def clampInt (x lo hi : Int) : Int := if x < lo then lo else if hi < x then hi else x

/-- Ceiling of a quotient of naturals. -/
def ceilDiv (a b : Nat) : Nat := if b = 0 then 0 else (a + b - 1) / b

/-- An integer as an n-bit two's complement field value. -/
def fieldOfInt (n : Nat) (x : Int) : Nat := (x % (2 ^ n : Nat)).toNat

/-- An n-bit field read as two's complement. -/
def intOfField (n : Nat) (x : Nat) : Int :=
  let v := x % 2 ^ n
  if v < 2 ^ (n - 1) then v else (v : Int) - (2 ^ n : Nat)

/-- Bits [lo, lo + n) of a natural. -/
def bitsAt (x lo n : Nat) : Nat := (x / 2 ^ lo) % 2 ^ n

/-- An FP32 bit pattern that is infinite or NaN. -/
def fpNonFinite (w : Word) : Bool := decide (bitsAt w.toNat 23 8 = 255)

/-- An FP32 bit pattern that is a NaN. -/
def fpIsNaN (w : Word) : Bool := fpNonFinite w && decide (w.toNat % 2 ^ 23 ≠ 0)

/-- The sign bit of an FP32 bit pattern. -/
def fpNeg (w : Word) : Bool := decide (2 ^ 31 ≤ w.toNat)

/-- Signed significand and exponent of a finite FP32 pattern: value = M × 2^(E − 23), with M the
signed 24-bit significand and E the unbiased exponent, −126 for a subnormal (R100). -/
def fpParts (w : Word) : Int × Int :=
  let x := w.toNat
  let ex := bitsAt x 23 8
  let man := x % 2 ^ 23
  let mag : Nat := if ex = 0 then man else man + 2 ^ 23
  let e : Int := if ex = 0 then -126 else (ex : Int) - 127
  ((if 2 ^ 31 ≤ x then -(mag : Int) else (mag : Int)), e)

/-- The exact value of a finite FP32 pattern (0 for a non-finite one). -/
def fpValue (w : Word) : Frac :=
  if fpNonFinite w then ⟨0, 1⟩
  else let p := fpParts w; Frac.dyadic p.1 (p.2 - 23)

/-- Floor of the binary logarithm of a positive fraction. -/
def Frac.log2 (a : Frac) : Int :=
  let e : Int := (Nat.log2 a.num.natAbs : Int) - (Nat.log2 a.den : Int)
  if (Frac.dyadic 1 e).le a.abs then e else e - 1

/-- Magnitude bits of a positive fraction rounded once, to nearest with ties to even, to a binary
format with `p` fraction bits and 8 exponent bits, subnormals kept; exceeds the largest finite
pattern where the rounding carries to an infinity. -/
def roundMag (p : Nat) (a : Frac) : Nat :=
  if a.num = 0 then 0
  else
    let e := if a.log2 < -126 then -126 else a.log2
    let q := e - (p : Int)
    let m := (a.abs.mul (Frac.dyadic 1 (-q))).round.toNat
    ((q + (p : Int) + 126).toNat) * 2 ^ p + m

/-- FP32 nearest to a fraction; an overflow becomes an infinity. -/
def fpOfFrac (a : Frac) : Word :=
  let m := roundMag 23 a
  let mag := if 0x7F800000 ≤ m then 0x7F800000 else m
  BitVec.ofNat 32 (mag + (if a.num < 0 then 0x80000000 else 0))

/-- FP32 infinity and quiet NaN. -/
def fpInf (neg : Bool) : Word := if neg then 0xFF800000 else 0x7F800000
def fpNaN : Word := 0x7FC00000
def fpZero : Word := 0

/-- A BF16 bit pattern as the FP32 pattern of the same value. -/
def fpOfBf16 (x : Nat) : Word := BitVec.ofNat 32 ((x % 2 ^ 16) * 2 ^ 16)

/-- FP32 sum, rounded to nearest with ties to even. An exact zero sum is +0, or −0 where both
operands are −0. -/
def fpAdd (a b : Word) : Word :=
  if fpIsNaN a || fpIsNaN b then fpNaN
  else if fpNonFinite a then
    (if fpNonFinite b && (fpNeg a != fpNeg b) then fpNaN else a)
  else if fpNonFinite b then b
  else
    let s := (fpValue a).add (fpValue b)
    if s.num = 0 then (if fpNeg a && fpNeg b then 0x80000000 else 0) else fpOfFrac s

/-- FP32 negation. -/
def fpNegate (a : Word) : Word := a ^^^ 0x80000000

/-- FP32 difference. -/
def fpSub (a b : Word) : Word := fpAdd a (fpNegate b)

/-- FP32 product. -/
def fpMul (a b : Word) : Word :=
  let neg := fpNeg a != fpNeg b
  if fpIsNaN a || fpIsNaN b then fpNaN
  else if fpNonFinite a || fpNonFinite b then
    (if (fpValue a).num = 0 && !fpNonFinite a || (fpValue b).num = 0 && !fpNonFinite b then fpNaN
     else fpInf neg)
  else
    let p := (fpValue a).mul (fpValue b)
    if p.num = 0 then (if neg then 0x80000000 else 0)
    else
      let m := roundMag 23 p
      let mag := if 0x7F800000 ≤ m then 0x7F800000 else m
      BitVec.ofNat 32 (mag + (if neg then 0x80000000 else 0))

/-- FP32 quotient. -/
def fpDiv (a b : Word) : Word :=
  let neg := fpNeg a != fpNeg b
  if fpIsNaN a || fpIsNaN b then fpNaN
  else if fpNonFinite a then (if fpNonFinite b then fpNaN else fpInf neg)
  else if fpNonFinite b then (if neg then 0x80000000 else 0)
  else if (fpValue b).num = 0 then (if (fpValue a).num = 0 then fpNaN else fpInf neg)
  else
    let p := (fpValue a).div (fpValue b)
    if p.num = 0 then (if neg then 0x80000000 else 0)
    else
      let m := roundMag 23 p
      let mag := if 0x7F800000 ≤ m then 0x7F800000 else m
      BitVec.ofNat 32 (mag + (if neg then 0x80000000 else 0))

/-- FP32 order: a is below b. False where either is a NaN. -/
def fpLt (a b : Word) : Bool :=
  if fpIsNaN a || fpIsNaN b then false
  else if a = fpInf true then b != fpInf true
  else if b = fpInf false then a != fpInf false
  else if a = fpInf false || b = fpInf true then false
  else (fpValue a).lt (fpValue b)

/-- Larger of two FP32 values; of a NaN and a value, the first. -/
def fpMax (a b : Word) : Word := if fpLt a b then b else a

/-- Numbers as fields of a reply: 1 for true. -/
def flag (b : Bool) : Nat := if b then 1 else 0

/-- Mask of a list of indices below n. -/
def maskOf (n : Nat) (p : Nat → Bool) : Nat :=
  (List.range n).foldl (fun m i => m + (if p i then 2 ^ i else 0)) 0

end Sys2Proof.Machine
end

