-- ==== Sys2Proof/Machine/Tbl.lean ====
section
/-!
DEFINITION. Reading and writing a sparse table.
-/

namespace Sys2Proof

/-- The value at a key, if one is held. -/
def Tbl.get? {α : Type} : Tbl α → Nat → Option α
  | [], _ => none
  | (k, v) :: rest, key => if k = key then some v else Tbl.get? rest key

/-- The value at a key, or a default where none is held. -/
def Tbl.getD {α : Type} (t : Tbl α) (key : Nat) (d : α) : α := (t.get? key).getD d

/-- Put a value at a key, keeping the keys in rising order. -/
def Tbl.put {α : Type} : Tbl α → Nat → α → Tbl α
  | [], key, v => [(key, v)]
  | (k, w) :: rest, key, v =>
    if key < k then (key, v) :: (k, w) :: rest
    else if k = key then (key, v) :: rest
    else (k, w) :: Tbl.put rest key v

/-- Remove a key. -/
def Tbl.del {α : Type} (t : Tbl α) (key : Nat) : Tbl α := t.filter (fun p => p.1 != key)

/-- Change the value at a key, starting from a default where none is held. -/
def Tbl.upd {α : Type} (t : Tbl α) (key : Nat) (d : α) (f : α → α) : Tbl α :=
  t.put key (f (t.getD key d))

end Sys2Proof
end

