-- ==== Sys2Proof/Machine/Units.lean ====
section
/-!
DEFINITION. The contents of a compute array, an engine, the Cascade, the correction logic and the
calibration of an array: the state of Chapters 2 to 5.
-/

namespace Sys2Proof.Machine

/-- Weight formats an array holds (R41); MV8 is a pair of MV4 tiles (R72). -/
inductive WFmt where
  | mv4 | mv2 | mt
  deriving DecidableEq, Repr

/-- Array states of ENG_STATUS (R65). -/
inductive ArrPhase where
  | empty | loading | loaded | firing
  deriving DecidableEq, Repr

/-- One entry of a weight outlier list (R97). -/
structure ListEntry where
  row : Nat
  out : Nat
  code : Int
  deriving DecidableEq, Repr

/-- Which tile of an MV8 pair a tile is (R72). -/
inductive Mv8Half where
  | none | high | low
  deriving DecidableEq, Repr

/-- A key or value tile of prefill attention (R213): its context, the key-value head, and for keys the
page, the span of 256 key values and the half of the page's positions; for values the pair of pages and
the block of 64 value dimensions. -/
inductive KvTile where
  | key (ctx head page span half : Nat)
  | value (ctx head pair block : Nat)
  deriving DecidableEq, Repr

/-- A load of an array tile as a LOAD record and the loader's directory name it (R57, R141). -/
structure LoadDesc where
  core : CoreIx
  eng : EngIx
  arrB : Bool
  fmt : WFmt
  half : Mv8Half
  /-- First granule of the tile in device memory, and of its partner for a high tile. -/
  addr : Nat
  partner : Nat
  /-- Granules of the tile's outlier list. -/
  listGranules : Nat
  /-- The key or value tile that key-value pages form, in place of a weight tile. -/
  kv : Option KvTile
  layer : Nat
  /-- Sequence slots whose tokens the tile's fires feed. -/
  feeds : List Nat
  deriving DecidableEq, Repr

/-- What the load path and the Rill's list store hold for the tile in an array (R57, R97). -/
structure Tile where
  fmt : WFmt
  half : Mv8Half
  /-- Device granule the tile was read from. -/
  addr : Nat
  /-- Granules of the tile with its scales and list. -/
  granules : Nat
  /-- Device granule of the low tile of the pair, for a high tile (R100). -/
  partner : Nat
  /-- The tile is a key or value tile (R79). -/
  kv : Bool
  /-- Layer it was loaded for. -/
  layer : Nat
  scales : List Nat
  listE8 : Nat
  list : List ListEntry
  /-- Full 8-bit weights by row of an MV8 pair, for its high tile (R100). -/
  full : List (List Int)
  /-- The load that wrote it, for a step replay's reload (R107). -/
  desc : LoadDesc
  deriving DecidableEq, Repr

/-- Trim, tap, digital gain and offset of one column (R40, R102). -/
structure ColVal where
  pTrim : Nat
  nTrim : Nat
  convTap : Nat
  g : Nat
  o : Int
  deriving DecidableEq, Repr

/-- A column before it is calibrated: nominal taps, gain 1.0, offset 0 (R40, R65, R113). -/
def ColVal.nominal : ColVal := ⟨16, 16, 8, 0x8000, 0⟩

/-- One stored calibration set (R125). -/
structure CalSet where
  /-- Capture temperature in units of 0.125 °C. -/
  temp : Int
  load : Nat
  /-- Operating seconds at capture. -/
  time : Nat
  cols : Tbl ColVal
  suspects : List Nat
  csTol : Nat
  refTol : Nat
  deriving DecidableEq, Repr

/-- Sums of a run's sample span for one column (R116). -/
structure ColSums where
  n : Nat
  e : Int
  e2 : Int
  d : Int
  de : Int
  d2 : Int
  deriving DecidableEq, Repr

/-- What a calibration step measured of one column (R120): slope and intercept of reading against
expected reading, tap responses per step, CONV_STEP, the mean squared residual about the fit, and whether the
responses are monotone. -/
structure Sweep where
  slope : Frac
  icept : Frac
  pResp : Frac
  nResp : Frac
  convStep : Int
  var : Frac
  /-- Each tap's readings are monotone over its settings (R122). -/
  mono : Bool
  deriving DecidableEq, Repr

/-- Phases of a calibration run (R130): in the queue, in its sample span, stepped with spare or
row-localisation steps still to run, and ready to commit. -/
inductive RunPhase where
  | queued | sampling | stepped | ready
  deriving DecidableEq, Repr

/-- Sum, sum of squares and count of a residual over a span (R117). -/
structure ResSums where
  s : Int
  s2 : Nat
  n : Nat
  deriving DecidableEq, Repr

/-- A run queued or running on an array (R130). -/
structure CalRun where
  cls : Nat
  /-- Order of the request (R130). -/
  order : Nat
  phase : RunPhase
  startTemp : Int
  tempSum : Int
  tempN : Nat
  /-- Ticks without a calibration step bound (R131). -/
  ticks : Nat
  sums : Tbl ColSums
  cs : ResSums
  refs : Tbl ResSums
  sweeps : Tbl Sweep
  failing : List Nat
  /-- Columns that await a spare step, and how many spares each has tried. -/
  need : List Nat
  tried : Tbl Nat
  /-- Columns repaired by the run, with their spares. -/
  repairs : List (Nat × Nat)
  rowFound : List Nat
  needRows : Bool
  deriving DecidableEq, Repr

/-- Drift tracker of an array (R103, R104, R128). -/
structure Drift where
  gA : Nat
  oA : Int
  limit : Bool
  stale : Bool
  gamma : Int
  delta : Int
  /-- Masked reference columns. -/
  mask : List Nat
  s1 : Int
  s2 : Int
  s3 : Int
  n : Nat
  /-- Fires in which column k failed, for k from 0 to 7. -/
  fails : Tbl Nat
  /-- Fires in which some reference column other than k failed. -/
  others : Tbl Nat
  /-- Sum of squared unmasked reference residuals of the tick and their count. -/
  rss : Nat
  rn : Nat
  deriving DecidableEq, Repr

/-- The drift tracker before any fire. -/
def Drift.init : Drift := ⟨0x8000, 0, false, false, 0, 0, [], 0, 0, 0, 0, [], [], 0, 0⟩

/-- Calibration, repair and drift state of one array. -/
structure ArrayCal where
  /-- Values in force by physical column; absent is nominal. -/
  inForce : Tbl ColVal
  /-- Targets by logical column. -/
  targets : Tbl ColVal
  /-- CONV_STEP by logical column; absent is 100 (R120). -/
  convStep : Tbl Nat
  csTol : Nat
  refTol : Nat
  /-- Column repair map: spare index to the logical column it serves (R35). -/
  colMap : Tbl Nat
  /-- Row repair map: spare index to the logical row it serves. -/
  rowMap : Tbl Nat
  badSpares : List Nat
  exhausted : Bool
  suspectCols : List Nat
  suspectRows : List Nat
  sets : Tbl CalSet
  interp : Bool
  extrap : Bool
  aboveBound : Bool
  slotLo : Nat
  slotHi : Nat
  badStreak : Nat
  /-- Operating seconds of the last commit. -/
  lastCommit : Nat
  /-- Tested fires since reset, for the sampler (R115). -/
  tested : Nat
  run : Option CalRun
  /-- Class of a run that awaits the return of its fenced core (R131). -/
  awaits : Option Nat
  drift : Drift
  deriving DecidableEq, Repr

def ArrayCal.init : ArrayCal :=
  ⟨[], [], [], 512, 16, [], [], [], false, [], [], [], false, false, false, 0, 0, 0, 0, 0, none,
    none, Drift.init⟩

/-- A load that awaits re-reads (R60): its description, the granules read so far with those found
uncorrectable at the first read absent, and the indexes of these. -/
structure Reread where
  desc : LoadDesc
  got : List (Option Nat)
  todo : List Nat
  deriving DecidableEq, Repr

/-- One array: its phase, its tile, its cells by physical row, and its calibration. -/
structure ArrayState where
  phase : ArrPhase
  tile : Option Tile
  /-- Bit c of row r is the cell of physical column c (R34). -/
  cells : List Nat
  /-- The tile was abandoned on an uncorrectable granule (R60). -/
  abandoned : Bool
  /-- Format of an abandoned tile, whose planned fires still name its destination tiles (R60). -/
  lost : Option WFmt
  /-- A load awaits the one re-read of uncorrectable granules (R60). -/
  reread : Option Reread
  cal : ArrayCal
  deriving DecidableEq, Repr

def ArrayState.init : ArrayState := ⟨.empty, none, [], false, none, none, ArrayCal.init⟩

/-- One input element: sign (true is negative) and magnitude (R37). -/
abbrev Elem := Bool × Nat

/-- Nibble halves of an AS8 block in the input buffer (R61). -/
inductive Nibble where
  | whole | high | low
  deriving DecidableEq, Repr

/-- One entry of an engine's input buffer (R49, R76). -/
structure BufEntry where
  elems : List Elem
  e8 : Nat
  zero : Bool
  groupZero : List Bool
  clamped : Bool
  wide : Bool
  nibble : Nibble
  /-- Extracted inputs with their FP32 values (R99). -/
  extracted : List (Nat × Word)
  /-- Source block of the Spillway (R106), and the extraction factor it was quantised with (R98). -/
  src : Nat
  rho : Nat
  deriving DecidableEq, Repr

/-- One fire as the plan directs it: the unit, the entry, the first destination tile, the member's
number in plan order (R85), and the sequence slots whose tokens its step feeds. -/
structure FireOp where
  core : CoreIx
  eng : EngIx
  arrB : Bool
  entry : Nat
  tile : Nat
  member : Nat
  layer : Nat
  feeds : List Nat
  /-- Its step is dense (R55). -/
  dense : Bool
  deriving DecidableEq, Repr

/-- An operation of a tile that the Carousel holds until the contributions before it have been added (R89): a drain
to a vector register or, at an offset, to local memory. -/
inductive TileOp where
  | clear (w : Int) (g : Nat)
  | drain (factors : Option Nat) (bf16 toMemory : Bool) (dst : Nat)
  | send (dstCore : CoreIx) (dstTile : Nat)
  | take (srcCore srcTile : Nat)
  deriving DecidableEq, Repr

/-- One member of a group: the aligned lanes of one contribution, and the lanes whose aligned
magnitude is above the window, with the sign of each (R84, R86). -/
structure Member where
  idx : Nat
  lanes : List Int
  beyond : List (Nat × Bool)
  deriving DecidableEq, Repr

/-- A tile exported by a core (R89). -/
structure Export where
  lanes : List Int
  w : Int
  sat : Bool
  ufl : Bool
  deriving DecidableEq, Repr

/-- One Cascade tile (R82, R85, R86). -/
structure CasTile where
  w : Int
  g : Nat
  sat : Bool
  ufl : Bool
  cleared : Bool
  lanes : List Int
  /-- Lanes held at their bounds until the next clear. -/
  bound : List Nat
  /-- Members that have arrived and whose group has not been added. -/
  members : List Member
  /-- Groups added since the numbering started. -/
  added : List Nat
  /-- Fires directed to the tile since its clear: the step's members (Replay). -/
  step : List FireOp
  /-- The load of the tile each member fired on and the entry it fired, beside its fire. -/
  stepTiles : List (Option LoadDesc × BufEntry)
  /-- A step replay of the step was performed or refused (R108). -/
  replayed : Bool
  /-- A step replay is pending, with its cause (4 SAT, 5 non-finite block). -/
  pending : Option Nat
  /-- Exports merged into the step (R107). -/
  merged : List Export
  /-- Groups that the step's contributions have formed (R107). -/
  formed : Nat
  /-- Operations held, in order (R89, R107). -/
  held : List TileOp
  deriving DecidableEq, Repr

/-- A tile at a boundary: W = 0, G = 4, both flags reset (R89). -/
def CasTile.init : CasTile :=
  ⟨0, 4, false, false, false, List.replicate 64 0, [], [], [], [], [], false, none, [], 0, []⟩

/-- What a fire, or one half of a nibble pair, gave: counts, and which tests failed, with the checksum
residual. -/
structure HalfRes where
  counts : List Int
  cs : Bool
  ref : Bool
  res : Int
  deriving DecidableEq, Repr

/-- What a fire presents: the elements of its high and low halves, or of a whole entry as the low half,
the block's scale and its extracted inputs. -/
structure Shot where
  pair : Bool
  hi : List Elem
  lo : List Elem
  e8 : Nat
  extracted : List (Nat × Word)
  /-- Tiles it does not contribute to: a step replay stands for it there (R107). -/
  skip : List Nat
  deriving DecidableEq, Repr

/-- A fire with a Weir-flagged half that awaits its split (R52): the entry fired, the halves that are done, the
twin's result under redundancy (R339), and the cause of the replay it is part of. -/
structure PendingSplit where
  op : FireOp
  ent : BufEntry
  shot : Shot
  hi : Option HalfRes
  lo : Option HalfRes
  twin : Option HalfRes
  replay : Option Nat
  deriving DecidableEq, Repr

/-- A failed fire or wide fire that awaits its replay: the failed members are used where the replay is
refused (R106, Table 4-5). -/
structure PendingReplay where
  op : FireOp
  /-- Cause of LAST_REPLAY: 1 outlier budget, 2 checksum, 3 reference; 7 for a twin mismatch (R339). -/
  cause : Nat
  /-- The entry that was fired (R106). -/
  ent : BufEntry
  shot : Shot
  /-- Result of the first fire, and the twin's counts. -/
  first : HalfRes
  twin : List Int
  deriving DecidableEq, Repr

/-- What an error in flight did to a codeword: symbols changed, each with the value XORed in. -/
abbrev SymErrs := List (Nat × Nat)

/-- What the analogue side and the Weir did in one fire (R38, R39): deviations of raw readings by
column, and chains that flagged beyond those over 1,023 units; the error of its read of the Rill's store and
of its Spillway source (R332); and the clocks for which its member waited on the Rill (R101). -/
structure FireEnv where
  dev : List (Nat × Int)
  faults : List (Nat × Bool)
  store : SymErrs
  hold : Nat
  deriving DecidableEq, Repr

/-- A fire in which nothing departs from the exact sums. -/
def FireEnv.clean : FireEnv := ⟨[], [], [], 0⟩

/-- Environments of the halves of a nibble pair, or of one fire as the low half: its fire or, of a dense step, its
four row groups; for a twin that the Weir may flag, the fire and then its four row groups (R52, R55, R61). -/
structure PairEnv where
  hi : List FireEnv
  lo : List FireEnv
  deriving DecidableEq, Repr

/-- A granule of a read and what an error did to it at the first read and at the second (R335). -/
structure GranErr where
  idx : Nat
  first : SymErrs
  second : SymErrs
  deriving DecidableEq, Repr

/-- One slot of an expert run (R156): the row in it, none where it is empty; the input entry it fires, its Cascade
tile and member number, and the environment of its fire and of the twin's. -/
structure SlotFire where
  row : Option Nat
  entry : Nat
  tile : Nat
  member : Nat
  feeds : List Nat
  env : PairEnv
  twin : PairEnv
  deriving DecidableEq, Repr

/-- One tile of an expert run: its load with the errors of its granules at the first reading, the clocks its data came
late, and the slots fired on it. -/
structure ExpertTile where
  desc : LoadDesc
  errs : List GranErr
  late : Nat
  slots : List SlotFire
  deriving DecidableEq, Repr

/-- Work that is left of an expert run (R156): tiles to load and slots to fire, in order. -/
inductive RunItem where
  | load (desc : LoadDesc) (errs : List GranErr) (late : Nat)
  | slot (op : FireOp) (nibble : Bool) (f : SlotFire)
  deriving DecidableEq, Repr

/-- One engine: its input buffer and what awaits it. -/
structure EngState where
  buf : Tbl BufEntry
  split : List PendingSplit
  replays : List PendingReplay
  /-- The expert run in progress. -/
  run : List RunItem
  splitActive : Bool
  /-- Fires performed since reset, for the load index (R126). -/
  fired : Nat
  deriving DecidableEq, Repr

def EngState.init : EngState := ⟨[], [], [], [], false, 0⟩

end Sys2Proof.Machine
end

