-- ==== Sys2Proof/Machine/Proto.lean ====
section
/-!
DEFINITION. What passes between the host, the network and the block: statuses, the header of a
command, the payloads of the commands, and the messages the block sends (Chapters 9 and 10).
-/

namespace Sys2Proof.Machine

open Sys2Proof

/-- The statuses of replies and notices (R275). The spec gives them no numbers. -/
inductive Status where
  | ok | accepted | busy | conflict | notAuthorised | noResource | version | stale
  | digestMismatch | badSignature | planInvalid | unplaceable | shardMissing | deadlineMissed
  deriving DecidableEq, Repr

/-- The fields of a command's MCT header that bear on what it does (R269). -/
structure Hdr where
  sess : Nat
  seq : Nat
  ack : Nat
  tag : Nat
  /-- Source address and port of its datagram, as one number (R268). -/
  src : Nat
  /-- OPCODE, the command's own (Table 10-4). -/
  opcode : Nat
  deriving DecidableEq, Repr

/-- Configuration items of Table 10-3 (R267). -/
inductive CfgKey where
  | phyMode | vlan | priorities | macsec | ipv4 | ipv6 | mctPort | announce | ptp | storage
  | sessionLimit
  deriving DecidableEq, Repr

/-- Address settings of a family (Table 10-3): off, dynamic (DHCPv4 or SLAAC), or static with
address, prefix and gateway. -/
inductive IpCfg where
  | off
  | dynamic
  | fixed (addr pfx gateway : Nat)
  deriving DecidableEq, Repr

/-- One entry of the storage list (Table 10-3). -/
structure StorageEnt where
  addr : Nat
  port : Nat
  nqn : List Byte
  discovery : Bool
  deriving DecidableEq, Repr

/-- A value of CFG_WRITE (R267, Table 10-3). -/
inductive CfgVal where
  /-- 0 CR8, 1 KR8, 2 800GAUI-8, and lane polarity. -/
  | phyMode (mode polarity : Nat)
  | vlan (id : Option Nat)
  /-- PCP and DSCP of the PTP, MCT and RoCEv2 kinds (Table 10-2). -/
  | priorities (kinds : List (Nat × Nat))
  /-- Policy byte, CAK name, nonce, encrypted CAK and tag (R267). -/
  | macsec (policy : Nat) (name nonce cipher tag : List Byte)
  | ipv4 (c : IpCfg)
  | ipv6 (c : IpCfg)
  | mctPort (p : Nat)
  | announce (group4 group6 port : Nat)
  /-- L2 (0), UDP/IPv4 (1) or UDP/IPv6 (2); P2P; one-step; domain. -/
  | ptp (transport : Nat) (p2p oneStep : Bool) (domain : Nat)
  | storage (entries : List (Option StorageEnt)) (hostNqn : List Byte)
  | sessionLimit (n : Nat)
  deriving DecidableEq, Repr

/-- A place on a storage target: index in the storage list, namespace, logical block, bytes. -/
structure StorageLoc where
  target : Nat
  ns : Nat
  lba : Nat
  len : Nat
  deriving DecidableEq, Repr

/-- A context's backing region (Table 8-3): storage-list entry, namespace, base LBA, and length in
4 KiB blocks; all zero under the discard policy. -/
structure Backing where
  target : Nat
  ns : Nat
  base : Nat
  len : Nat
  deriving DecidableEq, Repr

/-- What reading from a target gave at each attempt: none where the attempt failed. -/
abbrev Reads := List (Option (List Byte))

/-- Parameters of CTX_CREATE (Table 9-13). -/
structure CtxFields where
  group : Nat
  tenant : Nat
  tag : Nat
  budget : Nat
  policy : Nat
  shift : Nat
  backing : Backing
  deriving DecidableEq, Repr

/-- Fields of a request (Table 9-9). -/
structure ReqFields where
  id : Nat
  ctx : Nat
  tenant : Nat
  fullHistory : Bool
  continueLate : Bool
  penaliseInput : Bool
  ignoreEnd : Bool
  more : Bool
  /-- Reserved flag bits [15:5] as sent. -/
  reserved : Nat
  adapter : Nat
  deadline : Nat
  maxNew : Nat
  stops : List Nat
  temperature : Word
  topK : Nat
  topP : Word
  repPenalty : Word
  presence : Word
  frequency : Word
  seed : Nat
  tokenCount : Nat
  tokens : List Nat
  deriving DecidableEq, Repr

/-- Balance policy of a group (Table 9-11). -/
structure Balance where
  cap : Nat
  chunkMin : Nat
  chunkMax : Nat
  order : Nat
  passLimit : Nat
  deriving DecidableEq, Repr

/-- Defaults of Table 9-11. -/
def Balance.init : Balance := ⟨65535, 128, 4096, 0, 16⟩

/-- Scope of a calibration command (R133): scope codes 0 to 3 and their unit. -/
inductive CalScope where
  | package
  | die (d : Nat)
  | core (c : Nat)
  | array (c e : Nat) (b : Bool)
  deriving DecidableEq, Repr

/-- One entry of a token frame (Table 10-9). -/
structure TokenEntry where
  req : Nat
  token : Nat
  noToken : Bool
  late : Bool
  degraded : Bool
  wide : Bool
  replayed : Bool
  evicted : Bool
  done : Bool
  reason : Nat
  deriving DecidableEq, Repr

/-- Header of a token frame's payload (Table 10-9). -/
structure FrameHdr where
  group : Nat
  variant : Nat
  phase : Nat
  parts : Nat
  part : Nat
  last : Bool
  boundary : Nat
  tick : Nat
  deriving DecidableEq, Repr

/-- Messages the M8 originates in a session (Table 10-4, FLAGS DEVICE). -/
inductive DevMsg where
  /-- R276: opcode, ORIGIN_SEQUENCE, status and the further fields of Table 10-6. -/
  | notice (opcode origin : Nat) (st : Status) (fields : List Nat)
  /-- R284. -/
  | tokenFrame (h : FrameHdr) (entries : List TokenEntry)
  /-- R285: group, from, to, cause, first tick, period, clock, plan id. -/
  | variantNotice (fields : List Nat)
  /-- Opcode 0x8E: the sets chosen by TELEMETRY_SET. -/
  | telemetry (mask : Nat) (fields : List Nat)
  /-- Opcode 0x8F: one event record. -/
  | eventNotice (record : List Byte)
  deriving DecidableEq, Repr

/-- What the block sends on its port, its fabric and its pins' neighbours. -/
inductive OutMsg where
  /-- Reply to a command (R275): session, sequence, status, DETAIL, TICK_TAG, results, RESENT. -/
  | reply (sess seq : Nat) (st : Status) (detail tag : Nat) (body : List Nat) (resent : Bool)
  /-- Reply to SESSION_OPEN (R271), under the device-to-host key when a session is given, otherwise
  under the open key. -/
  | openReply (key : Nat) (st : Status) (sess : Nat) (nonce : List Byte) (body : List Nat)
  /-- A device message with its device sequence number (R273). -/
  | device (sess seq : Nat) (m : DevMsg) (resent : Bool)
  /-- An announce (R289): the fields of Table 10-13. -/
  | announce (fields : List Nat)
  /-- An LLDPDU (Table 10-1): chassis MAC and system name. -/
  | lldp (mac serial ttl : Nat)
  /-- An MKA attempt (R265). -/
  | mka
  /-- A CNP or a priority pause frame on the RoCEv2 priority (Table 10-1). -/
  | cnp
  | pause
  /-- NVMe over Fabrics commands (R266): read and write with the traffic class of Table 7-3, Keep Alive and Connect by
  target. -/
  | nvmeRead (loc : StorageLoc) (cls : Nat)
  | nvmeWrite (loc : StorageLoc) (data : List Byte) (cls : Nat)
  | nvmeKeepAlive (target : Nat)
  | nvmeConnect (target : Nat)
  /-- A boundary mark (R137): group, tick number, variant, on the data mesh. -/
  | mark (group tick variant : Nat) (mesh : Bool)
  /-- A page descriptor (R205) as a granule. -/
  | descriptor (g : Nat)
  /-- A time-sync pulse (R304). -/
  | timeSync
  /-- A hop-level negative acknowledgement on a control segment (R185). -/
  | hopNack (segment : Nat)
  /-- A PTP delay request (Table 10-1). -/
  | ptpDelayReq
  /-- Answers that Table 10-1 supports: to ARP, to neighbour solicitation, to an echo, a destination unreachable, and the
  rejection of a RoCEv2 connection request. -/
  | arpReply
  | neighbourAdvert
  | echoReply (v6 : Bool)
  | unreachable (v6 : Bool)
  | roceReject
  deriving DecidableEq, Repr

/-- A frame that leaves by the Ethernet port. -/
structure PortFrame where
  /-- PCP and DSCP of its kind of traffic; none for LLDP and MKA (R264). -/
  mark : Option (Nat × Nat)
  /-- Carried without loss, under priority flow control (R264). -/
  lossless : Bool
  vlan : Option Nat
  /-- Protected by MACsec (R265). -/
  secured : Bool
  /-- Address and port an MCT message goes to (R268). -/
  dest : Option Nat
  /-- The MCT message: header, tag and payload (R268); empty for other traffic. -/
  mct : List Byte
  deriving DecidableEq, Repr

/-- A source of values for the quantiser, the vector unit and a drain: the vector register of a
core. -/
abbrev VReg := Nat

end Sys2Proof.Machine
end

