-- ==== Sys2Proof/Syntax.lean ====
section
/-!
DEFINITION. The commands and events of the block, one constructor per row of spec/opcode_table.json,
in the table's order, and the data each carries.
-/

namespace Sys2Proof

open Sys2Proof.Machine

/-- What a received frame is (R263, R265, R268 to R270). -/
inductive FrameKind where
  /-- An MCT datagram that carries no command: its source, the signed bytes (header and payload) and the tag. -/
  | mct (src : Nat) (signed tag : List Byte)
  | roce (qp : Nat) (ceMarked : Bool)
  /-- A RoCEv2 frame that has the M8 send again. -/
  | roceNak (qp : Nat)
  /-- A connection request of another node. -/
  | roceConnect
  | cnp (qp : Nat)
  | pfc (roce : Bool)
  | lldp
  | mka
  | ptp
  /-- Requests that an address of the family answers (Table 10-1). -/
  | arp
  | solicit
  | echo (v6 : Bool)
  /-- A datagram for a port that nothing uses. -/
  | closedPort (v6 : Bool)
  /-- Another supported frame (DHCP, other ICMP). -/
  | other
  /-- A frame outside Table 10-1. -/
  | unsupported
  deriving DecidableEq, Repr

/-- A received frame (R263, R265). -/
structure Frame where
  kind : FrameKind
  /-- VLAN ID, none for an untagged frame. -/
  vlan : Option Nat
  /-- FEC codewords corrected and found uncorrectable since the frame before (R262, R291). -/
  corrected : Nat
  lost : Nat
  fcsOk : Bool
  bytes : Nat
  isProtected : Bool
  icvOk : Bool
  replayOk : Bool
  deriving DecidableEq, Repr

/-- Why a monitor, a path or a store changed state is environment data; each kind is named here.
Fabric faults of Table 7-6. -/
inductive PathFault where
  | meshLink (die : DieIx) (cluster dir : Nat)
  | meshRouter (c : ClusterIx)
  | dieLink (die : DieIx) (south : Bool)
  | stackEdge (k : StackIx)
  | portEdge
  deriving DecidableEq, Repr

/-- Memory that a transfer or a stream reads or writes: a core's local memory, or the regions of a group in
the Basin of a cluster (R138, R173). -/
inductive MemUnit where
  | core (c : CoreIx)
  | basin (g : GroupIx) (c : ClusterIx)
  deriving DecidableEq, Repr

/-- Where a flit is checked (R169). -/
inductive HopUnit where
  | router (c : ClusterIx)
  | crossbar (c : ClusterIx)
  | core (c : CoreIx)
  | link (die : DieIx) (south : Bool)
  | basin (reader : CoreIx)
  | stack (k : StackIx)
  deriving DecidableEq, Repr

/-- The arbitration that a flit won (R178, R179): the output, the input granted, and the inputs that asked for the output in
that clock and got no slot. -/
structure FlitArb where
  port : Nat
  input : Nat
  losers : List Nat
  deriving DecidableEq, Repr

/-- A measured column of a calibration step (R118, R120): its 56 sweep readings, by logical column, or in a spare step
by spare; unlisted columns read as a nominal column does. -/
abbrev SweepReads := List (Nat × List Int)

/-- Row-test readings of a calibration step (R118): by vector, deviations of the 530 columns from
the readings expected of the step's own tile. -/
abbrev RowReads := List (List (Nat × Int))

/-- A PTP Announce as best-master selection compares it (R305): priority 1, class, accuracy,
variance, priority 2, identity, steps removed, in that order, and the domain. -/
structure PtpAnn where
  ranks : List Nat
  identity : Nat
  domain : Nat
  deriving DecidableEq, Repr

/-- Judged clocks of a monitor window (R301): HREFCLK count, PLLs out of lock by domain, loss. -/
structure ClockWindow where
  die : DieIx
  count : Nat
  unlocked : Option Nat
  lost : Bool
  /-- Ring cycles over 1,563 HREFCLK cycles, 0 for a stopped ring. -/
  ring : Nat
  deriving DecidableEq, Repr

/-- What the input quantiser takes (R75, R76): values of a vector register, or a record stored at an offset of local
memory, which enters as it stands. -/
inductive QuantSrc where
  | values (r : VReg)
  | record (off : Nat)
  deriving DecidableEq, Repr

/-- What start-up calibration read of one array (R132): its sweep and row test, and those of the one repeat of a bad
run, each reading the sum of 256; the row localisation of either, keyed by 9 × row group + vector; and the sweeps of spare
columns, keyed by 530 + spare, where these are sums of one reading. -/
structure StartupReads where
  core : CoreIx
  eng : EngIx
  arrB : Bool
  sweep : SweepReads
  rows : RowReads
  sweep2 : SweepReads
  rows2 : RowReads
  loc : List (Nat × Int)
  deriving DecidableEq, Repr

/-- Functions of the vector unit that the spec defines, each on values of its first source; every other one has a number
of its own (log 9). -/
inductive VecFn where
  | other (code : Nat)
  /-- A query or key of a layer, rotated at the position of a row of a context's tick (R208, R209). -/
  | rotate (ctx layer row : Nat)
  /-- Scores of a prefill row against positions of its context from a first one, times SCALE, masked (R213). -/
  | mask (ctx layer row first : Nat)
  /-- The steps of a softmax (R213): the maximum, the exponentials below the second source's value, their sum, and the
  division by the second source's value. -/
  | maximum
  | expBelow
  | total
  | quotient
  deriving DecidableEq, Repr

/-- A row given to the router (R157): its number, its slot if it is a decoding row, and its gate logits. A prefill row's
number is the plan's DECODE_ROWS_MAX and its place among the tick's prefill rows, in order of admission and position. -/
structure RouteIn where
  row : Nat
  slot : Option Nat
  gates : VReg
  deriving DecidableEq, Repr

/-- What the granule that scrub reads holds, by Tables 13-1 and 13-12. -/
inductive ScrubHolds where
  /-- Nothing in use. -/
  | free
  /-- Weights or adapters of an active generation (R337). -/
  | weights (group : GroupIx)
  /-- A page of a context, resident or on its way out, in its own memory or the spill pool's: layer and
  page position. -/
  | page (ctx layer page : Nat)
  | plan (group : GroupIx)
  | stagedPlan (group : GroupIx)
  | context (ctx : Nat)
  /-- Entries of an instance's tile directory or attention table, with the tiles and layers described. -/
  | directory (group : GroupIx) (tiles layers : List Nat)
  | calSet (core : CoreIx) (eng : EngIx) (arrB : Bool) (slot : Fin 4)
  /-- The firmware image or anything else of the system region. -/
  | system
  deriving DecidableEq, Repr

/-- The commands and events of the block. -/
inductive Instr where
  | sessionOpen (src version key : Nat) (nonce : List Byte) (mct plans manifests : Nat) (signed tag : List Byte)
  | sessionConfirm (h : Hdr)
  | keepalive (h : Hdr)
  | sessionClose (h : Hdr)
  | versionQuery (h : Hdr)
  | sessionQuery (h : Hdr)
  | regRead (h : Hdr) (addr count : Nat)
  | regWrite (h : Hdr) (addr : Nat) (value mask : Word)
  | rcRegisterRead (h : Hdr) (addr : Nat)
  | latchingLowHalfRead (h : Hdr) (addr : Nat)
  | cfgRead (h : Hdr) (item : CfgKey)
  | cfgWrite (h : Hdr) (value : CfgVal)
  | deviceQuery (h : Hdr)
  | deviceReset (h : Hdr) (force : Bool)
  | fwBegin (h : Hdr) (len : Nat) (digest : List Byte)
  | fwData (h : Hdr) (off : Nat) (data : List Byte)
  | fwCommit (h : Hdr)
  | attestQuote (h : Hdr) (nonce : List Byte) (scope : Nat)
  | keyEnrol (h : Hdr) (record : List Byte)
  | keyRevoke (h : Hdr) (key : Nat)
  | groupForm (h : Hdr) (group mask : Nat)
  | groupDissolve (h : Hdr) (group : Nat)
  | modelLoad (h : Hdr) (group : Nat) (loc : StorageLoc) (reads : Reads)
  | modelAbort (h : Hdr) (group : Nat)
  | instanceQuery (h : Hdr) (group : Nat)
  | instanceUnload (h : Hdr) (group : Nat) (force : Bool)
  | loadReport (h : Hdr) (group tensor : Nat)
  | adapterLoad (h : Hdr) (group ident tenant : Nat) (loc : StorageLoc) (reads : Reads)
  | adapterUnload (h : Hdr) (group ident : Nat)
  | adapterQuery (h : Hdr) (group ident : Nat)
  | ctxCreate (h : Hdr) (f : CtxFields)
  | ctxDelete (h : Hdr) (ctx tenant : Nat)
  | ctxSet (h : Hdr) (ctx tenant policy shift : Nat) (backing : Backing)
  | ctxTruncate (h : Hdr) (ctx tenant pos : Nat)
  | ctxSuspend (h : Hdr) (ctx tenant : Nat)
  | ctxSuspendComplete (ctx : Nat) (leftOut : List (Nat × Nat))
  | ctxRestore (h : Hdr) (group tenant tag : Nat) (backing : Backing)
  | ctxRestoreComplete (ctx : Nat) (image : Option (List Byte)) (unreadable : List (Nat × Nat))
  | ctxQuery (h : Hdr) (ctx tenant : Nat)
  | reqSubmit (h : Hdr) (r : ReqFields)
  | reqTokens (h : Hdr) (req : Nat) (tokens : List Nat) (more : Bool)
  | reqTokensTimeout (sess req : Nat)
  | reqCancel (h : Hdr) (req : Nat)
  | reqQuery (h : Hdr) (req : Nat)
  | planBegin (h : Hdr) (group len : Nat) (digest : List Byte)
  | planData (h : Hdr) (group off : Nat) (data : List Byte)
  | planCommit (h : Hdr) (group : Nat)
  | planAbort (h : Hdr) (group : Nat)
  | planQuery (h : Hdr) (group : Nat)
  | variantForce (h : Hdr) (group code : Nat)
  | planRetire (h : Hdr) (group : Nat)
  | balanceSet (h : Hdr) (group : Nat) (b : Balance)
  | balanceQuery (h : Hdr) (group : Nat)
  | coreFence (h : Hdr) (core : Nat)
  | coreUnfence (h : Hdr) (core : Nat)
  | coreUnfenceTestDone (core : CoreIx) (failed : Option Nat) (reads : List StartupReads)
  | probeLoad (h : Hdr) (loc : StorageLoc)
  | probePackFetchDone (pack : Option (List Byte))
  | probeResults (h : Hdr) (pack : Nat)
  | calRequest (h : Hdr) (scope : CalScope)
  | calCancel (h : Hdr) (scope : CalScope)
  | calDiscard (h : Hdr) (scope : CalScope) (slots : Nat)
  | redundancySet (h : Hdr) (group : Nat) (on : Bool)
  | telemetrySet (h : Hdr) (period mask : Nat)
  | telemetryQuery (h : Hdr) (mask : Nat)
  | telemetryReport (sess : Nat)
  | eventRead (h : Hdr) (first count : Nat)
  | eventNotify (h : Hdr) (severity : Option Nat)
  | evtAck (h : Hdr) (mask : Word)
  | timeQuery (h : Hdr)
  | epochSet (h : Hdr) (epoch : Nat)
  | hostSentDeviceOnlyOpcode (h : Hdr) (opcode : Nat)
  | unlistedOpcode (h : Hdr) (opcode : Nat)
  | mctMessageDropped (outOfWindow : Bool)
  | sessionOpenTimeout (sess : Nat)
  | sessionInactivityTimeout (sess : Nat)
  | deviceMessageResend (sess dseq : Nat)
  | engCtrlWrite (h : Hdr) (core : CoreIx) (eng : EngIx) (value mask : Word)
  | tileSelWrite (h : Hdr) (core : CoreIx) (value mask : Word)
  | calCtrlWrite (h : Hdr) (value mask : Word)
  | calBoundsWrite (h : Hdr) (value mask : Word)
  | portReserveWrite (h : Hdr) (value mask : Word)
  | evtCauseWrite (h : Hdr) (value mask : Word)
  | evtMaskWrite (h : Hdr) (value mask : Word)
  | pkgThrottleWrite (h : Hdr) (value mask : Word)
  | coreIdleWrite (h : Hdr) (value mask : Word)
  | ringmasterMhzWrite (h : Hdr) (value mask : Word)
  | pkgGateWrite (h : Hdr) (value mask : Word)
  | dieGateWrite (h : Hdr) (die : DieIx) (value mask : Word)
  | gateCoreWrite (h : Hdr) (die : DieIx) (value mask : Word)
  | domCtrlWrite (h : Hdr) (die : DieIx) (dom : Fin 9) (value mask : Word)
  | domSscWrite (h : Hdr) (die : DieIx) (dom : Fin 9) (value mask : Word)
  | scrubCtrlWrite (h : Hdr) (value mask : Word)
  | threshDieWrite (h : Hdr) (value mask : Word)
  | threshStackWrite (h : Hdr) (value mask : Word)
  | trigCtrlWrite (h : Hdr) (value mask : Word)
  | trigTimeHiWrite (h : Hdr) (value mask : Word)
  | monCalWrite (h : Hdr) (value mask : Word)
  | seqWrite (h : Hdr) (die : DieIx) (conv : Fin 4) (entry : Fin 16) (value mask : Word)
  | pipeCtrlWrite (h : Hdr) (die : DieIx) (value mask : Word)
  | boundaryMarkSend (group : GroupIx) (lost : List CoreIx)
  | boundaryMarkResend (group : GroupIx) (lost : List CoreIx)
  | groupTickBoundary (group : GroupIx)
  | tickComplete (group : GroupIx) (clock : Nat)
  | maintenanceWindow (group : GroupIx)
  | load (d : LoadDesc) (errs : List GranErr) (late resends : Nat)
  | loadReread (core : CoreIx) (eng : EngIx) (arrB : Bool) (errs : SymErrs) (stall : Nat)
  | fire (op : FireOp) (env : FireEnv) (twin : PairEnv)
  | firePair (op : FireOp) (env twin : PairEnv)
  | fireDense (op : FireOp) (env : List FireEnv) (twin : PairEnv)
  | splitReplay (core : CoreIx) (eng : EngIx) (env : List FireEnv)
  | fireReplay (core : CoreIx) (eng : EngIx) (env twin : PairEnv)
  | stepReplay (core : CoreIx) (tile : Fin 64) (envs : List PairEnv)
  | replayCreditTopup (core : CoreIx) (waited : Nat)
  | exhaustedNotice (core : CoreIx)
  | expertRun (op : FireOp) (group : GroupIx) (poolGroup : Nat) (nibble : Bool)
      (tiles : List ExpertTile)
  | casClear (core : CoreIx) (tile : Fin 64) (w : Int) (g : Nat) (hold : Nat)
  | cascadeGroupSum (core : CoreIx) (tile : Fin 64) (group : Nat) (errs : List (Nat × SymErrs))
  | casDrain (core : CoreIx) (tile : Fin 64) (factors : Option VReg) (bf16 toMemory : Bool) (dst : Nat)
      (errs : List (Nat × SymErrs)) (hold : Nat)
  | casExport (core : CoreIx) (tile : Fin 64) (dstCore : CoreIx) (dstTile : Fin 64) (errs : List (Nat × SymErrs)) (hold : Nat)
  | casMerge (core : CoreIx) (tile : Fin 64) (srcCore : CoreIx) (srcTile : Fin 64) (errs : List (Nat × SymErrs)) (hold : Nat)
  | quant (core : CoreIx) (src : QuantSrc) (srcBlock : Nat) (engines : List (EngIx × Nat)) (rho : Option (Fin 5))
      (wide : Bool) (set : List VReg) (store : Option Nat)
  | vecElem (core : CoreIx) (fn : VecFn) (n : Nat) (srcs : List VReg) (dst : VReg)
  | vecTrans (core : CoreIx) (fn : VecFn) (n : Nat) (srcs : List VReg) (dst : VReg)
  | vecReduce (core : CoreIx) (fn : VecFn) (n : Nat) (srcs : List VReg) (dst : VReg)
  | route (core : CoreIx) (group : GroupIx) (layer : Nat) (rows : List RouteIn)
  | assign (core : CoreIx) (group : GroupIx) (layer : Nat)
  | memRead (group : GroupIx) (layer : Nat) (kv : Bool) (granules : List Nat) (errs : List GranErr) (dst : MemUnit) (off resends : Nat)
  | memWrite (group : GroupIx) (layer : Nat) (ctx : Nat) (pos : Nat) (core : CoreIx) (src : List VReg)
  | xfer (src : MemUnit) (dst : MemUnit) (srcOff dstOff bytes : Nat) (errs : List GranErr) (delivered : Bool)
  | transferAck (src dst : MemUnit) (seq : Nat)
  | transferResend (src dst : MemUnit) (seq : Nat) (delivered : Bool)
  | attnPage (core : CoreIx) (desc : Nat) (query : List VReg) (current : VReg) (wait out : Nat) (bf16 : Bool)
  | sample (group : GroupIx) (sess req : Nat) (logits : List (CoreIx × VReg))
  | frame (group : GroupIx) (sess : Nat)
  | aoaClear (core : CoreIx) (grp : Fin 4)
  | aoaDrain (core : CoreIx) (grp : Fin 4) (dst : VReg)
  | sync (core : CoreIx)
  | pageWalk (group : GroupIx) (ctx layer : Nat) (prefill : Bool) (lcore span : Nat) (late : Bool)
  | sluiceDescriptor (stack : StackIx) (desc : Nat) (errs : List GranErr)
  | pageTablePrepare (group : GroupIx) (ctx : Nat)
  | spillWrite (stack : StackIx) (ctx layer page : Nat)
  | spillWriteComplete (ctx layer page : Nat) (ok : Bool)
  | balancerChooseRows (group : GroupIx)
  | shardFetch (group : GroupIx) (ident : Option Nat) (shard : Nat)
  | shardAttemptTimeout (group : GroupIx) (ident : Option Nat) (shard : Nat)
  | shardDigestCheck (group : GroupIx) (ident : Option Nat) (shard : Nat) (data : List Byte)
  | flitReceived (hop : HopUnit) (data : Nat) (errs : SymErrs) (tagParity : Bool) (arb : FlitArb)
  | controlMessageHop (segment : Nat) (core : Option CoreIx) (data : Nat) (errs : List SymErrs)
  | cnSegmentRetrain (segment : Nat) (ok : Bool)
  | coreStop (core : CoreIx)
  | stageFailover (c : ClusterIx) (dir : Nat)
  | fabricPathFault (f : PathFault)
  | usherComputeDone (micros : Nat)
  | calRunStart (core : CoreIx) (eng : EngIx) (arrB : Bool)
  | calStep (core : CoreIx) (eng : EngIx) (arrB : Bool) (sweep : SweepReads) (rows : RowReads)
  | calSpareStep (core : CoreIx) (eng : EngIx) (arrB : Bool) (spares : SweepReads)
  | calRowLocalisation (core : CoreIx) (eng : EngIx) (arrB : Bool) (rows : List (Nat × Int))
  | calRunAbandon (core : CoreIx) (eng : EngIx) (arrB : Bool)
  | calIntervalRequest (core : CoreIx) (eng : EngIx) (arrB : Bool)
  | probeSweepStart
  | probeSegment (core : CoreIx) (segment : Nat) (results : List Int)
  | scrubGranuleRead (stack : StackIx) (errs errs2 : SymErrs) (written : Bool) (holds : ScrubHolds)
  | monitorConversion (die : DieIx) (conv : Fin 4) (code value : Nat)
  | stackSensorRead (stack : StackIx) (reading : Option Int)
  | thermalTrip (die : DieIx) (cluster : Fin 8)
  | droopEvent (die : DieIx) (minMv samples : Nat) (capture : List (Nat × Nat))
  | monitorTrigger (snaps : List (Nat × Nat))
  | monitorSelfCalDone (die : DieIx) (factors : List (Nat × Nat))
  | clockMonitorWindow (w : ClockWindow)
  | ringRetune (die : DieIx) (up : Option Bool)
  | timeSyncPulse
  | ptpAnnounce (a : PtpAnn)
  | ptpSync (offset : Int) (delay freqAdj : Int)
  | ptpAnnounceTimeout (other : Option PtpAnn)
  | linkTrainingAttempt (locked : Fin 256)
  | linkDown
  | lldpSend
  | lldpReceived (chassis ttl : Nat)
  | lldpTtlExpiry
  | mkaRetry (ok : Bool)
  | addressLoss (v6 : Bool)
  | announce
  | ethFrameReceived (f : Frame)
  | roceRateRecovery (qp : Nat)
  | nvmeKeepAlive
  | storageTargetLost (target : Nat)
  | storageReconnect (connected : List (Nat × List (Nat × Nat)))
  | rbsySwitchLowEnd
  | rstNLow
  | powerGoodLow (mem : Bool)
  | resetRelease (pufOk : Bool) (ringWindows : List Nat)
  | thermalTripHold
  | controlNetworkTraining (failed : List Nat)
  | dieLinkTraining (attempts : List (DieIx × Bool × Nat))
  | stackTraining (attempts : List (StackIx × Nat))
  | coreCensus (failed : List (CoreIx × Nat))
  | startupCalibration (reads : List StartupReads)
  | ptpLockWait
  | inServiceAnnounce
  | bottomTreeBuildDone
  | operatingSecondsStore
  | eventRecordCommit
  | discoveryStepBound (address : Option (Bool × Nat))
  | planVerificationEnd (group : GroupIx)
  | hrefclkLossUnarmedDie (die : DieIx)
  | dieLinkRetrain (die : DieIx) (south ok : Bool)
  | holdTempUpdate
  deriving DecidableEq, Repr

end Sys2Proof
end

