-- ==== Sys2Proof/Decode.lean ====
section
/-!
DEFINITION. The command a word spells by the table's bits. No row of spec/opcode_table.json gives
bits, so no word spells a command.
-/

namespace Sys2Proof

/-- The command that the bits w of an nbits-bit word spell. -/
def decodeTableWord (_nbits _w : Nat) : Option Instr := none

end Sys2Proof
end

