-- ==== Sys2Proof/Machine/ArrayOps.lean ====
section
/-!
DEFINITION. What an array computes: the cells a load writes, the chain sums of a fire, the corrected
readings, the slice combination, the checksum and the reference columns (R34 to R64, R102).
-/

namespace Sys2Proof.Machine

/-- Outputs of a tile (R41). -/
def WFmt.outs : WFmt → Nat
  | .mv4 => 64
  | .mv2 => 128
  | .mt => 256

/-- Data columns per weight (Table 2-4). -/
def WFmt.colsPer : WFmt → Nat
  | .mv4 => 8
  | .mv2 => 4
  | .mt => 2

/-- Format exponent of a fire's counts (R42, R83). -/
def fmtExp (f : WFmt) (h : Mv8Half) : Int :=
  match f, h with
  | .mv2, _ => -1
  | _, .high => 4
  | _, _ => 0

/-- The data-column bits of one weight, in the order of Table 2-4 (R41). -/
def weightBits (f : WFmt) (w : Int) : List Bool :=
  let v := fieldOfInt 4 w
  match f with
  | .mv4 =>
    let b := fun (i : Nat) => v.testBit i
    [b 3, b 3, b 3, b 3, b 2, b 2, b 1, b 0]
  | .mv2 => [v.testBit 1, v.testBit 1, v.testBit 0, v.testBit 0]
  | .mt => [decide (w = 1), decide (w = -1)]

/-- A bit list as a natural, first element lowest. -/
def natOfBits : List Bool → Nat
  | [] => 0
  | b :: r => (if b then 1 else 0) + 2 * natOfBits r

/-- Data bits 0 to 511 of a row (R41). -/
def dataBits (f : WFmt) (codes : List Int) : Nat :=
  natOfBits ((codes.map (weightBits f)).flatten)

/-- One step of the RC7 register (R46). -/
def lfsrStep (x : Nat) : Nat :=
  let fb := ((x.testBit 0 ^^ x.testBit 2) ^^ x.testBit 3) ^^ x.testBit 5
  x / 2 + (if fb then 0x8000 else 0)

/-- Cells of RC7 on the first n rows from a register value (R46). -/
def lfsrBits : Nat → Nat → List Bool
  | 0, _ => []
  | n + 1, x => let y := lfsrStep x; y.testBit 0 :: lfsrBits n y

/-- REF_SEED (R65). -/
def refSeed : Nat := 0xACE1

/-- The RC7 pattern of all 256 rows, as a bit mask by row. -/
def rc7Mask : Nat := natOfBits (lfsrBits 256 refSeed)

/-- The cell of reference column k on logical row r (Table 2-5). -/
def refCell (k r : Nat) : Bool :=
  match k with
  | 0 => true
  | 1 => false
  | 2 => r % 2 == 0
  | 3 => r % 2 == 1
  | 4 => decide (r < 128)
  | 5 => decide (128 ≤ r)
  | 6 => r % 4 == 0
  | 7 => rc7Mask.testBit r
  | _ => false

/-- Logical column bits 0 to 529 of a row: data, checksum weight in ten bits, references (R57). -/
def rowBits (f : WFmt) (r : Nat) (codes : List Int) : Nat :=
  dataBits f codes + 2 ^ 512 * fieldOfInt 10 (codes.foldl (· + ·) 0)
    + 2 ^ 522 * natOfBits ((List.range 8).map (fun k => refCell k r))

/-- Spare column serving a logical column, if any. -/
def spareOf (m : Tbl Nat) (x : Nat) : Option Nat :=
  (m.find? (fun p => p.2 == x)).map (·.1)

/-- Physical column serving a logical column (R34, R35). -/
def physCol (cal : ArrayCal) (c : Nat) : Nat :=
  match spareOf cal.colMap c with
  | some s => 530 + s
  | none => c

/-- Physical row serving a logical row (R34, R35). -/
def physRow (cal : ArrayCal) (r : Nat) : Nat :=
  match spareOf cal.rowMap r with
  | some s => 256 + s
  | none => r

/-- The physical columns of a row under the column repair map: each spare in use takes the bits of
the column it serves, and the retired column is written with zeros (R35, R57). -/
def mapCols (m : Tbl Nat) (bits : Nat) : Nat :=
  m.foldl (fun acc p =>
    if bits.testBit p.2 then (acc - 2 ^ p.2) + 2 ^ (530 + p.1) else acc) bits

/-- The 264 physical rows a load writes (R57): spare rows that serve no row, and retired rows, hold
zeros. A tile in memory has all its 256 rows, and a row whose weights are zeros holds its reference bits like any other, as
Table 2-5 has it; R57 writes rows that the tile does not use as zeros and does not say which these are (DESIGN CHOICE, log
141). -/
def loadCells (cal : ArrayCal) (f : WFmt) (rows : List (List Int)) : List Nat :=
  let word := fun (r : Nat) => mapCols cal.colMap (rowBits f r (rows.getD r []))
  (List.range 264).map (fun p =>
    if p < 256 then (if (spareOf cal.rowMap p).isSome then 0 else word p)
    else match cal.rowMap.get? (p - 256) with
      | some r => word r
      | none => 0)

/-- The cell of logical row r and logical column c. -/
def cellAt (a : ArrayState) (r c : Nat) : Bool :=
  (a.cells.getD (physRow a.cal r) 0).testBit (physCol a.cal c)

/-- Rows driven by an entry, restricted to rows in [lo, hi): those with a magnitude other than 0
(R37, R53). -/
def driven (elems : List Elem) (lo hi : Nat) : List (Nat × Elem) :=
  (elems.zipIdx.map (fun p => (p.2, p.1))).filter
    (fun p => decide (p.2.2 ≠ 0) && decide (lo ≤ p.1) && decide (p.1 < hi))

/-- Signed value of an element. -/
def Elem.val (x : Elem) : Int := if x.1 then -(x.2 : Int) else (x.2 : Int)

/-- P and N sums of a logical column (R38). -/
def chains (a : ArrayState) (act : List (Nat × Elem)) (c : Nat) : Nat × Nat :=
  act.foldl (fun s p =>
    if cellAt a p.1 c then
      (if p.2.1 then (s.1, s.2 + p.2.2) else (s.1 + p.2.2, s.2))
    else s) (0, 0)

/-- What the analogue circuits add to a reading beyond the exact sum, by logical column: an operand
of every fire, supplied by the environment (noise, drift and defects; Table 2-3). -/
abbrev Deviation := List (Nat × Int)

def devAt (d : Deviation) (c : Nat) : Int :=
  match d.find? (fun p => p.1 == c) with
  | some p => p.2
  | none => 0

/-- Reading of a logical column: P − N with the deviation, held to the converter's range (R38). -/
def rawReading (a : ArrayState) (act : List (Nat × Elem)) (dev : Deviation) (c : Nat) : Int :=
  let pn := chains a act c
  clampInt ((pn.1 : Int) - (pn.2 : Int) + devAt dev c) (-1023) 1023

/-- Values in force of the physical column serving a logical column. -/
def colVal (cal : ArrayCal) (c : Nat) : ColVal := cal.inForce.getD (physCol cal c) ColVal.nominal

/-- Corrected reading d' (R102). -/
def corrected (cal : ArrayCal) (c : Nat) (d : Int) : Int :=
  let v := colVal cal c
  let off : Frac := ⟨v.o + cal.drift.oA, 4⟩
  (((Frac.ofInt d).sub off).mul ⟨(v.g : Int) * (cal.drift.gA : Int), 32768 * 32768⟩).round

/-- Weir flags of a fire: logical columns whose P or N chain collects more than 1,023 units, lowest
first, with true for N (R39). P is reported when both flag. -/
def weirFlags (a : ArrayState) (act : List (Nat × Elem)) : List (Nat × Bool) :=
  (List.range 530).filterMap (fun c =>
    let pn := chains a act c
    if 1023 < pn.1 then some (c, false) else if 1023 < pn.2 then some (c, true) else none)

/-- Corrected readings of all 530 logical columns (R38, R102). -/
def readings (a : ArrayState) (act : List (Nat × Elem)) (dev : Deviation) : List Int :=
  (List.range 530).map (fun c => corrected a.cal c (rawReading a act dev c))

/-- Readings of a row-group fire, with the flagged columns' readings clamped to ±960 (R54). -/
def groupReadings (a : ArrayState) (act : List (Nat × Elem)) (dev : Deviation)
    (faults : List (Nat × Bool)) : List Int :=
  (List.range 530).map (fun c =>
    let d := rawReading a act dev c
    let d := if faults.any (fun p => p.1 == c) then clampInt d (-960) 960 else d
    corrected a.cal c d)

/-- Sum of two reading lists. -/
def addLists (x y : List Int) : List Int := List.zipWith (· + ·) x y

/-- Slice combination of one weight's readings (R42). -/
def combineOne (f : WFmt) (d : List Int) : Int :=
  let g := fun (i : Nat) => d.getD i 0
  match f with
  | .mv4 => -2 * (g 0 + g 1 + g 2 + g 3) + 2 * (g 4 + g 5) + 2 * g 6 + g 7
  | .mv2 => -2 * (g 0 + g 1) + (g 2 + g 3)
  | .mt => g 0 - g 1

/-- Combined counts of a fire from its 530 corrected readings (R42, R43). -/
def combine (f : WFmt) (d : List Int) : List Int :=
  (List.range f.outs).map (fun j => combineOne f ((d.drop (j * f.colsPer)).take f.colsPer))

/-- CSV = Σ 2^b d(CSb) for b from 0 to 8, less 512 d(CS9) (R45). -/
def csv (d : List Int) : Int :=
  (List.range 9).foldl (fun s b => s + (2 ^ b : Nat) * d.getD (512 + b) 0) 0 - 512 * d.getD 521 0

def sumInts (l : List Int) : Int := l.foldl (· + ·) 0

/-- Checksum residual (R45). -/
def csResidual (f : WFmt) (d : List Int) (counts : List Int) : Int :=
  (match f with | .mv2 => 2 | _ => 1) * csv d - sumInts counts

/-- Expected reading E_k of a reference column (R46). -/
def refExpected (act : List (Nat × Elem)) (k : Nat) : Int :=
  sumInts (act.map (fun p => if refCell k p.1 then p.2.val else 0))

/-- Result of a fire that was evaluated (R47). -/
structure FireResult where
  counts : List Int
  csRes : Int
  refRes : List Int
  expect : List Int
  rc1 : Int
  csFail : Bool
  refFails : List Nat
  readings : List Int
  deriving DecidableEq, Repr

/-- Tests and combination of a fire's readings (R42 to R47). The low tile of an MV8 pair then adds
8 × Σ x_r to every count (R72). Masked reference columns are dropped from the test (R104). -/
def evaluate (a : ArrayState) (f : WFmt) (h : Mv8Half) (act : List (Nat × Elem)) (d : List Int) :
    FireResult :=
  let counts := combine f d
  let cs := csResidual f d counts
  let ex := (List.range 8).map (refExpected act)
  let rr := (List.range 8).map (fun k => d.getD (522 + k) 0 - ex.getD k 0)
  let fails := (List.range 8).filter (fun k =>
    !(a.cal.drift.mask.contains k) && decide (a.cal.refTol < (rr.getD k 0).natAbs))
  let sx := ex.getD 0 0
  { counts := (match h with
      | .low => counts.map (· + 8 * sx)
      | _ => counts)
    csRes := cs, refRes := rr, expect := ex, rc1 := d.getD 523 0
    csFail := decide (a.cal.csTol < cs.natAbs), refFails := fails, readings := d }

/-- The code of weight j on row r, read back from the cells (Table 2-4). -/
def cellCode (a : ArrayState) (f : WFmt) (r j : Nat) : Int :=
  let b := fun (i : Nat) => if cellAt a r (j * f.colsPer + i) then (1 : Int) else 0
  match f with
  | .mv4 => -8 * b 0 + 4 * b 4 + 2 * b 6 + b 7
  | .mv2 => -2 * b 0 + b 2
  | .mt => b 0 - b 1

/-- Row group limits (R34). -/
def rowGroup (g : Nat) : Nat × Nat := (64 * g, 64 * g + 64)

end Sys2Proof.Machine
end

