-- ==== Sys2Proof/Machine/Formats.lean ====
section
/-!
DEFINITION. The narrow formats: block scales, the rounding of weights, activations and key-value
blocks, outlier extraction, the granule layouts of tiles and records, and the import of
Microscaling elements (R67 to R81, R95 to R99).
-/

namespace Sys2Proof.Machine

/-- A real number, or an infinity, or a NaN. -/
inductive Num where
  | fin (v : Frac)
  | inf (neg : Bool)
  | nan
  deriving DecidableEq, Repr

/-- The number an FP32 pattern stands for. -/
def numOfFp (w : Word) : Num :=
  if fpIsNaN w then .nan else if fpNonFinite w then .inf (fpNeg w) else .fin (fpValue w)

def Num.isFin : Num → Bool
  | .fin _ => true
  | _ => false

def Num.frac : Num → Frac
  | .fin v => v
  | _ => ⟨0, 1⟩

/-- w × 2^−s rounded to nearest, ties to even. -/
def scaled (w : Frac) (s : Int) : Int := (w.mul (Frac.dyadic 1 (-s))).round

/-- Largest of a list of fractions, at least 0. -/
def maxFrac (l : List Frac) : Frac := l.foldl Frac.max ⟨0, 1⟩

/-- Smallest s from a start for which a test holds, at most `fuel` steps up. -/
def searchUp (p : Int → Bool) : Nat → Int → Int
  | 0, s => s
  | n + 1, s => if p s then s else searchUp p n (s + 1)

/-- Smallest s, not below −126, for which every round(w × 2^−s) lies in qmin to qmax (R73). Rounding
is monotone, so the extremes decide. -/
def findScale (ws : List Frac) (qmin qmax : Int) : Int :=
  let hi := maxFrac ws
  let lo := maxFrac (ws.map Frac.neg)
  let a := hi.max lo
  if a.isZero then -126
  else
    let start := if a.log2 - 10 < -126 then -126 else a.log2 - 10
    searchUp (fun s => decide (scaled hi s ≤ qmax) && decide (qmin ≤ scaled lo.neg s)) 20 start

/-- Outcome of rounding one block: codes with an E8, the two rejections of R73, or a block that
rounds entirely to zero. -/
inductive BlockRes where
  | ok (codes : List Int) (e8 : Nat)
  | vanished
  | invalid
  deriving DecidableEq, Repr

/-- Steps 2 to 6 of R73 on finite values. -/
def roundBlock (ws : List Frac) (qmin qmax : Int) : BlockRes :=
  if ws.all Frac.isZero then .ok (ws.map (fun _ => 0)) 0
  else
    let s := findScale ws qmin qmax
    if 127 < s then .invalid
    else
      let q := ws.map (fun w => scaled w s)
      if q.all (· == 0) then .vanished else .ok q (s + 127).toNat

/-- Weight formats of a manifest tensor (Table 3-1). -/
inductive TFmt where
  | mv4 | mv2 | mt | mv8
  deriving DecidableEq, Repr

/-- Code ranges of Table 3-1. -/
def TFmt.range : TFmt → Int × Int
  | .mv4 => (-8, 7)
  | .mv2 => (-2, 1)
  | .mt => (-1, 1)
  | .mv8 => (-128, 127)

/-- Outputs of one tile in a tensor format (Table 3-3). -/
def TFmt.outs : TFmt → Nat
  | .mv4 => 64
  | .mv2 => 128
  | .mt => 256
  | .mv8 => 64

/-- Largest list budget B (Table 4-1). -/
def TFmt.maxBudget : TFmt → Nat
  | .mv4 => 163
  | .mv2 => 327
  | .mt => 655
  | .mv8 => 0

/-- The loader's rounding of a weight block (R73): a block that rounds to zero is rejected too. -/
def roundWeights (ws : List Num) (f : TFmt) : Option (List Int × Nat) :=
  if ws.all Num.isFin then
    match roundBlock (ws.map Num.frac) f.range.1 f.range.2 with
    | .ok c e => some (c, e)
    | _ => none
  else none

/-- High and low codes of an MV8 weight (R72). -/
def mv8Split (w : Int) : Int × Int := (w / 16, w % 16 - 8)

/-- Insert into a list ordered by a test `before`. -/
def insertBy {α : Type} (before : α → α → Bool) (x : α) : List α → List α
  | [] => [x]
  | y :: r => if before x y then x :: y :: r else y :: insertBy before x r

/-- Insertion sort; equal elements keep their order. -/
def sortBy {α : Type} (before : α → α → Bool) (l : List α) : List α :=
  l.foldr (fun x r => insertBy (fun a b => !(before b a)) x r) []

/-- Mean absolute value of a block (R95, R98). -/
def meanAbs (vs : List Frac) : Frac :=
  if vs.length = 0 then ⟨0, 1⟩ else (Frac.sum (vs.map Frac.abs)).div (Frac.ofNat vs.length)

/-- A tile being formed by the loader: codes by output channel and row, scales, and its list. -/
structure FormedTile where
  /-- codes.[j] are the 256 codes of output j. -/
  codes : List (List Int)
  scales : List Nat
  listE8 : Nat
  list : List ListEntry
  /-- Candidates beyond the budget (R95). -/
  beyond : Nat
  deriving DecidableEq, Repr

/-- Candidates of a tile in the order of R95: |w| / μ largest first, then lower row, then lower
output. Each is (output, row, |w| / μ). -/
def tileCandidates (cols : List (List Frac)) (rho : Frac) : List (Nat × Nat × Frac) :=
  let all := (cols.zipIdx.map (fun (col, j) =>
    let mu := meanAbs col
    if mu.isZero then []
    else (col.zipIdx.filterMap (fun (w, r) =>
      if (rho.mul mu).lt w.abs then some (j, r, w.abs.div mu) else none)))).flatten
  sortBy (fun a b =>
    b.2.2.lt a.2.2 || (a.2.2.eq b.2.2 &&
      (decide (a.2.1 < b.2.1) || (a.2.1 == b.2.1 && decide (a.1 < b.1))))) all

/-- Form one tile from its output columns of 256 exact values (R73, R95, R96). None is the
loader's rejection of the model with ST_PLAN_INVALID. -/
def formTile (f : TFmt) (budget : Nat) (rho : Frac) (cols : List (List Num)) : Option FormedTile :=
  if !(cols.all (fun c => c.all Num.isFin)) then none
  else
    let vals := cols.map (fun c => c.map Num.frac)
    let cand := tileCandidates vals rho
    let take := if f = .mv8 then [] else cand.take budget
    let isOut := fun (j r : Nat) => take.any (fun t => t.1 == j && t.2.1 == r)
    let blocks := vals.zipIdx.map (fun (col, j) =>
      (roundBlock (col.zipIdx.map (fun (w, r) => if isOut j r then ⟨0, 1⟩ else w))
        f.range.1 f.range.2, col, j))
    if blocks.any (fun b => match b.1 with | .ok _ _ => false | _ => true) then none
    else
      let done := blocks.map (fun b => match b.1 with
        | .ok c e =>
          let s : Int := (e : Int) - 127
          let codes := c.zipIdx.map (fun (q, r) =>
            if isOut b.2.2 r then
              (if e = 0 then 0
               else clampInt (scaled (b.2.1.getD r ⟨0, 1⟩) s) f.range.1 f.range.2)
            else q)
          let res := (List.range 256).filterMap (fun r =>
            if isOut b.2.2 r then
              let q := codes.getD r 0
              let w := b.2.1.getD r ⟨0, 1⟩
              some (r, b.2.2, if e = 0 then w else w.sub (Frac.dyadic q s))
            else none)
          (codes, e, res)
        | _ => ([], 0, []))
      let resid := (done.map (·.2.2)).flatten
      let so := findScale (resid.map (·.2.2)) (-128) 127
      if 127 < so then none
      else
        let ents := sortBy (fun (a b : ListEntry) =>
            decide (a.row < b.row) || (a.row == b.row && decide (a.out < b.out)))
          (resid.map (fun t => (⟨t.1, t.2.1, scaled t.2.2 so⟩ : ListEntry)))
        some { codes := done.map (·.1), scales := done.map (·.2.1)
               listE8 := (so + 127).toNat, list := ents
               beyond := if f = .mv8 then 0 else cand.length - take.length }

/-- A 256-bit granule. -/
abbrev Granule := Nat

/-- Pack fields of a width into one granule, first field lowest. -/
def packFields (width : Nat) : List Nat → Nat
  | [] => 0
  | v :: r => v % 2 ^ width + 2 ^ width * packFields width r

/-- Two-bit code of an MT or MV2 weight (Table 3-3). -/
def code2 (w : Int) : Nat := fieldOfInt 2 w

/-- Granules of one outlier list (Table 4-2): up to ten entries each, LAST in the last. -/
def listGranules (e8 : Nat) : Nat → List ListEntry → List Granule
  | 0, _ => []
  | _, [] => []
  | fuel + 1, l =>
    let chunk := l.take 10
    let rest := l.drop 10
    let body := packFields 24 (chunk.map (fun e => e.row + 256 * e.out + 65536 * fieldOfInt 8 e.code))
    (body + chunk.length * 2 ^ 240 + (if rest.isEmpty then 2 ^ 244 else 0) + e8 * 2 ^ 245)
      :: listGranules e8 fuel rest

/-- Split a list into chunks of n. -/
def chunksOf {α : Type} (n : Nat) : Nat → List α → List (List α)
  | 0, _ => []
  | _, [] => []
  | fuel + 1, l => l.take n :: chunksOf n fuel (l.drop n)

/-- Scale granules: byte j at bits 8 (j mod 32) of granule j / 32 (Table 3-3). -/
def scaleGranules (scales : List Nat) : List Granule :=
  (chunksOf 32 scales.length scales).map (packFields 8)

/-- Codes of row r by output. -/
def rowCodes (codes : List (List Int)) (r : Nat) : List Int := codes.map (fun c => c.getD r 0)

/-- Granules of an array tile in the layout of Table 3-3. -/
def tileGranules (f : WFmt) (t : FormedTile) : List Granule :=
  let rows := match f with
    | .mv4 => (List.range 256).map (fun r =>
        packFields 4 ((rowCodes t.codes r).map (fieldOfInt 4)))
    | .mv2 => (List.range 256).map (fun r => packFields 2 ((rowCodes t.codes r).map code2))
    | .mt => ((List.range 256).map (fun r =>
        (chunksOf 128 2 (rowCodes t.codes r)).map (fun c => packFields 2 (c.map code2)))).flatten
  rows ++ scaleGranules t.scales ++ listGranules t.listE8 66 t.list

/-- Granules of a row and of the scales, by array format (Table 3-3). -/
def WFmt.rowGranules : WFmt → Nat
  | .mt => 2
  | _ => 1

def WFmt.scaleCount : WFmt → Nat
  | .mv4 => 2
  | .mv2 => 4
  | .mt => 8

/-- Granules before the outlier list (Table 3-3). -/
def WFmt.bodyGranules (f : WFmt) : Nat := 256 * f.rowGranules + f.scaleCount

/-- Codes of one row read from its granules; an MT row holding code 10 reads as zeros, with true
(R70, R71). -/
def decodeRow (f : WFmt) (gs : List Granule) : List Int × Bool :=
  match f with
  | .mv4 => ((List.range 64).map (fun j => intOfField 4 (bitsAt (gs.getD 0 0) (4 * j) 4)), false)
  | .mv2 => ((List.range 128).map (fun j => intOfField 2 (bitsAt (gs.getD 0 0) (2 * j) 2)), false)
  | .mt =>
    let raw := (List.range 256).map (fun j => bitsAt (gs.getD (j / 128) 0) (2 * (j % 128)) 2)
    if raw.any (· == 2) then (raw.map (fun _ => 0), true)
    else (raw.map (fun c => intOfField 2 c), false)

/-- Scales of a tile from its scale granules. -/
def decodeScales (f : WFmt) (gs : List Granule) : List Nat :=
  (List.range f.outs).map (fun j => bitsAt (gs.getD (j / 32) 0) (8 * (j % 32)) 8)

/-- Entries of one list granule (Table 4-2). -/
def decodeListGranule (g : Granule) : List ListEntry :=
  (List.range (min 10 (bitsAt g 240 4))).map (fun e =>
    { row := bitsAt g (24 * e) 8, out := bitsAt g (24 * e + 8) 8
      code := intOfField 8 (bitsAt g (24 * e + 16) 8) })

/-- The outlier list of a tile, or none where it is corrupt: an output outside the format, a row and
output named twice, or no LAST in the final granule (R97). -/
def decodeList (f : WFmt) (gs : List Granule) : Option (Nat × List ListEntry) :=
  if gs.isEmpty then some (0, [])
  else
    let ents := (gs.map decodeListGranule).flatten
    let keys := ents.map (fun e => e.row * 256 + e.out)
    if ents.any (fun e => decide (f.outs ≤ e.out)) then none
    else if keys.eraseDups.length ≠ keys.length then none
    else if (gs.getLastD 0).testBit 244 then some (bitsAt (gs.headD 0) 245 8, ents)
    else none

/-- A tile read from its granules: codes by row, rows loaded as zeros for code 10, scales and list.
None where the list is corrupt or a scale is 0xFF (R69, R97). -/
def decodeTile (f : WFmt) (gs : List Granule) :
    Option (List (List Int) × Nat × List Nat × Nat × List ListEntry) :=
  let rows := (List.range 256).map (fun r => decodeRow f ((gs.drop (r * f.rowGranules)).take f.rowGranules))
  let scales := decodeScales f ((gs.drop (256 * f.rowGranules)).take f.scaleCount)
  if scales.any (· == 255) then none
  else match decodeList f (gs.drop f.bodyGranules) with
    | none => none
    | some (e8, ents) =>
      some (rows.map (·.1), (rows.filter (·.2)).length, scales, e8, ents)

/-- Granules of a tile that make it corrupt (R69, R97), counted from its first: scale granules that hold 0xFF, list
granules that name an output outside the format or repeat a pair of row and output, and the last where LAST is not set. -/
def corruptGranules (f : WFmt) (gs : List Granule) : List Nat :=
  let at' := 256 * f.rowGranules
  let scales := (List.range f.scaleCount).filter (fun i => (List.range 32).any (fun k => bitsAt (gs.getD (at' + i) 0) (8 * k) 8 == 255))
  let lists := gs.drop f.bodyGranules
  let keys := fun (n : Nat) => ((lists.take n).map decodeListGranule).flatten.map (fun e => e.row * 256 + e.out)
  let bad := (List.range lists.length).filter (fun i =>
    let mine := (decodeListGranule (lists.getD i 0))
    mine.any (fun e => decide (f.outs ≤ e.out) || (keys i).contains (e.row * 256 + e.out))
      || decide ((mine.map (fun e => e.row * 256 + e.out)).eraseDups.length ≠ mine.length)
      || (i + 1 == lists.length && !((lists.getD i 0).testBit 244)))
  scales.map (· + at') ++ bad.map (· + f.bodyGranules)

/-- Granules of MT rows that hold code 10 (R71), one for each such row, counted from the tile's first. -/
def code10Granules (gs : List Granule) : List Nat :=
  (List.range 256).filterMap (fun r => [2 * r, 2 * r + 1].find? (fun g =>
    (List.range 128).any (fun j => bitsAt (gs.getD g 0) (2 * j) 2 == 2)))

/-- Widths of an activation magnitude: AS4 or AS8 (Table 3-1). -/
def asMax (wide : Bool) : Nat := if wide then 255 else 15

/-- A quantised activation block (R75 to R77, R98). -/
structure ActBlock where
  elems : List Elem
  e8 : Nat
  zero : Bool
  flushed : Bool
  clamped : Bool
  /-- Extracted inputs in order of extraction. -/
  extracted : List (Nat × Num)
  /-- More than 8 candidates: the outlier budget is exceeded (R98). -/
  exceeded : Bool
  deriving DecidableEq, Repr

/-- Candidates for extraction: magnitude above ρ × μ, largest first, ties to the lower index (R98). -/
def inputCandidates (vs : List Frac) (rho : Nat) : List (Nat × Frac) :=
  let mu := meanAbs vs
  let c := vs.zipIdx.filterMap (fun (v, i) =>
    if ((Frac.ofNat rho).mul mu).lt v.abs then some (i, v) else none)
  sortBy (fun a b => b.2.abs.lt a.2.abs || (a.2.abs.eq b.2.abs && decide (a.1 < b.1))) c

/-- The scale exponent of R75 step 4 for a largest magnitude a. -/
def actScale (a : Frac) (top : Nat) : Int :=
  let start := if a.log2 - 10 < -126 then -126 else a.log2 - 10
  searchUp (fun s => (a.mul (Frac.dyadic 1 (-s))).le (Frac.ofNat top)) 20 start

/-- Rounding of the remaining values under one scale: steps 5 to 7 of R75. -/
def actRound (vs : List Frac) (s : Int) : List Elem :=
  vs.map (fun v => (decide (v.num < 0), (scaled v.abs s).toNat))

/-- Clamped form of a non-finite block (R77). -/
def clampBlock (vs : List Num) (top : Nat) : ActBlock :=
  { elems := vs.map (fun v => match v with
      | .inf neg => (neg, top)
      | .fin x => (decide (x.num < 0), 0)
      | .nan => (false, 0))
    e8 := 0xFE, zero := false, flushed := false, clamped := true, extracted := [], exceeded := false }

/-- The input quantiser on one block, for AS4 or AS8 (R75, R77, R98). Up to 8 inputs are extracted
unless `plain`, which is the compatibility mode of R112. -/
def quantise (vs : List Num) (rho : Nat) (wide plain : Bool) : ActBlock :=
  let top := asMax wide
  if !(vs.all Num.isFin) then clampBlock vs top
  else
    let fr := vs.map Num.frac
    let cand := if plain then [] else inputCandidates fr rho
    let ext := cand.take 8
    let rest := fr.zipIdx.map (fun (v, i) => if ext.any (fun c => c.1 == i) then ⟨0, 1⟩ else v)
    let a := maxFrac (rest.map Frac.abs)
    let extracted := ext.map (fun c => (c.1, Num.fin c.2))
    let exceeded := decide (8 < cand.length)
    if a.isZero then
      { elems := rest.map (fun _ => (false, 0)), e8 := 0, zero := true, flushed := false
        clamped := false, extracted := extracted, exceeded := exceeded }
    else
      let s := actScale a top
      let el := actRound rest s
      if el.all (fun e => e.2 == 0) then
        { elems := el, e8 := 0, zero := true, flushed := true, clamped := false
          extracted := extracted, exceeded := exceeded }
      else
        { elems := el, e8 := (s + 127).toNat, zero := false, flushed := false, clamped := false
          extracted := extracted, exceeded := exceeded }

/-- A block rounded under a scale that its scale set chose (R75, steps 5 to 7). -/
def roundUnder (b : List Num) (s : Int) : ActBlock :=
  let el := actRound (b.map Num.frac) s
  let none' := el.all (fun e => e.2 == 0)
  { elems := el, e8 := if none' then 0 else (s + 127).toNat, zero := none'
    flushed := none' && !(b.all (fun v => v.frac.isZero)), clamped := false, extracted := [], exceeded := false }

/-- The blocks of a scale set of a v2 plan share one E8, chosen from the largest magnitude over all of
them (R92); with a block that is not finite in the set, it is the E8 of R77 for all. -/
def quantiseSet (blocks : List (List Num)) : List ActBlock :=
  let a := maxFrac (blocks.map (fun b => maxFrac (b.map (fun v => v.frac.abs))))
  let s := if blocks.all (fun b => b.all Num.isFin) then (if a.isZero then 0 else actScale a 15) else 127
  blocks.map (fun b => if b.all Num.isFin then roundUnder b s else clampBlock b 15)

/-- FP32 of an extracted input; a source value is FP32 or BF16, so nothing is lost (R99). -/
def fpOfNum : Num → Word
  | .fin v => fpOfFrac v
  | .inf neg => fpInf neg
  | .nan => fpNaN

/-- Granules of a record before its outlier list (R76). -/
def recordGranules (wide : Bool) : Nat := if wide then 10 else 6

/-- Elements whose magnitudes a granule of a record holds. -/
def recordStep (wide : Bool) : Nat := if wide then 32 else 64

/-- The stored record of an activation block: AS4 in six granules, AS8 in ten, then its outlier list (R76, R99). -/
def actRecord (b : ActBlock) (wide : Bool) : List Granule :=
  let mags := chunksOf (recordStep wide) 8 (b.elems.map (·.2))
  let signs := natOfBits (b.elems.map (·.1))
  let hdr := b.e8 + (if b.zero then 2 ^ 8 else 0) + (if b.flushed then 2 ^ 9 else 0)
    + (if b.clamped then 2 ^ 10 else 0) + b.extracted.length * 2 ^ 11
  mags.map (packFields (if wide then 8 else 4)) ++ [signs, hdr]
    ++ (chunksOf 6 2 b.extracted).map (fun c =>
        packFields 40 (c.map (fun x => x.1 + 256 * (fpOfNum x.2).toNat)))

/-- An activation record read back (R76, R99). -/
def decodeActRecord (gs : List Granule) (wide : Bool) : ActBlock :=
  let n := recordGranules wide
  let w := if wide then 8 else 4
  let signs := gs.getD (n - 2) 0
  let hdr := gs.getD (n - 1) 0
  { elems := (List.range 256).map (fun i =>
      (signs.testBit i, bitsAt (gs.getD (i / recordStep wide) 0) (w * (i % recordStep wide)) w))
    e8 := bitsAt hdr 0 8, zero := hdr.testBit 8, flushed := hdr.testBit 9, clamped := hdr.testBit 10
    extracted := (List.range (min 8 (bitsAt hdr 11 4))).map (fun e =>
      let g := gs.getD (n + e / 6) 0
      (bitsAt g (40 * (e % 6)) 8,
        numOfFp (BitVec.ofNat 32 (bitsAt g (40 * (e % 6) + 8) 32))))
    exceeded := false }

/-- The exact values a record stands for (R106). -/
def recordValues (b : ActBlock) : List Num :=
  b.elems.zipIdx.map (fun (e, i) =>
    match b.extracted.find? (fun x => x.1 == i) with
    | some x => x.2
    | none =>
      if b.e8 = 0 then .fin ⟨0, 1⟩ else .fin (Frac.dyadic e.val ((b.e8 : Int) - 127)))

/-- The buffer entry of a block, with the zero flags of R49. -/
def entryOf (b : ActBlock) (src rho : Nat) (wide : Bool) (half : Nibble) : BufEntry :=
  let el := b.elems.map (fun e => match half with
    | .whole => e
    | .high => (e.1, e.2 / 16)
    | .low => (e.1, e.2 % 16))
  let zeroIn := fun (l : List Elem) => l.all (fun e => e.2 == 0)
  { elems := el, e8 := b.e8, zero := zeroIn el
    groupZero := (List.range 4).map (fun g => zeroIn ((el.drop (64 * g)).take 64))
    clamped := b.clamped, wide := wide, nibble := half
    extracted := b.extracted.map (fun x => (x.1, fpOfNum x.2)), src := src, rho := rho }

/-- One rounded key-value block: codes, E8, whether it was flushed, whether it held non-finite
values (R78). -/
structure KvBlock where
  codes : List Int
  e8 : Nat
  flushed : Bool
  nonFinite : Bool
  deriving DecidableEq, Repr

/-- Rounding of a key-value block of 64 values (R78). In a block that holds an infinity or a NaN a finite value has code 0
(DESIGN CHOICE: R78 gives the codes of infinities and NaNs only; log 133). -/
def roundKv (vs : List Num) (kv8 : Bool) : KvBlock :=
  let lo : Int := if kv8 then -128 else -8
  let hi : Int := if kv8 then 127 else 7
  if vs.all Num.isFin then
    match roundBlock (vs.map Num.frac) lo hi with
    | .ok c e => ⟨c, e, false, false⟩
    | _ => ⟨vs.map (fun _ => 0), 0, true, false⟩
  else
    ⟨vs.map (fun v => match v with
      | .inf neg => if neg then lo else hi
      | _ => 0), 0xFE, false, true⟩

/-- Granules of a key-value block (R78). -/
def kvGranules (b : KvBlock) (kv8 : Bool) : List Granule :=
  if kv8 then (chunksOf 32 2 b.codes).map (fun c => packFields 8 (c.map (fieldOfInt 8)))
  else [packFields 4 (b.codes.map (fieldOfInt 4))]

/-- Codes of a key-value block read from its granules (R78). -/
def decodeKv (gs : List Granule) (kv8 : Bool) : List Int :=
  if kv8 then
    (List.range 64).map (fun k => intOfField 8 (bitsAt (gs.getD (k / 32) 0) (8 * (k % 32)) 8))
  else (List.range 64).map (fun k => intOfField 4 (bitsAt (gs.getD 0 0) (4 * k) 4))

/-- One array column of a prefill tile, from exact values (R79): MV4, or MV8 for KV8 state; a span
that rounds to zero is a zero block, with true. A span of exact zeros is a zero block too and is not counted (DESIGN
CHOICE: R79 and Table 8-8 do not say whether KV_ZERO_SPANS counts it; log 133). -/
def roundSpan (vs : List Frac) (kv8 : Bool) : List Int × Nat × Bool :=
  match roundBlock vs (if kv8 then -128 else -8) (if kv8 then 127 else 7) with
  | .ok c e => (c, e, false)
  | _ => (vs.map (fun _ => 0), 0, true)

/-- Import element types of Table 3-6. -/
inductive MxType where
  | int8 | e4m3 | e5m2 | e2m1
  deriving DecidableEq, Repr

/-- A small float: sign, exponent and mantissa fields of the given widths and bias. -/
def smallFloat (x expBits manBits : Nat) (bias : Int) : Frac :=
  let man := bitsAt x 0 manBits
  let ex := bitsAt x manBits expBits
  let neg := x.testBit (expBits + manBits)
  let m : Nat := if ex = 0 then man else man + 2 ^ manBits
  let e : Int := (if ex = 0 then 1 else (ex : Int)) - bias - (manBits : Int)
  Frac.dyadic (if neg then -(m : Int) else (m : Int)) e

/-- Value of one imported element, or none where R80 rejects it. -/
def mxElem (t : MxType) (x : Nat) : Option Frac :=
  match t with
  | .int8 => some (Frac.dyadic (intOfField 8 x) (-6))
  | .e4m3 => if bitsAt x 0 7 = 0x7F then none else some (smallFloat x 4 3 7)
  | .e5m2 => if bitsAt x 2 5 = 31 then none else some (smallFloat x 5 2 15)
  | .e2m1 => some (smallFloat x 2 1 1)

/-- One 32-element Microscaling block with its E8M0 scale code, or none where R80 rejects it. -/
def mxBlock (t : MxType) (scale : Nat) (xs : List Nat) : Option (List Frac) :=
  if scale = 255 then none
  else xs.mapM (fun x => (mxElem t x).map (fun v => v.mul (Frac.dyadic 1 ((scale : Int) - 127))))

end Sys2Proof.Machine
end

