-- ==== Sys2Proof/Machine/PlanTypes.lean ====
section
/-!
DEFINITION. A tick plan as data (R143 to R147): header, tables, variants and operation records, with
the class-specific operands of a record as named fields.
-/

namespace Sys2Proof.Machine

/-- The class-specific OPERANDS of a record, by name (R147). The spec names these fields and gives no
bit layout for them. -/
structure OpArgs where
  /-- Elements, rows, choices or vocabulary entries, by class. -/
  n : Nat
  rows : Nat
  gates : Nat
  topK : Nat
  bytes : Nat
  rate : Nat
  distClass : Nat
  layer : Nat
  /-- Stream kind: true is key-value. -/
  kv : Bool
  endOffset : Nat
  tileW : Int
  tileG : Nat
  /-- Regions that a transfer or stream reads and writes, and byte offsets in them. -/
  src : Option Nat
  dst : Option Nat
  srcOff : Nat
  dstOff : Nat
  /-- Record index of the export a merge names, and the destination of an export or a transfer. -/
  exportRec : Nat
  destCore : Nat
  destTile : Nat
  poolGroup : Nat
  tilePos : Nat
  nibble : Bool
  /-- Declared list budget B and outputs of the tile a fire uses (R101). -/
  budget : Nat
  outputs : Nat
  /-- Scale set of a v2 fire (R92). -/
  scaleSet : Nat
  deriving DecidableEq, Repr

/-- One operation record (Table 6-6). -/
structure OpRec where
  cls : Nat
  unit : Nat
  lcore : Nat
  start : Nat
  cost : Nat
  rep : Nat
  flags : Nat
  dep0 : Nat
  dep1 : Nat
  args : OpArgs
  deriving DecidableEq, Repr

/-- One variant (Table 6-5) with its operation stream and the layers of WIDE_MARKS. -/
structure Variant where
  kind : Nat
  clock : Nat
  period : Nat
  lcores : Nat
  permille : Nat
  worst : Nat
  maint : Nat
  ops : List OpRec
  wide : List Nat
  deriving DecidableEq, Repr

/-- One layer table entry (R145). -/
structure LayerEnt where
  kind : Nat
  flags : Nat
  wShare : Nat
  kvShare : Nat
  moeIndex : Nat
  wGran : Nat
  kvGran : Nat
  deriving DecidableEq, Repr

/-- One mixture-of-experts table entry (R146). -/
structure MoeEnt where
  layer : Nat
  experts : Nat
  shared : Nat
  topK : Nat
  groupSize : Nat
  capacity : Nat
  pool : Nat
  router : Nat
  deriving DecidableEq, Repr

/-- One core table entry (Table 6-4): logical cluster, logical die and neighbour map. -/
structure CoreEnt where
  cluster : Nat
  die : Nat
  map : Nat
  deriving DecidableEq, Repr

/-- One region table entry (Table 6-4). -/
structure RegionEnt where
  kind : Nat
  size : Nat
  owner : Nat
  deriving DecidableEq, Repr

/-- A plan read from its bytes. -/
structure Plan where
  format : Nat
  stride : Nat
  nocRatio : Nat
  planId : Nat
  manifest : List Byte
  channels : Nat
  decodeRows : Nat
  prefillRows : Nat
  spillSrc : Nat
  linold : Nat
  cores : List CoreEnt
  regions : List RegionEnt
  layers : List LayerEnt
  moe : List MoeEnt
  length : Nat
  descriptors : Nat
  variants : List Variant
  deriving DecidableEq, Repr

end Sys2Proof.Machine
end

