-- ==== Sys2Proof/Machine/SysTypes.lean ====
section
/-!
DEFINITION. The state of the system side of the block: pins, non-volatile memory, start-up, clocks,
time, the port, sessions, thermal monitoring, memory stacks, the fabric and the event recorder
(Chapters 7 and 10 to 16).
-/

namespace Sys2Proof.Machine

open Sys2Proof

/-- Input pins, and the latched outputs of the pins (R301 to R303, R361, R402). -/
structure Pins where
  rstN : Bool
  pwrgdCore : Bool
  pwrgdMem : Bool
  /-- THERMTRIP_N is driven low (R361). -/
  thermTrip : Bool
  /-- The asynchronous latch of R303 holds EVT_N low. -/
  asyncEvt : Bool
  deriving DecidableEq, Repr

/-- One operator key of the key store (R383). -/
structure OpKey where
  id : Nat
  secret : List Byte
  /-- Bit 0 SERVE, bit 1 LOAD, bit 2 ADMIN. -/
  roles : Nat
  levels : Nat
  pub : List Byte
  custody : Bool
  deriving DecidableEq, Repr

/-- The configuration record (Table 10-3). -/
structure Cfg where
  phyMode : Nat
  polarity : Nat
  vlan : Option Nat
  priorities : List (Nat × Nat)
  macPolicy : Nat
  cakName : List Byte
  cak : List Byte
  ipv4 : IpCfg
  ipv6 : IpCfg
  mctPort : Nat
  group4 : Nat
  group6 : Nat
  announcePort : Nat
  ptpTransport : Nat
  ptpP2p : Bool
  ptpOneStep : Bool
  ptpDomain : Nat
  storage : List (Option StorageEnt)
  hostNqn : List Byte
  sessionLimit : Nat
  deriving DecidableEq, Repr

/-- Defaults of Table 10-3, with the PCP and DSCP of Table 10-2. -/
def Cfg.init : Cfg :=
  { phyMode := 0, polarity := 0, vlan := none, priorities := [(7, 56), (5, 40), (3, 26)]
    macPolicy := 0, cakName := [], cak := [], ipv4 := .dynamic, ipv6 := .dynamic, mctPort := 47211
    group4 := 0xEFFF4D0B, group6 := 0xff020000000000000000000000004d38, announcePort := 47212
    ptpTransport := 1, ptpP2p := false, ptpOneStep := false, ptpDomain := 0, storage := []
    hostNqn := [], sessionLimit := 64 }

/-- One copy of the signing-state record (R380). -/
structure SignCopy where
  seq : Nat
  topEnd : Nat
  bottomTree : Nat
  bottomEnd : Nat
  valid : Bool
  deriving DecidableEq, Repr

/-- One event record with its continuations' payload (R392, R393). -/
structure EvRec where
  seq : Nat
  severity : Nat
  timeState : Nat
  code : Nat
  unit : Nat
  opS : Nat
  cycles : Nat
  time : Nat
  temp : Nat
  volt : Nat
  payload : List Byte
  deriving DecidableEq, Repr

/-- Package non-volatile memory (R313, R376 to R399). -/
structure Nvm where
  serial : Nat
  mac : Nat
  /-- Bit c is 1 where the map enables global core c (R4). -/
  goodMap : Nat
  /-- The two copies of the map read without an uncorrectable error (R317). -/
  mapA : Bool
  mapB : Bool
  cfg : Cfg
  cfgOk : Bool
  keys : Tbl OpKey
  /-- Wrapped secrets pass their tags (R378). -/
  secretsOk : Bool
  signA : SignCopy
  signB : SignCopy
  skipped : Nat
  floor : Nat
  bootCount : Nat
  records : List EvRec
  dropped : Nat
  replaced : Nat
  /-- Eight trip slots of 64 bytes (R363, R366). -/
  trips : List (List Byte)
  /-- Trips recorded since manufacture: TRIP_NUMBER of the latest record. -/
  tripCount : Nat
  opStored : Nat
  /-- The identity's HSS public key, 60 bytes (R375, R379). -/
  idPub : List Byte
  /-- What the device certificate holds beside the identity (R389): the day of manufacture, the vendor key that
  signs, 56 bytes, and its signature, 2,828 bytes. -/
  certDate : Nat
  certKey : List Byte
  certSig : List Byte
  deriving DecidableEq, Repr

/-- The custody key of a new package (R383); its secret is per package (log 1). -/
def custodyKey : OpKey := ⟨1, List.replicate 32 0, 7, 0, [], true⟩

/-- Non-volatile memory of a new package, with the model's values for what is per package (log 1,
log 2). -/
def Nvm.init : Nvm :=
  { serial := 0, mac := 0, goodMap := 2 ^ 576 - 1, mapA := true, mapB := true, cfg := Cfg.init
    cfgOk := true, keys := [(0, custodyKey)], secretsOk := true, signA := ⟨0, 0, 0, 0, true⟩
    signB := ⟨0, 0, 0, 0, true⟩, skipped := 0, floor := 0, bootCount := 0, records := [], dropped := 0
    replaced := 0, trips := List.replicate 8 (List.replicate 64 0xFF), tripCount := 0, opStored := 0
    idPub := List.replicate 60 0, certDate := 0, certKey := List.replicate 56 0, certSig := List.replicate 2828 0 }

/-- Bytes arriving in parts: a firmware image (R320) or a plan (R166), newest part first. -/
structure Upload where
  sess : Nat
  len : Nat
  digest : List Byte
  parts : List (Nat × List Byte)
  deriving DecidableEq, Repr

/-- Start-up (R314 to R330). -/
structure Boot where
  /-- RST_N has risen with power good since the reset was entered: start-up runs (R315). -/
  released : Bool
  phase : Nat
  inRom : Bool
  fwValid : Bool
  hold : Bool
  waiting : Bool
  isDone : Bool
  /-- Ends of phases 1 to 15 in µs from RST_N release. -/
  ends : Tbl Nat
  upload : Option Upload
  fwVersion : Nat
  fwDigest : List Byte
  fwSec : Nat
  entry : Nat
  /-- The good-core map is valid, from the end of the census (R26). -/
  goodValid : Bool
  /-- A verified image whose hand-over (R323) ends phase 11. -/
  handover : Bool
  /-- Trip record consumed by this start (R366). -/
  tripRecord : Option (List Byte)
  /-- Hottest sensor of the hold, in 0.125 °C, and 100 ms updates since the hold's last record. -/
  holdTemp : Nat
  holdTicks : Nat
  /-- Image floor to be raised when RBSY first rises (R322). -/
  raised : Bool
  /-- Phase 7 ended at its bound without a master (R326). -/
  noMaster : Bool
  deriving DecidableEq, Repr

def Boot.init : Boot :=
  { released := false, phase := 1, inRom := true, fwValid := false, hold := false, waiting := false, isDone := false
    ends := [], upload := none, fwVersion := 0, fwDigest := List.replicate 32 0, fwSec := 0, entry := 0
    goodValid := false, handover := false, tripRecord := none, holdTemp := 0, holdTicks := 0
    raised := false, noMaster := false }

/-- A clock domain (R294). -/
structure Dom where
  mhz : Nat
  locked : Bool
  onSafe : Bool
  pending : Bool
  deriving DecidableEq, Repr

def Dom.init : Dom := ⟨0, false, false, false⟩

/-- A die's clock monitor (R301, R303). -/
structure DieMon where
  window : Nat
  start : Nat
  armed : Bool
  ringFault : Bool
  last : Nat
  worst : Nat
  /-- HREFCLK is lost at the die. -/
  lost : Bool
  deriving DecidableEq, Repr

def DieMon.init : DieMon := ⟨0, 0, false, false, 0, 0, false⟩

/-- Gates off, as masks (R299): package, dies, clusters, cores, and engines by core. -/
structure Gates where
  pkg : Bool
  dies : Nat
  clusters : Nat
  cores : Nat
  engines : Tbl Nat
  deriving DecidableEq, Repr

/-- Clocks, monitors, safe state and gates (R293 to R303). -/
structure Clocks where
  doms : Tbl Dom
  mons : Tbl DieMon
  safe : Bool
  hrefFault : Bool
  pllFault : Bool
  faultDomain : Nat
  faultDie : Nat
  gates : Gates
  /-- Every core and array clock is gated, by reset, safe state or trip (R302, R312, R361). -/
  allGated : Bool
  deriving DecidableEq, Repr

def Clocks.init : Clocks :=
  { doms := [], mons := [], safe := false, hrefFault := false, pllFault := false, faultDomain := 0
    faultDie := 0, gates := ⟨false, 0, 0, 0, []⟩, allGated := true }

/-- The device time counter and its servo (R304 to R307). -/
structure Time where
  ns : Nat
  /-- 48 fraction bits. -/
  frac : Nat
  rateAdj : Int
  /-- PTP_STATE: 0 FREE, 1 SELECTING, 2 LOCKED, 3 HOLDOVER. -/
  ptp : Nat
  slewing : Bool
  offsetWarn : Bool
  goodRun : Nat
  offset : Int
  delay : Int
  master : Option PtpAnn
  /-- RATE_ADJ set at each exchange with its device time, newest first, over the last 64 s. -/
  hist : List (Nat × Int)
  holdStart : Nat
  epoch : Nat
  /-- Nanoseconds that steps of the counter have added since RST_N release (R330). -/
  jumped : Int
  deriving DecidableEq, Repr

def Time.init : Time :=
  { ns := 0, frac := 0, rateAdj := 0, ptp := 0, slewing := false, offsetWarn := false, goodRun := 0
    offset := 0, delay := 0, master := none, hist := [], holdStart := 0, epoch := 0, jumped := 0 }

/-- The Ethernet port (R262 to R266, R288 to R291). -/
structure Port where
  linkUp : Bool
  fecLock : Bool
  anDone : Bool
  macsecUp : Bool
  addr4 : Nat
  addr6 : Nat
  neighbour : Option Nat
  /-- Step of Table 10-12 in progress, or 7. -/
  disc : Nat
  announced : Bool
  announces : Nat
  /-- RoCEv2 sending rate by queue pair, in 65,536ths of the full rate; absent is full. -/
  rates : Tbl Nat
  /-- Device time of the latest CNP sent, by queue pair. -/
  cnpAt : Tbl Nat
  connected : Nat
  failed : Nat
  /-- Logical block size of a connected entry's namespaces. -/
  blocks : Tbl Nat
  trainAttempts : Nat
  /-- The bounds of discovery steps 2 and 3 have passed (Table 10-12). -/
  lldpBound : Bool
  ptpBound : Bool
  deriving DecidableEq, Repr

def Port.init : Port :=
  { linkUp := false, fecLock := false, anDone := false, macsecUp := false, addr4 := 0, addr6 := 0
    neighbour := none, disc := 0, announced := false, announces := 0, rates := [], cnpAt := [], connected := 0
    failed := 0, blocks := [], trainAttempts := 0, lldpBound := false, ptpBound := false }

/-- A device message not yet acknowledged (R273), with its resend interval in µs. -/
structure Unacked where
  seq : Nat
  msg : DevMsg
  interval : Nat
  deriving DecidableEq, Repr

/-- An MCT session (R271 to R274). -/
structure Session where
  id : Nat
  key : Nat
  version : Nat
  plans : Nat
  manifests : Nat
  isOpen : Bool
  h2d : List Byte
  d2h : List Byte
  /-- E, the next host sequence number expected. -/
  expect : Nat
  early : List Instr
  /-- Stored replies of the last 256 commands, oldest first. -/
  replies : List (Nat × OutMsg)
  dseq : Nat
  unacked : List Unacked
  queue : List DevMsg
  notify : Option Nat
  telPeriod : Nat
  telMask : Nat
  /-- Device time of the most recent authenticated message. -/
  lastRx : Nat
  /-- Source of the most recent authenticated message, and source and OPCODE of each command not yet answered (R268). -/
  peer : Nat
  calls : Tbl (Nat × Nat)
  deriving DecidableEq, Repr

/-- A command received and not yet applied (R279 to R281). -/
structure Held where
  rx : Nat
  sess : Nat
  seq : Nat
  tag : Nat
  cmd : Instr
  /-- A REQ_SUBMIT whose tokens are still arriving, and when the previous part came. -/
  awaiting : Bool
  lastPart : Nat
  /-- The group whose boundary applies it, if it concerns one. -/
  group : Option Nat
  deriving DecidableEq, Repr

/-- A deferred register write: address and value, applied at a boundary of the group named, or of
any group. -/
structure Deferred where
  addr : Nat
  value : Word
  group : Option Nat
  deriving DecidableEq, Repr

/-- A memory stack and its controller (R31, R316, R334 to R336, R354). -/
structure StackState where
  trained : Bool
  inService : Bool
  selfRefresh : Bool
  failed : Bool
  attempts : Nat
  /-- Latest reading in 0.125 °C. -/
  temp : Option Int
  sensorFails : Nat
  sensorFail : Bool
  goodSince : Option Nat
  state : Nat
  retired : Nat
  /-- Blocks to be retired at the next boundary, and those retired. -/
  toRetire : List Nat
  blocks : List Nat
  scrubPos : Nat
  scrubPasses : Nat
  /-- Granules corrected by scrub on the pass before and on this pass. -/
  lastFixed : List Nat
  nowFixed : List Nat
  descs : List Nat
  weightShare : Nat
  kvShare : Nat
  deriving DecidableEq, Repr

def StackState.init : StackState :=
  { trained := false, inService := false, selfRefresh := false, failed := false, attempts := 0
    temp := none, sensorFails := 0, sensorFail := false, goodSince := none, state := 0, retired := 0
    toRetire := [], blocks := [], scrubPos := 0, scrubPasses := 0, lastFixed := [], nowFixed := []
    descs := [], weightShare := 0, kvShare := 0 }

/-- One result of a successive-approximation entry (R368, R370, R374). -/
structure MonResult where
  value : Nat
  code : Nat
  valid : Bool
  passSince : Nat
  pass : Nat
  deriving DecidableEq, Repr

/-- The monitor converters and thermal state of one die (R355, R356, R367 to R372). -/
structure DieTherm where
  /-- Latest readings by input, as two's complement values in the unit of Table 14-4. -/
  readings : Tbl Int
  failed : List Nat
  goodSince : Tbl Nat
  /-- 0 NORMAL, 1 WARN, 2 THROTTLE. -/
  state : Nat
  clusterWarn : Nat
  calValid : Bool
  calBusy : Bool
  /-- Next entry and whole passes since the trigger, by converter. -/
  pos : Tbl Nat
  passes : Tbl Nat
  results : Tbl MonResult
  /-- Consecutive conversions outside the warning window, inside it after a warning, and outside the
  fault window, by input. -/
  warnRun : Tbl Nat
  okRun : Tbl Nat
  faultRun : Tbl Nat
  railWarn : List Nat
  factors : Tbl (Nat × Nat)
  min1us : Nat
  snap : Option (Nat × Nat)
  droop : Nat × Nat
  capArmed : Bool
  capture : List (Nat × Nat)
  deriving DecidableEq, Repr

def DieTherm.init : DieTherm :=
  { readings := [], failed := [], goodSince := [], state := 0, clusterWarn := 0, calValid := false
    calBusy := false, pos := [], passes := [], results := [], warnRun := [], okRun := []
    faultRun := [], railWarn := [], factors := [], min1us := 0, snap := none, droop := (0, 0)
    capArmed := false, capture := [] }

/-- Thermal management of the package (R356 to R363, R370). -/
structure Thermal where
  dies : Tbl DieTherm
  tripped : Bool
  trigCount : Nat
  trigLast : Option Nat
  /-- Device time of an armed software trigger. -/
  armed : Option Nat
  deriving DecidableEq, Repr

def Thermal.init : Thermal := ⟨[], false, 0, none, none⟩

/-- An outstanding transfer (R192). -/
structure Transfer where
  src : MemUnit
  dst : MemUnit
  seq : Nat
  dstOff : Nat
  data : List Byte
  resends : Nat
  delivered : Bool
  deriving DecidableEq, Repr

/-- State of the fabric (R169 to R196). -/
structure Fabric where
  /-- Die links: trained and in service, by 2 × die + (1 for DL-S). -/
  linkTrained : Nat
  linkUp : Nat
  /-- Mesh directions out of service, by 4 × cluster + direction − 1. -/
  meshDown : List Nat
  routerDown : List Nat
  /-- Stages on their standby core and stages dead, by 4 × cluster + direction − 1. -/
  onStandby : List Nat
  stageDead : List Nat
  /-- Control segments bypassed, with retrainings failed since the fault, and those that await a
  boundary to return. -/
  segDown : Tbl Nat
  segReturning : List Nat
  segTrained : Bool
  /-- Device time of each segment's last retraining (R185). -/
  segTried : Tbl Nat
  /-- Stacks lost to a fault whose channels the next boundary marks failed (Table 7-6). -/
  lostStacks : List Nat
  transfers : List Transfer
  nextSeq : Tbl Nat
  /-- Largest reserved sum by router output, keyed (cluster × 8 + port), and by die link. -/
  reserved : Tbl Nat
  linkReserved : Tbl Nat
  /-- Value of the free counter from which the last completed tick's PORT_UTIL readings are taken; 0 before any (R196). -/
  utilSeed : Nat
  detour : Bool
  /-- Consecutive losses of an input at an output, by output and input (R179). -/
  losses : Tbl Nat
  /-- A clock setting has taken a die link out of service since the last boundary (Table 11-3). -/
  broken : Bool
  deriving DecidableEq, Repr

def Fabric.init : Fabric :=
  { linkTrained := 0, linkUp := 0, meshDown := [], routerDown := [], onStandby := []
    stageDead := [], segDown := [], segReturning := [], segTrained := false, lostStacks := [], transfers := []
    nextSeq := [], reserved := [], linkReserved := [], utilSeed := 0, detour := false, losses := []
    segTried := [], broken := false }

/-- The Usher's background computation (R190, R195): reason and group being computed, and those
computed and waiting. -/
structure Usher where
  computing : Option (Nat × Nat)
  ready : List (Nat × Nat)
  lastMicros : Nat
  lastGroup : Nat
  lastReason : Nat
  /-- Cores wait for a boundary of their group to change groups (R16, R186). -/
  moving : Bool
  deriving DecidableEq, Repr

def Usher.init : Usher := ⟨none, [], 0, 0, 0, false⟩

/-- One segment of a probe pack (R348): kind, expected counts, tolerance, and the entries an array segment fires. -/
structure ProbeSeg where
  kind : Nat
  expected : List Int
  tol : Nat
  entries : Nat
  deriving DecidableEq, Repr

/-- A verified probe pack. -/
structure ProbePack where
  id : Nat
  interval : Nat
  segments : List ProbeSeg
  keyId : Nat
  deriving DecidableEq, Repr

/-- A fetch of a probe pack in progress (R349): session, sequence and key of its command, and where the
pack is read from. -/
structure ProbeFetch where
  sess : Nat
  seq : Nat
  key : Nat
  loc : StorageLoc
  deriving DecidableEq, Repr

/-- Probe packs (R348 to R351). -/
structure Probe where
  held : Option ProbePack
  /-- Verified pack that replaces the held one at the next boundary. -/
  next : Option ProbePack
  loading : Option ProbeFetch
  /-- Attempts made at the fetch in progress. -/
  fetches : Nat
  /-- Session and sequence of the commands of the held pack and of the next. -/
  origin : Option (Nat × Nat)
  nextOrigin : Option (Nat × Nat)
  sweeping : Bool
  sweeps : Nat
  /-- Device time at which the latest sweep began. -/
  lastSweep : Nat
  /-- Cores completed and failed in the sweep; next segment by core; cores whose segment has failed once,
  with the tick of their group in which it did. -/
  ran : List Nat
  failedCores : List Nat
  nextSeg : Tbl Nat
  retry : Tbl Nat
  deriving DecidableEq, Repr

def Probe.init : Probe :=
  { held := none, next := none, loading := none, fetches := 0, origin := none, nextOrigin := none
    sweeping := false, sweeps := 0, lastSweep := 0, ran := [], failedCores := [], nextSeg := [], retry := [] }

/-- Identity and signing (R377 to R381). -/
structure Sec where
  pufOk : Bool
  /-- Next leaf and end of the block in force, bottom tree and top tree. -/
  leaf : Nat
  blockEnd : Nat
  topLeaf : Nat
  topBlockEnd : Nat
  reserving : Bool
  building : Bool
  built : Bool
  /-- Quote sections 0 to 2 as they stood at the close of the latest boundary window (R388). -/
  snap : Option (List (List Byte))
  /-- Calibration runs committed since start (Table 15-3). -/
  committed : Nat
  deriving DecidableEq, Repr

def Sec.init : Sec := ⟨false, 0, 0, 0, 0, false, false, false, none, 0⟩

/-- The recorder's volatile side (R391, R394, R395). -/
structure Rec where
  staging : List EvRec
  peak : Nat
  nextSeq : Nat
  /-- Operating seconds at the start, to which those since RST_N release are added. -/
  opBase : Nat
  deriving DecidableEq, Repr

def Rec.init : Rec := ⟨[], 0, 1, 0⟩

end Sys2Proof.Machine
end

