-- ==== Sys2Proof/Machine/ServeTypes.lean ====
section
/-!
DEFINITION. The state of serving and computing: lock groups with their plans and ledgers, instances,
adapters, contexts, requests, and cores (Chapters 1, 3, 4, 6, 8, 9 and 13).
-/

namespace Sys2Proof.Machine

open Sys2Proof

/-- A verified plan as a group runs it. -/
structure PlacedPlan where
  plan : Plan
  digest : List Byte
  bytes : Nat
  /-- The degraded variant is usable under throttle (R148). -/
  degradedOk : Bool
  /-- Package throttle clock the throttled variant was verified at (R308). -/
  throttle : Nat
  deriving DecidableEq, Repr

/-- Where a group's upload stands (R148 to R150, R166). -/
inductive StagePhase where
  | uploading | verifying | verified
  deriving DecidableEq, Repr

/-- The staging slot of a group. -/
structure Staged where
  upload : Upload
  phase : StagePhase
  plan : Option PlacedPlan
  /-- Session and sequence of the PLAN_COMMIT that awaits its reply. -/
  origin : Option (Nat × Nat)
  /-- Device time at which verification ended (R307). -/
  since : Nat
  /-- The Usher has computed the plan's binding (R190). -/
  computed : Bool
  deriving DecidableEq, Repr

/-- A page allocation prepared for the next tick (R216): context, layer, page position, the frame,
the victim's page position if one is evicted, and whether the frame is lent by the spill pool. -/
structure PagePrep where
  ctx : Nat
  layer : Nat
  page : Nat
  frame : Nat
  victim : Option Nat
  lent : Bool
  score : Nat
  deriving DecidableEq, Repr

/-- Rows admitted to a request's prefill in a tick (R257). -/
structure Admit where
  sess : Nat
  req : Nat
  rows : Nat
  /-- No rows are left: the request takes a slot (R246). -/
  last : Bool
  deriving DecidableEq, Repr

/-- A router core's lists of a layer (R157 to R159): rows with choices, and placements. -/
structure Routing where
  layer : Nat
  rows : List (Nat × Option Nat × List (Nat × Word))
  placed : List (Nat × Nat × Bool × Word)
  deriving DecidableEq, Repr

/-- Where a region of a plan is bound (R138, R188). -/
structure RegionAt where
  /-- 0 local, 1 Basin, 2 device, as the region table has it. -/
  kind : Nat
  /-- Core, cluster of the package, or die. -/
  unit : Nat
  /-- First granule of its memory; of a die, first row of the group's stacks there. -/
  base : Nat
  /-- Granules. -/
  size : Nat
  deriving DecidableEq, Repr

/-- One lock group (R15 to R23, R135 to R168, R256). -/
structure Group where
  formed : Bool
  /-- Channel mask. -/
  channels : Nat
  current : Option PlacedPlan
  staged : Option Staged
  kind : Nat
  /-- Clock and period the running variant runs at. -/
  mhz : Nat
  forced : Option Nat
  suspended : Bool
  /-- Cause of the suspension: 3 throttle, 5 cores, 8 overruns, 9 a plan or channel lost. -/
  suspCause : Nat
  tick : Nat
  /-- Device time of the current tick's boundary and of the next boundary. -/
  boundary : Nat
  next : Nat
  /-- A tick is in progress; the group is in overrun (R23). -/
  running : Bool
  overrun : Bool
  /-- Ticks started since the plan was placed (R164). -/
  started : Nat
  /-- Cores without the mark of the next boundary; the mark was sent (R137). -/
  unmarked : List Nat
  markSent : Bool
  ledger : Nat
  rres : Nat
  /-- Rejected commits that the registers do not show yet: status and record (R167). -/
  rejects : List (Nat × Nat)
  charged : Nat
  refused : Bool
  /-- Requests for a top-up, in the order they reach the ledger: core and clocks. -/
  topups : List (Nat × Nat)
  clean : Nat
  /-- Group ticks counted, and the numbers of those that overran or were exhausted. -/
  ticks : Nat
  overruns : List Nat
  exhausted : List Nat
  lastExhausted : Bool
  /-- The wide variant (or the throttled in its place) is called for by exhaustion or overruns. -/
  callWide : Option Nat
  redundant : Bool
  balance : Balance
  rowsLast : Nat
  pairsLast : Nat
  passesLast : Nat
  /-- Rows chosen for the next tick, and rows of the current tick. -/
  chosen : List Admit
  admitted : List Admit
  /-- Prefills that complete in the token step: session, context, and the generations they bind to (R247). -/
  finishing : List (Nat × Nat × Nat × Nat × Nat)
  preps : List PagePrep
  /-- Logical core to physical core, its twin, and its standby. -/
  bind : Tbl Nat
  twins : Tbl Nat
  standby : Tbl Nat
  /-- The plan's regions, by their number in its region table (R138). -/
  regions : Tbl RegionAt
  /-- Routes of the binding's flows: the router and mesh-port outputs of each, with their virtual channels (R174, R175). -/
  routes : List (List (Nat × Nat))
  routing : Tbl Routing
  /-- Weight granules that the tick has read, as first granule and number (R22). -/
  weightsRead : List (Nat × Nat)
  deadlineEnds : Nat
  lateTokens : Nat
  maint : Bool
  /-- Engines whose plan work had finished at the window's start, with the clocks of it they have left (R155). -/
  idleEngs : Tbl Nat
  /-- Fires performed on the group's dies as its tick started (R126). -/
  firesAt : Tbl Nat
  /-- Why the group needs a new binding: a REASON of LAST_COMPUTE (R189). -/
  rebind : Option Nat
  /-- Ticks for which the group's local and Basin memory has become undefined (R188): the model's own count. -/
  memTicks : Nat
  /-- Largest reserved sums of the binding in force, by path (R181). -/
  resv : Tbl Nat
  /-- Device time from which the group starts: 0 once it has started (R307). -/
  firstAt : Nat
  /-- Variant kind the binding in force was made for. -/
  boundKind : Option Nat
  /-- The running variant runs at the package throttle clock because of throttle (R161). -/
  throttled : Bool
  /-- A tick has started that no boundary has closed, and the clock at which it completed. -/
  ticked : Bool
  doneClk : Nat
  /-- The tick's dropped choices, unrouted rows, and fullest pool group with its layer (R157, R159). -/
  moeDrops : Nat
  moeUnrouted : Nat
  moePeak : Nat × Nat
  /-- The running variant is the one the host forces; the previous tick was clean (R111, R161). -/
  usedForced : Bool
  prevClean : Bool
  /-- Sessions whose frame of the tick has been sent, and page descriptors emitted in the tick. -/
  framed : List Nat
  descs : Nat
  /-- Layers whose walks of the tick were late (R207). -/
  lateWalks : List Nat
  /-- Slots and contexts of the tick's decode walks, contexts of its prefill walks in order of admission, and the walks
  each walker has made (R204). -/
  walkSlots : List (Nat × Nat)
  walkPre : List Nat
  walked : Tbl Nat
  deriving DecidableEq, Repr

def Group.init : Group :=
  { formed := false, channels := 0, current := none, staged := none, kind := 0, mhz := 0
    forced := none, suspended := false, suspCause := 0, tick := 0, boundary := 0, next := 0
    running := false, overrun := false, started := 0, unmarked := [], markSent := false, ledger := 0
    rres := 0, rejects := [], charged := 0, refused := false, topups := [], clean := 0, ticks := 0, overruns := []
    exhausted := [], lastExhausted := false, callWide := none, redundant := false
    balance := Balance.init, rowsLast := 0, pairsLast := 0, passesLast := 0, chosen := []
    admitted := [], finishing := [], preps := [], bind := [], twins := [], standby := [], regions := [], routes := [], routing := [], weightsRead := []
    deadlineEnds := 0, lateTokens := 0, maint := false, idleEngs := [], firesAt := [], rebind := none
    memTicks := 0, resv := [], firstAt := 0, boundKind := none, throttled := false, ticked := false
    doneClk := 0, moeDrops := 0, moeUnrouted := 0, moePeak := (0, 0), usedForced := false
    prevClean := false, framed := [], descs := 0, lateWalks := [], walkSlots := [], walkPre := [], walked := [] }

/-- A shard table entry (Table 9-4). -/
structure ShardEnt where
  len : Nat
  digest : List Byte
  targets : List Nat
  ns : Nat
  lba : Nat
  deriving DecidableEq, Repr

/-- A tensor table entry (Table 9-5). -/
structure TensorEnt where
  role : Nat
  source : Nat
  target : Nat
  ratio : Nat
  flags : Nat
  rows : Nat
  cols : Nat
  off : Nat
  bytes : Nat
  deriving DecidableEq, Repr

/-- An attention table entry (Table 8-1). -/
structure AttnEnt where
  layer : Nat
  kvHeads : Nat
  qPerKv : Nat
  keyDim : Nat
  valueDim : Nat
  valueOff : Nat
  ropeFirst : Nat
  ropeDims : Nat
  flags : Nat
  scale : Word
  ropeScale : Word
  window : Nat
  invFreq : Nat
  deriving DecidableEq, Repr

/-- A manifest read from its bytes (Tables 9-3 to 9-5). -/
structure Manifest where
  format : Nat
  kind : Nat
  modelId : Nat
  shardBytes : Nat
  deviceBytes : Nat
  keyId : Nat
  vocabulary : Nat
  layers : Nat
  endTokens : List Nat
  adapterSlots : Nat
  adapterRank : Nat
  baseDigest : List Byte
  shards : List ShardEnt
  tensors : List TensorEnt
  attn : List AttnEnt
  digest : List Byte
  deriving DecidableEq, Repr

/-- Fetch state of one shard (R237). -/
structure ShardState where
  attempts : Nat
  /-- Target of the attempt in progress. -/
  active : Option Nat
  /-- The last failed attempt was a digest mismatch. -/
  mismatch : Bool
  tried : List Nat
  /-- Place in the shard's list of targets where the next attempt starts to look. -/
  pos : Nat
  verified : Bool
  deriving DecidableEq, Repr

def ShardState.init : ShardState := ⟨0, none, false, [], 0, false⟩

/-- A load of a model or adapter generation (R235 to R239). -/
structure Load where
  manifest : Manifest
  key : Nat
  sess : Nat
  origin : Nat
  shards : Tbl ShardState
  /-- Bytes of verified shards, by shard. -/
  data : Tbl (List Byte)
  lostTargets : List Nat
  /-- The tile directory (R97): granules of the outlier list of the tile at a device granule. -/
  dir : Tbl Nat
  /-- Where its data stand: die, and first row and rows of the group's stacks there (R182). -/
  places : List (Nat × Nat × Nat)
  /-- Largest absolute rounding error as FP32, and candidates left beyond the budget, by tensor. -/
  report : Tbl (Word × Nat)
  deriving DecidableEq, Repr

/-- States of Table 9-2. -/
inductive GenPhase where
  | loading | loaded | active
  deriving DecidableEq, Repr

/-- One generation of an instance (R229, R230). -/
structure Gen where
  id : Nat
  phase : GenPhase
  load : Load
  damaged : Bool
  /-- Tiles and layers whose entry of the tile directory or attention table is lost (R412). -/
  lostTiles : List Nat := []
  lostLayers : List Nat := []
  deriving DecidableEq, Repr

/-- One generation of an adapter (R241). -/
structure AdGen where
  num : Nat
  refs : Nat
  verified : Bool
  load : Load
  deriving DecidableEq, Repr

/-- An adapter identifier of an instance (R240 to R243). -/
structure Adapter where
  tenant : Nat
  key : Nat
  current : Nat
  gens : List AdGen
  unloaded : Bool
  deriving DecidableEq, Repr

/-- The instance of a group. -/
structure Inst where
  active : Option Gen
  next : Option Gen
  adapters : Tbl Adapter
  /-- Attempts made over the shards of the latest load. -/
  shardAttempts : Nat
  deriving DecidableEq, Repr

def Inst.init : Inst := ⟨none, none, [], 0⟩

/-- States of Table 9-8. -/
inductive CtxPhase where
  | idle | busy | stale | suspending | restoring
  deriving DecidableEq, Repr

/-- A page table entry (Table 8-4). -/
structure Pte where
  frame : Nat
  sink : Bool
  kv8 : Bool
  fill : Nat
  first : Nat
  page : Nat
  score : Nat
  deriving DecidableEq, Repr

/-- A context record (Tables 8-3 and 9-7) with its page tables. -/
structure Ctx where
  group : Nat
  homeDie : Nat
  key : Nat
  tenant : Nat
  tag : Nat
  budget : Nat
  policy : Nat
  shift : Nat
  backing : Backing
  length : Nat
  tail : List Nat
  /-- The last 1,024 block hashes, oldest first, and the number of the newest block. -/
  chain : List (List Byte)
  blocks : Nat
  /-- Resident pages by layer. -/
  tables : Tbl (List Pte)
  /-- Frames of the reservation not in use, by layer. -/
  free : Tbl (List Nat)
  state : CtxPhase
  stateGen : Nat
  adapter : Nat
  adapterGen : Nat
  turns : Nat
  generated : Nat
  evicted : Bool
  /-- Session and sequence of a CTX_SUSPEND or CTX_RESTORE that awaits its reply. -/
  origin : Option (Nat × Nat)
  /-- Device time at which it was applied. -/
  originAt : Nat
  /-- Granule address of the page table (R202, R203). -/
  ptBase : Nat
  /-- Pages found damaged (R219): layer, page position, and the core that found it, if one did; the record
  itself is damaged (R412). -/
  dropPages : List (Nat × Nat × Option Nat)
  damaged : Bool
  /-- Its key is revoked: freed once its request has ended (R385). -/
  orphan : Bool
  /-- Masses measured in the tick by query head, for the scores of the boundary (R215): layer, page, mass. -/
  masses : List (Nat × Nat × Frac)
  /-- Positions written in the tick to pages of cross-attention layers: layer, page position, positions (R201, R212). -/
  crossFill : List (Nat × Nat × Nat)
  /-- Truncation point to be applied at the next boundary (R221). -/
  truncate : Option Nat
  /-- Tokens of the positions that the running tick writes, and the generations that compute them: of
  the instance, the adapter identifier and the adapter generation (R212, R220). -/
  grow : List Nat
  growBy : Nat × Nat × Nat
  deriving DecidableEq, Repr

/-- States of a request before DONE (R251). -/
inductive ReqPhase where
  | queued | prefilling | seated
  deriving DecidableEq, Repr

/-- A request in flight (R249 to R260). -/
structure Req where
  sess : Nat
  f : ReqFields
  group : Nat
  phase : ReqPhase
  /-- Position of its next prefill row, and rows left. -/
  pos : Nat
  rowsLeft : Nat
  slot : Option Nat
  /-- Count table: entry, id, count (R259). -/
  counts : Tbl (Nat × Nat)
  misses : Nat
  sent : Nat
  passed : Nat
  order : Nat
  gen : Nat
  adapterGen : Nat
  late : Bool
  /-- Flags of the running tick for its token. -/
  degraded : Bool
  replayed : Bool
  token : Option Nat
  last : Option Nat
  /-- End reason decided for the end of the tick or at a boundary. -/
  ending : Option Nat
  deriving DecidableEq, Repr

/-- A request that has ended and is to be reported in the tick's frame, and requests ended before. -/
structure Ended where
  sess : Nat
  req : Nat
  group : Nat
  reason : Nat
  slot : Option Nat
  entry : TokenEntry
  /-- Its entry has been sent in a frame. -/
  reported : Bool
  deriving DecidableEq, Repr

/-- A queued spill (R216, R217). -/
structure Spill where
  ctx : Nat
  layer : Nat
  page : Nat
  frame : Nat
  lent : Nat
  granules : Nat
  writing : Bool
  deriving DecidableEq, Repr

/-- The spill pool (R217): granules lent, and the spills queued. -/
structure SpillPool where
  lentGranules : Nat
  queue : List Spill
  deriving DecidableEq, Repr

/-- Running values of a decode walk for one query head (R211). -/
structure HeadAcc where
  m : Word
  l : Word
  o : List Word
  /-- Recorded page maximum and sum. -/
  pages : List (Nat × Word × Word)
  deriving DecidableEq, Repr

/-- A walk in a stream engine (R210). -/
structure Walk where
  group : Nat
  ctx : Nat
  layer : Nat
  slot : Nat
  heads : List HeadAcc
  deriving DecidableEq, Repr

/-- A page as the Sluices have delivered it to a core (R206): its descriptor, and its granules by index, each as read and
whether it was corrected. -/
structure PageIn where
  desc : Nat
  got : Tbl (Option Nat × Bool)
  deriving DecidableEq, Repr

/-- Every granule of the page is there. -/
def PageIn.complete (p : PageIn) : Bool := p.got.length == bitsAt p.desc 35 12

/-- What CTX_INFO and CTX_LENGTH show of a context (R225): its attention fields and resident pages by layer. -/
structure CtxView where
  group : Nat
  budget : Nat
  homeDie : Nat
  policy : Nat
  shift : Nat
  length : Nat
  resident : Tbl Nat
  deriving DecidableEq, Repr

/-- A tile's snapshot taken as a tick completes (R94). -/
structure Snap where
  sat : Nat
  ufl : Nat
  lane : Int
  deriving DecidableEq, Repr

/-- One export held for a receiving tile (R89, R107): source core and tile, destination tile. -/
structure HeldExport where
  srcCore : Nat
  srcTile : Nat
  dstTile : Nat
  exp : Export
  deriving DecidableEq, Repr

/-- One core (R11, R82 to R94, R100 to R114, R137, R152, R168, R191, R345 to R353). -/
structure CoreState where
  causes : Nat
  fenced : Bool
  testing : Bool
  permanent : Bool
  stopped : Bool
  /-- Causes of a fence that takes effect at the next boundary. -/
  due : Nat
  group : Option Nat
  lcore : Option Nat
  running : Bool
  maint : Bool
  waiting : Bool
  credit : Int
  inflight : Nat
  noticed : Bool
  /-- Index and class of the record that issued last in the tick, 0 before any (R168). -/
  opIndex : Nat
  opClass : Nat
  /-- Record that issued last on each unit of the core, and how often it has (R140). -/
  issued : Tbl (Nat × Nat)
  /-- Replay that waits for a top-up, which holds later ones: array, or 32 + tile (R109). -/
  waitsFor : Option Nat
  slip : Nat
  tiles : Tbl CasTile
  snap : Snap
  /-- Tiles that saturated, and that dropped a contribution, in the running tick (R93). -/
  satTick : Nat
  uflTick : Nat
  exports : List HeldExport
  acc : Tbl (List Int)
  /-- Exponents of the lanes of each accumulator (R92). -/
  accExp : Tbl (List Int)
  sources : Tbl (List Num)
  peak : Nat
  /-- Clocks in which members of the tick waited on the Rill (R101). -/
  rillClocks : Nat
  /-- Local memory: bytes written in the tick, by offset (log 15). -/
  lmem : Tbl Byte
  vreg : Tbl (List Word)
  walk : Option Walk
  /-- Pages delivered in the tick, oldest first; a decode walk's until the stream engine has taken them. -/
  pages : List PageIn
  probeResult : Nat
  probeFirst : Nat
  /-- Times of counted errors of the last 60 s: kind and operating seconds (Table 13-6). -/
  errors : List (Nat × Nat)
  /-- The router is in pass-through; its stage has failed. -/
  passThrough : Bool
  stageFault : Bool
  lastReplay : Nat
  /-- Clocks that the waiting replay has waited (R152). -/
  waitClocks : Nat
  deriving DecidableEq, Repr

/-- The page of a decode walk that a core was delivered first (R206, R210). -/
def CoreState.nextPage (k : CoreState) : Option PageIn := k.pages.find? (fun p => !(p.desc.testBit 62))

def CoreState.init : CoreState :=
  { causes := 0, fenced := false, testing := false, permanent := false, stopped := false, due := 0
    group := none, lcore := none, running := false, maint := false, waiting := false, credit := 0
    inflight := 0, noticed := false, opIndex := 0, opClass := 0, issued := [], waitsFor := none, slip := 0, tiles := [], snap := ⟨0, 0, 0⟩, satTick := 0, uflTick := 0
    exports := [], acc := [], accExp := [], sources := [], peak := 0, rillClocks := 0, lmem := [], vreg := []
    walk := none, pages := [], probeResult := 0, probeFirst := 0, errors := [], passThrough := false
    stageFault := false, lastReplay := 0, waitClocks := 0 }

end Sys2Proof.Machine
end

