-- ==== Sys2Proof/Config.lean ====
section
/-!
DEFINITION. What the spec leaves open, as constants without a body: no proof can see their values, and
a claim holds for every value of them. Each is named in a row of the assumption log.
-/

namespace Sys2Proof.Config

open Sys2Proof.Machine

/-- A fresh free value of w bits, taken with the counter the step advances (log 6). -/
opaque freeValue (w : Nat) : Nat → BitVec w

/-- Byte k of the local and Basin memory of a group's tick that nothing has written in the tick (log 15). -/
opaque undefinedByte (group tick k : Nat) : Byte

/-- The named operands of a record's eight operand bytes, by class (log 12). -/
opaque opArgs : Nat → Nat → Option OpArgs

/-- Reading of a v2 plan, whose header and tables the spec does not lay out (log 13). -/
opaque parseV2 : List Byte → Option Plan

/-- Number of a status (log 10): 0 to 13 in the order of Status. -/
opaque statusCode : Nat → BitVec 8

/-- Results of a reply and sets of a telemetry report as payload bytes, by opcode: the spec lays out neither (log 10). -/
opaque resultBytes : Nat → List Nat → List (BitVec 8)

/-- CODE of an event record whose code Table 13-5 does not give, by what it records (log 11). -/
opaque recordCode : String → BitVec 16

/-- Place of element (row, column) of a tensor of some rows and columns in the tensor's bytes, counted
in elements; the spec gives no order (log 24). -/
opaque elemIndex (flags rows cols r c : Nat) : Nat

/-- Place of the scale code of a Microscaling block, by its number along the blocks' axis and across it, in bytes after
the elements (log 24). -/
opaque scaleIndex (flags rows cols along across : Nat) : Nat

/-- Die whose cores consume tile k of tensor i of a group's model or adapter, among the dies of its channels (log 24). -/
opaque tileDie (group ident i k : Nat) : Nat

/-- List budget B that a plan declares for tensor i: the spec gives it no place in the plan's layout (log 24). -/
opaque listBudget (plan : Option Plan) (i : Nat) : Nat

/-- Granules of the outlier list of tile k of a native tensor (log 24). -/
opaque nativeList (bytes k : Nat) : Nat

/-- Segments of a probe pack, from its bytes, the offset of its segment table and the number of segments;
none where one is out of range (log 27). -/
opaque probeSegments (pack : List Byte) (table n : Nat) : Option (List ProbeSeg)

/-- Granules of the system region on a stack (log 25). -/
opaque systemGranules (stack : Nat) : Nat

/-- Where the search for a free place of a die's memory starts, by a counter (log 26). -/
opaque frameAddr (die n : Nat) : Nat

/-- Bytes of a structure whose byte layout the spec does not give, from its fields (log 27). -/
opaque recordBytes (what : String) (fields : List Nat) : List Byte

/-- SHA-256 hashes of the vendor keys in boot ROM (log 28). -/
opaque vendorHash (k : Nat) : List Byte

/-- A quote's HSS signature, from its bottom tree, leaf and message (log 29). -/
opaque quoteSignature (tree leaf : Nat) (msg : List Byte) : List Byte

/-- Granule address of a context's page table, by a counter (log 137). -/
opaque tableAddr (n : Nat) : Nat

/-- FP32 cosine or sine of a position whose scale or frequency is no number (log 8). -/
opaque ropeOpen (sine : Bool) (pos : Nat) (scale freq : Word) : Word

/-- A cosine, a sine and an exponential in FP32 take the value above the exact one, or the one below (log 8). -/
opaque ropeUp (sine : Bool) (pos : Nat) (scale freq : Word) : Bool
opaque expUp (w : Word) : Bool

/-- FP32 sum of a row of exponentials, whose order R213 does not give (log 9). -/
opaque rowSum : List Word → Word

/-- Lane i of a vector operation, by class, function and operands, which the spec names without defining
its arithmetic (log 9). -/
opaque vecLane (cls fn n : Nat) (srcs : List (List Word)) (i : Nat) : Word

/-- Routing gate of expert e from the gate logits of a row, whose function the spec does not give (log 9). -/
opaque routeGate (layer : Nat) (logits : List Word) (e : Nat) : Word

end Sys2Proof.Config
end

