-- ==== Sys2Proof/Machine/Plan.lean ====
section
/-!
DEFINITION. Tick plans: reading the v3 layout (R143 to R147), the cycle account (R140, R141), the
verification of R148 with its structural rules, and the assignment of routed rows (R157 to R159).
-/

namespace Sys2Proof.Machine

open Sys2Proof

/-- Little-endian value of n bytes at an offset; none past the end. -/
def leAt (bs : List Byte) (off n : Nat) : Option Nat :=
  if off + n ≤ bs.length then
    some (((bs.drop off).take n).foldr (fun b acc => b.toNat + 256 * acc) 0)
  else none

/-- Little-endian value with 0 past the end. -/
def le (bs : List Byte) (off n : Nat) : Nat := (leAt bs off n).getD 0

/-- MAGIC of a v3 plan (Table 6-4). -/
def planMagic : Nat := 0x4D504C33

/-- Entry i of a table of n-byte entries, or none where it runs past the plan. -/
def entryAt (bs : List Byte) (base n i : Nat) : Option (List Byte) :=
  let off := base + i * n
  if off + n ≤ bs.length then some ((bs.drop off).take n) else none

def parseCore (e : List Byte) : CoreEnt := ⟨le e 0 1, le e 1 1, le e 2 2⟩
def parseRegion (e : List Byte) : Option RegionEnt :=
  if le e 1 3 = 0 then some ⟨le e 0 1, le e 4 8, le e 12 4⟩ else none
def parseLayer (e : List Byte) : LayerEnt :=
  ⟨le e 0 1, le e 1 1, le e 2 2, le e 4 2, le e 6 2, le e 8 4, le e 12 4⟩
def parseMoe (e : List Byte) : Option MoeEnt :=
  if le e 14 2 = 0 then some ⟨le e 0 2, le e 2 2, le e 4 1, le e 5 1, le e 6 2, le e 8 2, le e 10 2, le e 12 2⟩ else none

/-- One operation record (Table 6-6); its operands are read by class. -/
def parseOp (e : List Byte) : Option OpRec :=
  (Config.opArgs (le e 0 1) (le e 24 8)).map (fun a =>
    { cls := le e 0 1, unit := le e 1 1, lcore := le e 2 2, start := le e 4 4, cost := le e 8 4
      rep := le e 12 2, flags := le e 14 2, dep0 := le e 16 4, dep1 := le e 20 4, args := a })

/-- Layers marked in a bit map of one bit per layer (WIDE_MARKS). -/
def wideLayers (bs : List Byte) (off layers : Nat) : List Nat :=
  if off = 0 then []
  else (List.range layers).filter (fun i => (le bs (off + i / 8) 1).testBit (i % 8))

/-- WIDE_MARKS of a descriptor (Table 6-5): 0 but in a wide variant, and a map that the plan holds. -/
def marksOk (bs : List Byte) (kind off layers : Nat) : Bool :=
  off == 0 || (kind == 1 && decide (off + ceilDiv layers 8 ≤ bs.length))

/-- One variant descriptor with its operation stream (Table 6-5). -/
def parseVariant (bs : List Byte) (layers i : Nat) : Option (Option Variant) :=
  let d := 0x60 + 32 * i
  match leAt bs d 32 with
  | none => none
  | some _ =>
    if le bs (d + 1) 1 = 0 then some none
    else if le bs (d + 1) 1 ≠ 1 ∨ marksOk bs (le bs d 1) (le bs (d + 0x1C) 4) layers = false then none
    else
      let off := le bs (d + 0x14) 4
      let cnt := le bs (d + 0x18) 4
      ((List.range cnt).mapM (fun k => (entryAt bs off 32 k).bind parseOp)).map (fun ops =>
        some { kind := le bs d 1, clock := le bs (d + 2) 2, period := le bs (d + 4) 4
               lcores := le bs (d + 8) 2, permille := le bs (d + 0xA) 2, worst := le bs (d + 0xC) 4
               maint := le bs (d + 0x10) 4, ops := ops
               wide := wideLayers bs (le bs (d + 0x1C) 4) layers })

/-- A v3 plan read from its bytes; none where a table or stream runs past the plan, MAGIC differs, a reserved
field that is 0 is not, or descriptor 0 is unused. -/
def parsePlan (bs : List Byte) : Option Plan :=
  if bs.length < 0xE0 ∨ le bs 0 4 ≠ planMagic ∨ le bs 0x5C 4 ≠ 0 ∨ le bs 0x61 1 ≠ 1 then none
  else
    let nl := le bs 0x32 2
    let nc := le bs 0x3A 2
    let nr := le bs 0x58 4
    let tab := fun (off n cnt : Nat) => (List.range cnt).mapM (fun i => entryAt bs off n i)
    match tab (le bs 0x40 4) 4 nc, tab (le bs 0x44 4) 16 nr, tab (le bs 0x48 4) 16 nl,
        (List.range 4).mapM (parseVariant bs nl) with
    | some cs, some rs, some ls, some vs =>
      let layers := ls.map parseLayer
      let nm := (layers.filter (fun l => l.kind == 2)).length
      let moeOff := le bs 0x4C 4
      match (if moeOff = 0 then some [] else tab moeOff 16 nm).bind (·.mapM parseMoe), rs.mapM parseRegion with
      | none, _ => none
      | _, none => none
      | some ms, some regions =>
        some { format := le bs 4 1, stride := le bs 6 1, nocRatio := le bs 7 1
               planId := le bs 8 8, manifest := (bs.drop 0x10).take 32, channels := le bs 0x30 2
               decodeRows := le bs 0x34 2, prefillRows := le bs 0x36 2, spillSrc := le bs 0x38 2
               linold := le bs 0x3C 4, cores := cs.map parseCore, regions := regions
               layers := layers, moe := ms, length := le bs 0x50 4
               descriptors := le bs 0x54 4, variants := vs.filterMap id }
    | _, _, _, _ => none

/-- FORMAT of a plan's bytes (R148). -/
def planFormat (bs : List Byte) : Nat := le bs 4 1

/-- The nominal variant, and the variant of a kind. -/
def Plan.variant (p : Plan) (kind : Nat) : Option Variant := p.variants.find? (fun v => v.kind == kind)

/-- Sorted distinct values. -/
def distinct (l : List Nat) : List Nat := sortBy (fun a b => decide (a < b)) l.eraseDups

/-- The clusters a core entry declares neighbours of its own (Table 6-4). -/
def neighbours (cs : List CoreEnt) (c : CoreEnt) : List Nat :=
  let order := distinct ((cs.filter (fun x => x.die == c.die)).map (·.cluster))
  order.zipIdx.filterMap (fun (cl, i) => if c.map.testBit i then some cl else none)

/-- The rules of the neighbour map (Table 6-4). -/
def coreTableOk (cs : List CoreEnt) : Bool :=
  cs.all (fun c =>
    decide (c.map < 256)
    && cs.all (fun d => decide (d.cluster ≠ c.cluster) || (d.map == c.map && d.die == c.die))
    && !((neighbours cs c).contains c.cluster)
    && (neighbours cs c).all (fun n =>
      cs.all (fun d => decide (d.cluster ≠ n) || decide (d.die ≠ c.die)
        || (neighbours cs d).contains c.cluster)))
  && (distinct (cs.map (·.cluster))).all (fun k =>
      decide ((cs.filter (fun c => c.cluster == k)).length ≤ 18))
  && (distinct (cs.map (·.die))).all (fun d =>
      decide ((distinct ((cs.filter (fun c => c.die == d)).map (·.cluster))).length ≤ 8))

/-- Ranges of the header and tables (R135, R143 to R146). -/
def rangesOk (p : Plan) (variantCount : Nat) : Bool :=
  decide (1 ≤ variantCount) && decide (variantCount ≤ 4) && decide (p.variants.length = variantCount)
  && decide (1 ≤ p.stride) && decide (p.stride ≤ 8) && decide (p.nocRatio = 1 ∨ p.nocRatio = 2)
  && decide (1 ≤ p.channels) && decide (p.channels ≤ 12)
  && decide (1 ≤ p.layers.length) && decide (p.layers.length ≤ 1024)
  && decide (p.prefillRows ≤ 16384) && decide (p.cores.length ≤ 576)
  && p.variants.all (fun v =>
    decide (v.kind ≤ 3) && decide (100 ≤ v.clock) && decide (v.clock ≤ 2000)
    && decide (2000 ≤ v.period) && decide (v.period ≤ 100000)
    && decide (10 ≤ v.permille) && decide (v.permille ≤ 500)
    && decide (v.maint = 0 ∨ 256 ≤ v.maint) && decide (v.lcores ≤ p.cores.length))
  && decide ((p.variants.map (·.kind)).eraseDups.length = p.variants.length)
  && decide (p.variants.head?.map (·.kind) = some 0)
  && p.layers.all (fun l => decide (l.kind ≤ 6) && decide (l.wShare ≤ 256)
    && decide (l.kvShare ≤ 256) && decide (l.wShare + l.kvShare ≤ 256))
  && p.regions.all (fun r => match r.kind with
    | 0 => decide (r.owner < p.cores.length)
    | 1 => p.cores.any (fun c => c.cluster == r.owner)
    | 2 => decide (r.owner = 0xFFFFFFFF)
    | _ => false)
  && p.moe.all (fun m => decide (1 ≤ m.experts) && decide (m.experts ≤ 1024)
    && decide (m.shared ≤ 8) && decide (1 ≤ m.topK) && decide (m.topK ≤ 16)
    && decide (m.groupSize ≠ 0) && decide (m.experts % m.groupSize = 0)
    && decide (1 ≤ m.capacity) && decide (m.capacity ≤ 16384) && decide (m.pool ≤ 65535)
    && decide (m.router < p.cores.length))

/-- Degraded fewer cores, wide no shorter a period, and the same cores elsewhere (R144, R160). -/
def variantsOk (p : Plan) : Bool :=
  match p.variant 0 with
  | none => false
  | some nom => p.variants.all (fun v =>
      if v.kind = 3 then decide (v.lcores < nom.lcores)
      else decide (v.lcores = nom.lcores) && (decide (v.kind ≠ 1) || decide (nom.period ≤ v.period)))

/-- Class codes of Table 6-3. -/
abbrev clsLoad : Nat := 0x01
abbrev clsFire : Nat := 0x02
abbrev clsFirePair : Nat := 0x03
abbrev clsFireDense : Nat := 0x04
abbrev clsExpert : Nat := 0x05
abbrev clsClear : Nat := 0x08
abbrev clsDrain : Nat := 0x09
abbrev clsExport : Nat := 0x0A
abbrev clsMerge : Nat := 0x0B
abbrev clsQuant : Nat := 0x10
abbrev clsVecElem : Nat := 0x11
abbrev clsVecTrans : Nat := 0x12
abbrev clsVecReduce : Nat := 0x13
abbrev clsRoute : Nat := 0x14
abbrev clsAssign : Nat := 0x15
abbrev clsMemRead : Nat := 0x18
abbrev clsMemWrite : Nat := 0x19
abbrev clsXfer : Nat := 0x1A
abbrev clsAttn : Nat := 0x20
abbrev clsSample : Nat := 0x21
abbrev clsFrame : Nat := 0x22
abbrev clsAoa : Nat := 0x30
abbrev clsSync : Nat := 0x3F

/-- Fixed latency of a distance class (Table 6-2). -/
def classLatency : Nat → Nat
  | 0 => 4
  | 1 => 16
  | 2 => 32
  | 3 => 64
  | _ => 192

/-- Largest declared rate of a class, in bytes per core clock (Table 6-2); halved at NOC_RATIO 2 for
classes 1 to 4 (R139). -/
def classRate (cls ratio : Nat) : Nat :=
  let full := match cls with
    | 0 => 500
    | 4 => 150
    | _ => 256
  if ratio = 2 ∧ cls ≠ 0 then full / 2 else full

/-- Clocks of a stream of b bytes at share s for k channels at f MHz (R141). -/
def streamClocks (b s k f : Nat) : Nat :=
  if s = 0 ∨ k = 0 then 0 else ceilDiv (256 * b * 3 * f) (s * k * 7000000)

/-- Share of a layer for a stream kind. -/
def layerShare (p : Plan) (layer : Nat) (kv : Bool) : Nat :=
  match p.layers[layer]? with
  | some l => if kv then l.kvShare else l.wShare
  | none => 0

/-- Expert run parameters of a layer. -/
def moeOf (p : Plan) (layer : Nat) : Option MoeEnt := p.moe.find? (fun m => m.layer == layer)

/-- Cost of one repetition under Table 6-3 at f MHz. -/
def opCost (p : Plan) (f : Nat) (op : OpRec) : Nat :=
  let a := op.args
  match op.cls with
  | 0x01 => 132
  | 0x02 => 24
  | 0x03 => 48
  | 0x04 => 96
  | 0x05 =>
    match moeOf p a.layer with
    | some m => m.groupSize * 132 + (m.groupSize * m.capacity + m.pool) * (if a.nibble then 48 else 24)
    | none => 0
  | 0x08 => 1
  | 0x09 => 26
  | 0x0A => 4 + classLatency a.distClass + ceilDiv 800 a.rate
  | 0x0B => 6
  | 0x10 => 4 * ceilDiv a.n 256
  | 0x11 => ceilDiv a.n 256 + 8
  | 0x12 => 2 * ceilDiv a.n 256 + 12
  | 0x13 => ceilDiv a.n 256 + 16
  | 0x14 => a.rows * ceilDiv a.gates 256 * a.topK + 8
  | 0x15 => ceilDiv a.n 2 + 64
  | 0x18 => streamClocks a.bytes (layerShare p a.layer a.kv) p.channels f
  | 0x19 => streamClocks a.bytes (layerShare p a.layer a.kv) p.channels f
  | 0x1A => classLatency a.distClass + ceilDiv a.bytes a.rate
  | 0x20 => ceilDiv a.bytes 512 + 24
  | 0x21 => ceilDiv a.n 1024 + 64
  | 0x22 => if a.n = 0 then 2048 else a.n
  | 0x30 => if a.n = 0 then 1 else 8
  | _ => 0

/-- Occupancy of a record with cost c (R140). -/
def opOccupancy (op : OpRec) (c : Nat) : Nat :=
  if op.cls = clsDrain ∨ op.cls = clsExport then 4 else c

/-- The unit a record holds (Table 6-3), as a key: kind, logical core and unit number; a SYNC holds none. -/
def opUnit (op : OpRec) : Option (Nat × Nat × Nat) :=
  let eng := op.unit % 16
  match op.cls with
  | 0x01 => some (1, op.lcore, op.unit % 32)
  | 0x02 | 0x03 | 0x04 | 0x05 => some (2, op.lcore, eng)
  | 0x08 | 0x09 | 0x0A | 0x0B => some (3, op.lcore, 0)
  | 0x10 => some (4, op.lcore, 0)
  | 0x11 | 0x12 | 0x13 | 0x14 | 0x15 => some (5, op.lcore, 0)
  | 0x18 | 0x19 => some (6, op.args.layer, if op.args.kv then 1 else 0)
  | 0x20 => some (7, op.lcore, 0)
  | 0x21 => some (8, op.lcore, 0)
  | 0x22 => some (9, 0, 0)
  | 0x30 => some (10, op.lcore, eng / 4)
  | 0x3F => none
  | _ => some (0, 0, 0)

/-- Issue clocks of the fires of one repetition of a record, from its issue (R148). -/
def fireOffsets (p : Plan) (op : OpRec) : List Nat :=
  match op.cls with
  | 0x02 | 0x03 | 0x04 => [0]
  | 0x05 =>
    match moeOf p op.args.layer with
    | some m => (List.range (m.groupSize * m.capacity + m.pool)).map (fun k =>
        m.groupSize * 132 + k * (if op.args.nibble then 48 else 24))
    | none => []
  | _ => []

/-- A stream in progress: layer, kind, start, end and share. -/
structure StreamUse where
  layer : Nat
  kv : Bool
  write : Bool
  start : Nat
  stop : Nat
  share : Nat
  deriving DecidableEq, Repr

/-- The schedule of one phase as it is checked. -/
structure Sched where
  /-- Rill free clock by logical core. -/
  rill : Tbl Nat
  units : List ((Nat × Nat × Nat) × Nat)
  /-- Result time by record index of the stream. -/
  results : Tbl Nat
  streams : List StreamUse
  deriving DecidableEq, Repr

/-- Clock from which a unit is free; no unit is always free. -/
def unitFree (u : List ((Nat × Nat × Nat) × Nat)) (k : Option (Nat × Nat × Nat)) : Nat :=
  ((u.find? (fun p => some p.1 == k)).map (·.2)).getD 0

def setUnit (u : List ((Nat × Nat × Nat) × Nat)) (k : Option (Nat × Nat × Nat)) (v : Nat) :
    List ((Nat × Nat × Nat) × Nat) :=
  match k with
  | none => u
  | some k => (k, v) :: u.filter (fun p => p.1 != k)

/-- Admit the fires of a record to the Rill of its core; none where a fire waits past clock 23. -/
def rillAdmit (rill : Nat) (occ : Nat) : List Nat → Option Nat
  | [] => some rill
  | s :: rest =>
    let r := max rill (s + 1) + occ
    if s + 23 < r then none else rillAdmit r occ rest

/-- A record reads the stream of a layer and kind. -/
def OpRec.readsOf (op : OpRec) (layer : Nat) (kv : Bool) : Bool :=
  op.cls == clsMemRead && op.args.layer == layer && op.args.kv == kv

/-- Delivery clock of the stream that feeds a record (R141), taken from its issue, or from its START where it comes
later in the phase: none where no stream feeds a LOAD, and where a stream operation has no share. -/
def streamReady (p : Plan) (f : Nat) (sc : Sched) (op : OpRec) (c : Nat) (later : List (Nat × OpRec)) : Option Nat :=
  let a := op.args
  let sh := layerShare p a.layer a.kv
  if op.cls = clsLoad then
    let begins := match sc.streams.find? (fun s => s.layer == a.layer && s.kv == a.kv && !s.write) with
      | some s => some s.start
      | none => (later.find? (fun q => q.2.readsOf a.layer a.kv)).map (·.2.start)
    match begins with
    | some b => if sh = 0 then none else some (b + streamClocks a.endOffset sh p.channels f)
    | none => none
  else if op.cls = clsMemRead ∨ op.cls = clsMemWrite then (if sh = 0 then none else some 0)
  else if op.cls = clsAttn then
    let ends := (sc.streams.filter (fun s => s.layer == a.layer && s.kv && !s.write)).map (·.stop)
    some (ends.foldl max 0 + 24 - ((op.rep - 1) * c + c))
  else some 0

/-- One record of the schedule (R148). `lit` takes the plan as written; otherwise it is scheduled; each
fire's result comes `late` clocks after its account (R338). Answers the new schedule, or none where the record fails.
A v2 plan has no Rill (R165). -/
def schedStep (p : Plan) (f : Nat) (lit : Bool) (late : Nat) (sc : Sched) (first idx : Nat) (op : OpRec)
    (later : List (Nat × OpRec)) : Option Sched :=
  let c := opCost p f op
  let u := opOccupancy op c
  if op.rep = 0 ∨ (lit && decide (op.cost ≠ c)) then none
  else
    let dep := fun (d : Nat) => if d = 0xFFFFFFFF ∨ d < first then 0 else sc.results.getD d 0
    let mergeReady := if op.cls = clsMerge then sc.results.getD op.args.exportRec 0 else 0
    match streamReady p f sc op c later with
    | none => none
    | some sr =>
      let ready := max (max (dep op.dep0) (dep op.dep1))
        (max (max (unitFree sc.units (opUnit op)) mergeReady) sr)
      if lit && decide (op.start < ready) then none
      else
        let issue := if lit then op.start else max op.start ready
        let offs := fireOffsets p op
        let fires := ((List.range op.rep).map (fun n => offs.map (fun o => issue + n * u + o))).flatten
        match (if p.format = 2 then some 0 else rillAdmit (sc.rill.getD op.lcore 0) (rillOcc op) fires) with
        | none => none
        | some r =>
          let stop := issue + (op.rep - 1) * u + c + (if fires.isEmpty then 0 else late)
          some { rill := if fires.isEmpty then sc.rill else sc.rill.put op.lcore r
                 units := setUnit sc.units (opUnit op) (issue + u * op.rep)
                 results := sc.results.put idx stop
                 streams := if op.cls = clsMemRead ∨ op.cls = clsMemWrite then
                     sc.streams ++ [⟨op.args.layer, op.args.kv, op.cls == clsMemWrite, issue, stop,
                       layerShare p op.args.layer op.args.kv⟩]
                   else sc.streams }
where
  rillOcc (op : OpRec) : Nat := max (ceilDiv op.args.budget 192) (ceilDiv (8 * op.args.outputs) 1024)

/-- Records of a stream with their indexes, divided into phases (R164). -/
def phasesOf (ops : List OpRec) : List (List (Nat × OpRec)) :=
  ops.zipIdx.foldl (fun acc p =>
    let it := (p.2, p.1)
    match acc.reverse with
    | [] => [[it]]
    | last :: before =>
      if p.1.flags.testBit 5 then acc ++ [[it]]
      else (before.reverse) ++ [last ++ [it]]) []

/-- Schedule of a phase: the first record that fails, or the schedule. -/
def schedPhase (p : Plan) (f : Nat) (lit : Bool) (late first : Nat) :
    List (Nat × OpRec) → Sched → Except Nat Sched
  | [], sc => .ok sc
  | (i, op) :: rest, sc =>
    match schedStep p f lit late sc first i op rest with
    | none => .error i
    | some sc' => schedPhase p f lit late first rest sc'

/-- At every start of a stream the shares in progress sum to at most 256 (R141). -/
def sharesOk (ss : List StreamUse) : Bool :=
  ss.all (fun s =>
    decide ((ss.filter (fun t => decide (t.start ≤ s.start) && decide (s.start < t.stop))).foldl
      (fun n t => n + t.share) 0 ≤ 256))

/-- No record index: reported where a failure concerns no record. -/
def noRecord : Nat := 0xFFFFFF

/-- The check of one variant at a clock (R148), with fires that finish late (R338): none where it passes,
else the record concerned. WORST_CASE is the stream's own completion, so a late check compares the
completion it finds. -/
def checkVariantLate (p : Plan) (v : Variant) (f : Nat) (lit : Bool) (late : Nat) : Option Nat :=
  let t := v.period * f
  let run := (phasesOf v.ops).foldl (fun acc ph => match acc with
    | .error i => .error i
    | .ok w =>
      let first := (ph.head?.map (·.1)).getD 0
      match schedPhase p f lit late first ph ⟨[], [], [], []⟩ with
      | .error i => .error i
      | .ok sc =>
        if sharesOk sc.streams then .ok (max w ((sc.results.map (·.2)).foldl max 0))
        else .error noRecord) (Except.ok 0 : Except Nat Nat)
  match run with
  | .error i => some i
  | .ok w =>
    if lit && late == 0 && decide (w ≠ v.worst) then some noRecord
    else if t < 8192 + w + t * v.permille / 1000 + v.maint then some noRecord
    else if 240 * v.period < p.descriptors then some noRecord
    else none

/-- The check of R148 on fires that finish with their account. -/
def checkVariant (p : Plan) (v : Variant) (f : Nat) (lit : Bool) : Option Nat := checkVariantLate p v f lit 0

/-- Structural state of one pass over a stream: windows set, exports made, scale sets open. -/
structure Shape where
  windows : List ((Nat × Nat) × Int)
  /-- Exports by record, with the window of their tile. -/
  exps : List (Nat × Int)
  sets : List ((Nat × Nat) × Nat)
  deriving DecidableEq, Repr

/-- Classes of Table 6-3. -/
def opClasses : List Nat :=
  [clsLoad, clsFire, clsFirePair, clsFireDense, clsExpert, clsClear, clsDrain, clsExport, clsMerge, clsQuant, clsVecElem
  , clsVecTrans, clsVecReduce, clsRoute, clsAssign, clsMemRead, clsMemWrite, clsXfer, clsAttn, clsSample, clsFrame, clsAoa
  , clsSync]

/-- Largest list budget of a tile of some outputs (Table 4-1). -/
def listLimit : Nat → Nat
  | 64 => 163
  | 128 => 327
  | 256 => 655
  | _ => 0

/-- A record fires a tile by itself. -/
def OpRec.isFire (op : OpRec) : Bool := [clsFire, clsFirePair, clsFireDense].contains op.cls

/-- A declared distance class agrees with the core table (R139). -/
def classAgrees (cs : List CoreEnt) (cls src dst : Nat) : Bool :=
  match cs[src]?, cs[dst]? with
  | some a, some b => match cls with
    | 0 => src == dst
    | 1 => a.cluster == b.cluster
    | 2 => (neighbours cs a).contains b.cluster
    | 3 => a.die == b.die
    | _ => a.die != b.die
  | _, _ => false

/-- A record's class is one of Table 6-3, its logical core one of the variant's, W and G of a clear as R82 and R85
say, a transfer's class and rate as R139 says, and a fire's list budget within Table 4-1 (R95), with MV4 tiles only in a
v2 plan (R64). -/
def recordOk (p : Plan) (v : Variant) (op : OpRec) : Bool :=
  let a := op.args
  opClasses.contains op.cls
  && ([clsSync, clsMemRead, clsMemWrite, clsFrame].contains op.cls || decide (op.lcore < v.lcores))
  && (op.cls != clsClear || (decide (-2048 ≤ a.tileW ∧ a.tileW ≤ 2047) && [4, 8, 16].contains a.tileG))
  && ([clsXfer, clsExport].contains op.cls == false
    || (decide (a.distClass ≤ 4) && decide (1 ≤ a.rate) && decide (a.rate ≤ classRate a.distClass p.nocRatio)
      && classAgrees p.cores a.distClass op.lcore a.destCore))
  && (!(op.isFire || op.cls == clsExpert)
    || (if p.format = 2 then a.outputs == 64 else [64, 128, 256].contains a.outputs && decide (a.budget ≤ listLimit a.outputs)))

/-- Clock at which a record has loaded an array for the first time: a LOAD, or the first load of an expert run. -/
def OpRec.loadsBy (op : OpRec) (lcore arr : Nat) : Option Nat :=
  if (op.cls == clsLoad || op.cls == clsExpert) && op.lcore == lcore && op.unit % 32 == arr then some (op.start + 132) else none

/-- A fire is preceded by a load of its array in its phase (R51): one that is complete by the fire's START. -/
def loadedBefore (ph : List (Nat × OpRec)) (op : OpRec) : Bool :=
  ph.any (fun q => match q.2.loadsBy op.lcore (op.unit % 32) with
    | some c => decide (c ≤ op.start)
    | none => false)

/-- Structural rules of one record of a phase (R51, R62, R91, R92, R139, R141, R147); none where it fails. -/
def shapeStep (p : Plan) (v : Variant) (ph : List (Nat × OpRec)) (first idx : Nat) (sh : Shape) (op : OpRec) : Option Shape :=
  let depOk := fun (d : Nat) => d = 0xFFFFFFFF ∨ d < idx
  let win := fun (k : Nat × Nat) => (sh.windows.find? (fun q => q.1 == k)).map (·.2)
  let tile := (op.lcore, op.unit % 64)
  if ¬ depOk op.dep0 ∨ ¬ depOk op.dep1 ∨ recordOk p v op = false then none
  else if op.cls = clsLoad then
    if ph.any (fun q => q.2.readsOf op.args.layer op.args.kv) ∧ layerShare p op.args.layer op.args.kv ≠ 0
    then some sh else none
  else if op.isFire ∧ loadedBefore ph op = false then none
  else if op.cls = clsAoa ∧ p.format ≠ 2 then none
  else if op.isFire ∧ p.format = 2 then
    let key := (op.lcore, op.unit % 16 / 4)
    match sh.sets.find? (fun q => q.1 == key) with
    | some q => if q.2 = op.args.scaleSet then some sh else none
    | none => some { sh with sets := (key, op.args.scaleSet) :: sh.sets }
  else if op.cls = clsAoa ∧ op.args.n ≠ 0 then
    some { sh with sets := sh.sets.filter (fun q => q.1 != (op.lcore, op.unit % 16 / 4)) }
  else if op.cls = clsClear then
    some { sh with windows := (tile, op.args.tileW) :: sh.windows.filter (fun q => q.1 != tile) }
  else if op.cls = clsExport then some { sh with exps := (idx, (win tile).getD 0) :: sh.exps }
  else if op.cls = clsMerge then
    if op.args.exportRec < first ∨ idx ≤ op.args.exportRec then none
    else match v.ops[op.args.exportRec]? with
      | none => none
      | some e =>
        if e.cls ≠ clsExport ∨ e.args.destCore ≠ op.lcore ∨ e.args.destTile ≠ op.unit % 64 then none
        else if sh.exps.lookup op.args.exportRec = some ((win tile).getD 0) then some sh else none
  else some sh

/-- First record of a stream that breaks a structural rule, if any. -/
def shapeCheck (p : Plan) (v : Variant) : Option Nat :=
  let perPhase := (phasesOf v.ops).map (fun ph =>
    let first := (ph.head?.map (·.1)).getD 0
    ph.foldl (fun (acc : Shape × Option Nat) q => match acc.2 with
      | some _ => acc
      | none => match shapeStep p v ph first q.1 acc.1 q.2 with
        | some s => (s, none)
        | none => (acc.1, some q.1)) (⟨[], [], []⟩, none))
  (perPhase.find? (fun r => r.2.isSome)).bind (·.2)

/-- The mixture-of-experts table against the layer table (R146). -/
def moeTableOk (p : Plan) : Bool :=
  let kinds := p.layers.zipIdx.filter (fun l => l.1.kind == 2)
  decide (p.moe.map (·.layer) = kinds.map (·.2))
  && p.layers.zipIdx.all (fun l =>
    if l.1.kind = 2 then (match p.moe[l.1.moeIndex]? with
      | some m => m.layer == l.2
      | none => false)
    else l.1.moeIndex == 0xFFFF)

/-- Two expert runs of one layer, pool group and tile position. -/
def sameRun (a b : OpRec) : Bool :=
  a.args.layer == b.args.layer && a.args.poolGroup == b.args.poolGroup && a.args.tilePos == b.args.tilePos

/-- First EXPERT_RUN record that breaks R156 by itself or repeats an earlier one. -/
def badExpertRun (p : Plan) (v : Variant) : Option Nat :=
  let runs := v.ops.zipIdx.filter (fun r => r.1.cls == clsExpert)
  (runs.find? (fun r => match moeOf p r.1.args.layer with
    | none => true
    | some m => !(decide (r.1.args.poolGroup < m.experts / m.groupSize) && r.1.flags.testBit 3
        && (r.1.flags.testBit 4 == decide (0 < m.pool)))
      || runs.any (fun q => decide (q.2 < r.2) && sameRun q.1 r.1))).map (·.2)

/-- Every pool group has a run at each tile position of its layer (R156). -/
def runsWhole (p : Plan) (v : Variant) : Bool :=
  p.moe.all (fun m =>
    let runs := v.ops.filter (fun op => op.cls == clsExpert && op.args.layer == m.layer)
    let n := (runs.map (fun r => r.args.tilePos + 1)).foldl max 0
    (List.range (m.experts / m.groupSize)).all (fun q => (List.range n).all (fun t =>
      runs.any (fun r => r.args.poolGroup == q && r.args.tilePos == t))))

/-- WIDE_MARKS sets only layers that may be widened (R145). -/
def wideMarksOk (p : Plan) (v : Variant) : Bool :=
  v.wide.all (fun i => match p.layers[i]? with
    | some l => l.flags.testBit 1
    | none => false)

/-- A variant's structural rules (R148): none where it passes, else the record concerned. -/
def structural (p : Plan) (v : Variant) : Option Nat :=
  match shapeCheck p v with
  | some i => some i
  | none =>
    if !(wideMarksOk p v) || !(moeTableOk p) then some noRecord
    else if let some i := badExpertRun p v then some i
    else if !(runsWhole p v) then some noRecord
    else if (phasesOf v.ops).length ≠ p.stride then some noRecord
    else if !(coreTableOk p.cores) then some noRecord
    else none

/-- What verification answers (R148). -/
inductive Verdict where
  /-- Accepted; true where a degraded variant is usable under throttle. -/
  | accept (degradedUsable : Bool)
  | digest
  | version
  | invalid (rec : Nat)
  | conflict
  deriving DecidableEq, Repr

/-- Records with the costs recomputed, for a v2 plan (R165). -/
def recost (p : Plan) : Plan :=
  { p with variants := p.variants.map (fun v =>
      { v with ops := v.ops.map (fun op => { op with cost := opCost p v.clock op }) }) }

/-- A v2 plan as compatibility mode takes it: its nominal variant alone with the reserve of 80 thousandths and no
stride, no pool, and its two distance classes as 0 and 3 (R165). -/
def compatPlan (p : Plan) : Plan :=
  recost { p with
    stride := 1
    moe := p.moe.map (fun m => { m with pool := 0 })
    variants := (p.variants.filter (fun v => v.kind == 0)).map (fun v => { v with
      permille := 80
      ops := v.ops.map (fun op => { op with args := { op.args with distClass := if op.args.distClass = 0 then 0 else 3 } }) }) }

/-- Variant checks of R148 in order, at the throttle clock in force. -/
def checkVariants (p : Plan) (throttle : Nat) : List Variant → Bool → Verdict
  | [], usable => .accept usable
  | v :: rest, usable =>
    match structural p v with
    | some i => .invalid i
    | none =>
      match checkVariant p v v.clock true with
      | some i => .invalid i
      | none =>
        if v.kind = 2 then
          match checkVariant p v throttle false with
          | some i => .invalid i
          | none => checkVariants p throttle rest usable
        else if v.kind = 3 then
          checkVariants p throttle rest (checkVariant p v throttle false).isNone
        else checkVariants p throttle rest usable

/-- Verification after the digest check (R148): formats the session may commit, the channels and
slots of the group, whether the manifest digest and R165 are met, and the throttle clock. -/
def verifyPlan (bs : List Byte) (formats : List Nat) (groupChannels groupSlots : Nat)
    (bindingOk : Plan → Bool) (throttle : Nat) : Verdict × Option Plan :=
  let fmt := planFormat bs
  if !(formats.contains fmt) || (fmt != 2 && fmt != 3) then (.version, none)
  else
    match (if fmt = 2 then Config.parseV2 bs else parsePlan bs) with
    | none => (.invalid noRecord, none)
    | some p0 =>
      let p := if fmt = 2 then compatPlan p0 else p0
      let count := if fmt = 2 then p.variants.length else le bs 5 1
      if !(rangesOk p count) || !(variantsOk p) || decide (groupSlots < p.decodeRows)
          || decide (p.length ≠ bs.length) then (.invalid noRecord, none)
      else if p.channels ≠ groupChannels then (.conflict, none)
      else if !(bindingOk p) then (.conflict, none)
      else
        match checkVariants p throttle p.variants true with
        | .accept u => (.accept u, some p)
        | v => (v, none)

/-- Replay reserve of a variant at its clock: floor(T × RESERVE_PERMILLE / 1,000) (R151). -/
def reserveOf (v : Variant) : Nat := v.period * v.clock * v.permille / 1000

/-- Credit dealt to each core: min(2,048, floor(Rres / (4 × cores))) (R152). -/
def dealCredit (rres cores : Nat) : Nat := if cores = 0 then 0 else min 2048 (rres / (4 * cores))

/-- One row to be assigned: its number, and its choices with their FP32 gates (R157). -/
structure RouteRow where
  row : Nat
  slot : Option Nat
  choices : List (Nat × Word)
  deriving DecidableEq, Repr

/-- One placed choice. -/
structure Placed where
  row : Nat
  expert : Nat
  pool : Bool
  gate : Word
  deriving DecidableEq, Repr

/-- Assignment so far: placements, capacity used by expert, pool used by group, drops. -/
structure AssignState where
  placed : List Placed
  cap : Tbl Nat
  pool : Tbl Nat
  drops : List (Nat × Nat)
  deriving DecidableEq, Repr

/-- A row's choices ranked by gate, largest first, ties to the lower expert index (R157). -/
def rankChoices (r : RouteRow) : List (Nat × Word) :=
  sortBy (fun a b => fpLt b.2 a.2 || (!(fpLt a.2 b.2) && decide (a.1 < b.1))) r.choices

/-- One choice of one row (R157). -/
def assignOne (m : MoeEnt) (st : AssignState) (row : Nat) (ch : Nat × Word) : AssignState :=
  let e := ch.1
  let q := e / m.groupSize
  if st.cap.getD e 0 < m.capacity then
    { st with cap := st.cap.upd e 0 (· + 1), placed := st.placed ++ [⟨row, e, false, ch.2⟩] }
  else if st.pool.getD q 0 < m.pool then
    { st with pool := st.pool.upd q 0 (· + 1), placed := st.placed ++ [⟨row, e, true, ch.2⟩] }
  else { st with drops := st.drops ++ [(row, e)] }

/-- ASSIGN: rank by rank, each rank over the rows in order (R157). -/
def assignRows (m : MoeEnt) (rows : List RouteRow) : AssignState :=
  let ranked := rows.map (fun r => (r.row, rankChoices r))
  (List.range m.topK).foldl (fun st j =>
    ranked.foldl (fun st r => match r.2[j]? with
      | some ch => assignOne m st r.1 ch
      | none => st) st) ⟨[], [], [], []⟩

/-- Rows all of whose choices were dropped (R159). -/
def unrouted (rows : List RouteRow) (st : AssignState) : List Nat :=
  (rows.filter (fun r => !r.choices.isEmpty && !(st.placed.any (fun p => p.row == r.row)))).map (·.row)

/-- Gates after R158: each placed gate times the sum of the row's gates over the sum of its placed
gates, computed exactly and rounded once; unchanged where nothing was dropped or the placed sum is 0. -/
def rescale (rows : List RouteRow) (st : AssignState) : List Placed :=
  st.placed.map (fun p =>
    match rows.find? (fun r => r.row == p.row) with
    | none => p
    | some r =>
      if !(st.drops.any (fun d => d.1 == p.row)) then p
      else
        let all := Frac.sum (r.choices.map (fun c => fpValue c.2))
        let kept := Frac.sum ((st.placed.filter (fun q => q.row == p.row)).map (fun q => fpValue q.gate))
        if kept.isZero then p
        else { p with gate := fpOfFrac (((fpValue p.gate).mul all).div kept) })

end Sys2Proof.Machine
end

