-- ==== Sys2Proof/Machine/RegMap.lean ====
section
/-!
DEFINITION. The register map: every register of the spec's register tables, by block and offset,
with its access code (R10), its reset value and the mask of its fields that are not reserved.
-/

namespace Sys2Proof.Machine

/-- Access codes of Table 0-7 (R10). -/
inductive Access where
  | rw | ro | wo | w1c | rc
  deriving DecidableEq, Repr

/-- One register of a block: its offset, access code, reset value and the mask of its fields. -/
structure RegDesc where
  off : Nat
  acc : Access
  reset : Word
  mask : Word
  deriving DecidableEq, Repr

/-- The register blocks of R9, R27 and R28, each with the unit it belongs to. -/
inductive Blk where
  | identity | clocks | thermal | time | port | car | usher | cal | err | recorder | sec
  | grp (g : GroupIx)
  | die (d : DieIx) | boot | walk
  | dieClk (d : DieIx) | mon (d : DieIx)
  | mc (k : StackIx) | sluice (k : StackIx)
  | dlink (d : DieIx) (south : Bool)
  | xbar (c : ClusterIx)
  | carq (c : CoreIx) | eng (c : CoreIx) (e : EngIx) | cas (c : CoreIx) | cor (c : CoreIx)
  | vec (c : CoreIx) | se (c : CoreIx) | lm (c : CoreIx) | crt (c : CoreIx)
  deriving DecidableEq, Repr

namespace Reg

/-! Offsets of Table 1-6 (R26). -/
abbrev DEVICE_ID : Nat := 0x000
abbrev SILICON_STEP : Nat := 0x004
abbrev GRADE : Nat := 0x008
abbrev SERVE_LIMITS : Nat := 0x00C
abbrev FORMATS : Nat := 0x010
abbrev FW_VERSION : Nat := 0x014
abbrev ROM_VERSION : Nat := 0x018
abbrev SERIAL0 : Nat := 0x020
abbrev GOOD_CORE_MAP0 : Nat := 0x100
/-! Offsets of Table 1-9 (R30). -/
abbrev DIE_INFO : Nat := 0x000
abbrev DIE_STATE : Nat := 0x004
/-! Offsets of Table 1-10 (R31). -/
abbrev MC_STATUS : Nat := 0x000
abbrev MC_TEMP : Nat := 0x004
abbrev MC_READS_LO : Nat := 0x008
abbrev MC_READS_HI : Nat := 0x00C
abbrev MC_WRITES_LO : Nat := 0x010
abbrev MC_WRITES_HI : Nat := 0x014
abbrev MC_CORRECTED : Nat := 0x018
abbrev MC_UNCORRECTABLE : Nat := 0x01C
abbrev MC_SHARE : Nat := 0x020
abbrev MC_WAITS : Nat := 0x024
abbrev MC_SPARES : Nat := 0x028
abbrev MC_SCRUB_PASSES : Nat := 0x02C
/-! Offsets of Table 1-11 (R32). -/
abbrev VU_STATUS : Nat := 0x000
abbrev VU_RECORDS_LO : Nat := 0x004
abbrev VU_RECORDS_HI : Nat := 0x008
abbrev VU_NONFINITE : Nat := 0x00C
abbrev TOMBOLA_SLICES : Nat := 0x010
abbrev TOMBOLA_EMPTY : Nat := 0x014
abbrev ROUTE_ROWS : Nat := 0x018
abbrev ASSIGN_PLACED : Nat := 0x01C
/-! Offsets of Table 2-10 (R65). -/
abbrev ENG_STATUS : Nat := 0x000
abbrev ENG_CTRL : Nat := 0x004
abbrev FIRES_LO : Nat := 0x008
abbrev FIRES_HI : Nat := 0x00C
abbrev ZERO_SKIPS : Nat := 0x010
abbrev GROUP_SKIPS : Nat := 0x014
abbrev WEIR_FLAGS : Nat := 0x018
abbrev SPLITS_UNPLANNED : Nat := 0x01C
abbrev SPLITS_PLANNED : Nat := 0x020
abbrev NIBBLE_PAIRS : Nat := 0x024
abbrev CHECKSUM_FAILS : Nat := 0x028
abbrev REF_FAILS : Nat := 0x02C
abbrev LOADS : Nat := 0x030
abbrev LOAD_CORRECTED : Nat := 0x034
abbrev LOAD_UNCORRECTABLE : Nat := 0x038
abbrev STALL_CLOCKS : Nat := 0x03C
abbrev LAST_WEIR : Nat := 0x040
abbrev LAST_CHECK : Nat := 0x044
abbrev TOL_A : Nat := 0x048
abbrev TOL_B : Nat := 0x04C
abbrev UNIT_TIME : Nat := 0x050
abbrev REPAIR_SUMMARY : Nat := 0x054
abbrev COL_SEL : Nat := 0x060
abbrev COL_INFO : Nat := 0x064
abbrev ROW_SEL : Nat := 0x068
abbrev ROW_INFO : Nat := 0x06C
abbrev REF_SEED : Nat := 0x070
/-! Offsets of Table 3-10 (R93). -/
abbrev CAS_STATUS : Nat := 0x000
abbrev TICK_SAT_LO : Nat := 0x004
abbrev TICK_SAT_HI : Nat := 0x008
abbrev TICK_UFL_LO : Nat := 0x00C
abbrev TICK_UFL_HI : Nat := 0x010
abbrev CONTRIB_LO : Nat := 0x014
abbrev CONTRIB_HI : Nat := 0x018
abbrev SAT_EVENTS : Nat := 0x01C
abbrev UFL_DROPS : Nat := 0x020
abbrev MERGES : Nat := 0x024
abbrev DRAIN_OVF : Nat := 0x028
abbrev TILE_ECC : Nat := 0x02C
abbrev Q_BLOCKS : Nat := 0x030
abbrev Q_ZERO : Nat := 0x034
abbrev Q_FLUSHED : Nat := 0x038
abbrev Q_NONFINITE : Nat := 0x03C
abbrev TILE_SEL : Nat := 0x040
abbrev TILE_INFO : Nat := 0x044
abbrev LANE_SNAP0 : Nat := 0x048
abbrev LANE_SNAP1 : Nat := 0x04C
abbrev LANE_SNAP2 : Nat := 0x050
/-! Offsets of Table 4-6 (R113). -/
abbrev COR_STATUS : Nat := 0x000
abbrev RILL_WENTRIES : Nat := 0x004
abbrev RILL_INPUTS : Nat := 0x008
abbrev BUDGET_EXCEEDED : Nat := 0x00C
abbrev RILL_HOLD_CLOCKS : Nat := 0x010
abbrev FIRE_REPLAYS : Nat := 0x014
abbrev STEP_REPLAYS : Nat := 0x018
abbrev REPLAYS_REFUSED : Nat := 0x01C
abbrev REPLAY_FAILS : Nat := 0x020
abbrev REPLAY_CLOCKS : Nat := 0x024
abbrev LAST_REPLAY : Nat := 0x028
abbrev SRC_USE : Nat := 0x02C
abbrev DRIFT_SEL : Nat := 0x030
abbrev DRIFT_ARRAY : Nat := 0x034
abbrev DRIFT_COLUMN : Nat := 0x038
abbrev DRIFT_EST : Nat := 0x03C
abbrev REF_MASK : Nat := 0x040
/-! Offsets of Table 5-5 (R134). -/
abbrev CAL_CTRL : Nat := 0x000
abbrev CAL_BOUNDS : Nat := 0x004
abbrev CAL_QUEUE : Nat := 0x008
abbrev CAL_EXTRAP : Nat := 0x00C
abbrev RUNS_DONE : Nat := 0x010
abbrev RUNS_BAD : Nat := 0x014
abbrev RUNS_ABANDONED : Nat := 0x018
abbrev SPARES_ASSIGNED : Nat := 0x01C
abbrev LOAD_INDEX : Nat := 0x020
abbrev LAST_BAD : Nat := 0x024
abbrev CAL_SEL : Nat := 0x030
abbrev ARRAY_STATE : Nat := 0x034
abbrev SET_INFO : Nat := 0x038
abbrev SET_TIME : Nat := 0x03C
abbrev SET_COL : Nat := 0x040
abbrev SET_GAIN : Nat := 0x044
abbrev SET_TOL : Nat := 0x048
abbrev TARGET_COL : Nat := 0x04C
abbrev TARGET_GAIN : Nat := 0x050
/-! Offsets of Table 6-10 (R167). -/
abbrev CAR_STATUS : Nat := 0x000
abbrev PLAN_STORE : Nat := 0x004
abbrev VERIFY_STATUS : Nat := 0x008
abbrev BOUNDARY_WINDOW : Nat := 0x00C
/-! Offsets of Table 6-10 (R167). -/
abbrev GRP_STATUS : Nat := 0x000
abbrev PLAN_ID_LO : Nat := 0x004
abbrev PLAN_ID_HI : Nat := 0x008
abbrev PERIOD : Nat := 0x00C
abbrev CLOCK : Nat := 0x010
abbrev TICK_LO : Nat := 0x014
abbrev TICK_HI : Nat := 0x018
abbrev RESERVE : Nat := 0x01C
abbrev RESERVE_USED : Nat := 0x020
abbrev RESERVE_PEAK : Nat := 0x024
abbrev SLACK_MIN : Nat := 0x028
abbrev OVERRUNS : Nat := 0x02C
abbrev EXHAUSTED_TICKS : Nat := 0x030
abbrev SWITCHES : Nat := 0x034
abbrev LAST_SWITCH : Nat := 0x038
abbrev CLEAN_COUNT : Nat := 0x03C
abbrev MOE_DROPS : Nat := 0x040
abbrev MOE_POOL_PEAK : Nat := 0x044
abbrev MOE_UNROUTED : Nat := 0x048
abbrev PLAN_REJECTS : Nat := 0x04C
abbrev LAST_REJECT : Nat := 0x050
/-! Offsets of Table 6-11 (R168). -/
abbrev CORE_STATUS : Nat := 0x000
abbrev OP_INDEX : Nat := 0x004
abbrev LAST_SLIP : Nat := 0x008
abbrev CREDIT : Nat := 0x00C
abbrev CREDIT_WAITS : Nat := 0x010
abbrev HOLD_CLOCKS : Nat := 0x014
abbrev MARK_MISMATCH : Nat := 0x018
/-! Offsets of Table 7-7 (R195). -/
abbrev USHER_STATUS : Nat := 0x000
abbrev FENCE_COUNT : Nat := 0x004
abbrev PORT_RESERVE : Nat := 0x008
abbrev REBINDS : Nat := 0x00C
abbrev UNPLACEABLE : Nat := 0x010
abbrev LAST_COMPUTE : Nat := 0x014
abbrev CN_DIE_BYPASS : Nat := 0x018
abbrev CN_CLUSTER_BYPASS : Nat := 0x01C
abbrev CN_RETRAINS : Nat := 0x020
abbrev E2E_RESENDS : Nat := 0x024
abbrev E2E_FAILED : Nat := 0x028
abbrev BIND_SEL : Nat := 0x030
abbrev BIND_INFO : Nat := 0x034
abbrev RES_SEL : Nat := 0x038
abbrev RES_INFO : Nat := 0x03C
/-! Offsets of Table 7-8 (R196). -/
abbrev MR_STATUS : Nat := 0x000
abbrev CORRECTED : Nat := 0x004
abbrev UNCORRECTABLE : Nat := 0x008
abbrev PROMOTIONS : Nat := 0x00C
abbrev PORT_SEL : Nat := 0x010
abbrev PORT_UTIL : Nat := 0x014
abbrev BASIN_ECC : Nat := 0x018
abbrev SLICE_WAITS : Nat := 0x01C
/-! Offsets of Table 7-9 (R196). -/
abbrev DL_STATUS : Nat := 0x000
abbrev DL_CORRECTED : Nat := 0x004
abbrev DL_UNCORRECTABLE : Nat := 0x008
abbrev DL_RETRAINS : Nat := 0x00C
abbrev DL_RESERVED : Nat := 0x010
/-! Offsets of Table 7-10 (R196). -/
abbrev CR_STATUS : Nat := 0x000
abbrev FENCE_NACKS : Nat := 0x004
abbrev RESENDS : Nat := 0x008
abbrev CR_ECC : Nat := 0x00C
abbrev CN_COUNTS : Nat := 0x010
/-! Offsets of Table 8-8 (R223). -/
abbrev SE_STATUS : Nat := 0x000
abbrev SE_PAGES_LO : Nat := 0x004
abbrev SE_PAGES_HI : Nat := 0x008
abbrev SE_WAIT_CLOCKS : Nat := 0x00C
abbrev SE_PAGE_ECC : Nat := 0x010
abbrev SE_DROPPED_PAGES : Nat := 0x014
abbrev SE_NAN_SCORES : Nat := 0x018
abbrev SE_EMPTY : Nat := 0x01C
abbrev SE_STALE_DESC : Nat := 0x020
abbrev KV_ZERO_SPANS : Nat := 0x024
/-! Offsets of Table 8-9 (R224). -/
abbrev SL_STATUS : Nat := 0x000
abbrev SL_DESC : Nat := 0x004
abbrev SL_GRANULES_LO : Nat := 0x008
abbrev SL_GRANULES_HI : Nat := 0x00C
abbrev SL_REREADS : Nat := 0x010
abbrev SL_SPILLED : Nat := 0x014
abbrev SL_RESTORED : Nat := 0x018
abbrev SL_QUEUE_PEAK : Nat := 0x01C
/-! Offsets of Table 8-10 (R225). -/
abbrev WALK_STATUS : Nat := 0x000
abbrev WALK_DESC_TICK : Nat := 0x004
abbrev WALK_DESC_PEAK : Nat := 0x008
abbrev WALK_LATE : Nat := 0x00C
abbrev EVICTIONS : Nat := 0x010
abbrev EVICT_DISCARDS : Nat := 0x014
abbrev SPILL_DROPS : Nat := 0x018
abbrev PREFIX_REUSED : Nat := 0x01C
abbrev PREFIX_TRUNCATIONS : Nat := 0x020
abbrev SPILL_POOL : Nat := 0x024
abbrev CTX_SEL : Nat := 0x028
abbrev CTX_INFO : Nat := 0x02C
abbrev CTX_LENGTH : Nat := 0x030
/-! Offsets of Table 10-16 (R291). -/
abbrev PORT_STATUS : Nat := 0x000
abbrev RBSY_STATUS : Nat := 0x004
abbrev EVT_CAUSE : Nat := 0x008
abbrev EVT_MASK : Nat := 0x00C
abbrev MCT_STATUS : Nat := 0x010
abbrev MCT_DROPS : Nat := 0x014
abbrev MCT_RESENDS : Nat := 0x018
abbrev DEPARTURES : Nat := 0x01C
abbrev FEC_CORRECTED : Nat := 0x020
abbrev FEC_UNCORRECTED : Nat := 0x024
abbrev RX_FRAMES_LO : Nat := 0x028
abbrev RX_FRAMES_HI : Nat := 0x02C
abbrev TX_FRAMES_LO : Nat := 0x030
abbrev TX_FRAMES_HI : Nat := 0x034
abbrev RX_DROPS : Nat := 0x038
abbrev MACSEC_ERRORS : Nat := 0x03C
abbrev PFC_COUNTS : Nat := 0x040
abbrev ECN_COUNTS : Nat := 0x044
abbrev TARGETS : Nat := 0x048
abbrev RDMA_RETRIES : Nat := 0x04C
abbrev LLDP_CHANGES : Nat := 0x050
abbrev LINK_DOWNS : Nat := 0x054
/-! Offsets of Table 11-8 (R308). -/
abbrev CLK_STATUS : Nat := 0x000
abbrev HREF_COUNT : Nat := 0x004
abbrev RING_CAL : Nat := 0x008
abbrev PKG_THROTTLE : Nat := 0x00C
abbrev CORE_IDLE : Nat := 0x010
abbrev RINGMASTER_MHZ : Nat := 0x014
abbrev RESET_CAUSE : Nat := 0x018
abbrev CLK_FAULTS : Nat := 0x01C
abbrev PKG_GATE : Nat := 0x020
abbrev DOM36_STATUS : Nat := 0x024
/-! Offsets of Table 11-9 (R309). -/
abbrev DOM_CTRL : Nat := 0x000
abbrev DOM_STATUS : Nat := 0x004
abbrev DOM_SSC : Nat := 0x008
abbrev DIE_GATE : Nat := 0x100
abbrev GATE_SEL : Nat := 0x104
abbrev GATE_CORE : Nat := 0x108
/-! Offsets of Table 11-10 (R310). -/
abbrev TIME_STATUS : Nat := 0x000
abbrev TIME_NS_LO : Nat := 0x004
abbrev TIME_NS_HI : Nat := 0x008
abbrev TIME_FRAC : Nat := 0x00C
abbrev EPOCH_LO : Nat := 0x010
abbrev EPOCH_HI : Nat := 0x014
abbrev RATE_ADJ : Nat := 0x018
abbrev OFFSET_NS : Nat := 0x01C
abbrev PATH_DELAY_NS : Nat := 0x020
abbrev MASTER_ID_LO : Nat := 0x024
abbrev MASTER_ID_HI : Nat := 0x028
abbrev HOLDOVER_S : Nat := 0x02C
abbrev HOLDOVER_BOUND_NS : Nat := 0x030
abbrev TIME_STEPS : Nat := 0x034
abbrev SYNC_RX : Nat := 0x038
abbrev ANNOUNCE_TIMEOUTS : Nat := 0x03C
abbrev TICK_SEL : Nat := 0x040
abbrev NEXT_BOUNDARY_LO : Nat := 0x044
abbrev NEXT_BOUNDARY_HI : Nat := 0x048
/-! Offsets of Table 12-6 (R330). -/
abbrev BOOT_STATUS : Nat := 0x000
abbrev BOOT_COUNT : Nat := 0x004
abbrev CENSUS : Nat := 0x008
abbrev TRAIN_FAIL : Nat := 0x00C
abbrev FW_FLOOR : Nat := 0x010
abbrev FW_LAST_REJECT : Nat := 0x014
abbrev HOLD_TEMP : Nat := 0x018
abbrev PHASE_END1 : Nat := 0x040
/-! Offsets of Table 13-10 (R352). -/
abbrev ERR_STATUS : Nat := 0x000
abbrev SCRUB_CTRL : Nat := 0x004
abbrev MEM_CORRECTED : Nat := 0x008
abbrev MEM_UNCORRECTABLE : Nat := 0x00C
abbrev POISONED : Nat := 0x010
abbrev STACK_SEL : Nat := 0x014
abbrev STACK_INFO : Nat := 0x018
abbrev FENCE_SEL : Nat := 0x01C
abbrev FENCE_INFO : Nat := 0x020
abbrev TWIN_MISMATCHES : Nat := 0x024
abbrev ESCALATIONS : Nat := 0x028
abbrev LAST_ERROR : Nat := 0x02C
abbrev LAST_UNIT : Nat := 0x030
abbrev PROBE_STATUS : Nat := 0x034
abbrev PROBE_ID_LO : Nat := 0x038
abbrev PROBE_ID_HI : Nat := 0x03C
abbrev PROBE_SWEEP : Nat := 0x040
/-! Offsets of Table 13-11 (R353). -/
abbrev LM_ECC : Nat := 0x000
abbrev RILL_ECC : Nat := 0x004
abbrev PROBE_CORE : Nat := 0x008
/-! Offsets of Table 14-7 (R373). -/
abbrev TH_STATUS : Nat := 0x000
abbrev STACK_STATE : Nat := 0x004
abbrev HOTTEST : Nat := 0x008
abbrev THRESH_DIE : Nat := 0x00C
abbrev THRESH_STACK : Nat := 0x010
abbrev TRIG_CTRL : Nat := 0x014
abbrev TRIG_TIME_LO : Nat := 0x018
abbrev TRIG_TIME_HI : Nat := 0x01C
abbrev TRIG_COUNT : Nat := 0x020
abbrev MON_CAL : Nat := 0x024
abbrev WARN_EVENTS : Nat := 0x028
abbrev THROTTLE_EVENTS : Nat := 0x02C
abbrev TRIP_SLOTS : Nat := 0x030
abbrev TRIP_SEL : Nat := 0x034
abbrev TRIP_DATA : Nat := 0x038
/-! Offsets of Table 14-8 (R374). -/
abbrev MON_STATUS : Nat := 0x000
abbrev SEQ : Nat := 0x100
abbrev RESULT : Nat := 0x140
abbrev PIPE_CTRL : Nat := 0x300
abbrev PIPE0_MIN1US : Nat := 0x304
abbrev PIPE_SNAP : Nat := 0x308
abbrev DROOP_EVENTS : Nat := 0x30C
abbrev DROOP_LAST : Nat := 0x310
abbrev DROOP_TIME_LO : Nat := 0x314
abbrev DROOP_TIME_HI : Nat := 0x318
abbrev CAP_SEL : Nat := 0x31C
abbrev CAP_DATA : Nat := 0x320
abbrev RAIL_EVENTS : Nat := 0x324
abbrev CAL_FACTOR : Nat := 0x380
/-! Offsets of Table 15-5 (R398). -/
abbrev REC_STATUS : Nat := 0x000
abbrev NEXT_SEQ_LO : Nat := 0x004
abbrev NEXT_SEQ_HI : Nat := 0x008
abbrev OLDEST_SEQ_LO : Nat := 0x00C
abbrev OLDEST_SEQ_HI : Nat := 0x010
abbrev HELD : Nat := 0x014
abbrev DROPPED : Nat := 0x018
abbrev REPLACED : Nat := 0x01C
abbrev OPERATING_S_LO : Nat := 0x020
abbrev OPERATING_S_HI : Nat := 0x024
abbrev REC_QUEUE : Nat := 0x028
/-! Offsets of Table 15-6 (R399). -/
abbrev SEC_STATUS : Nat := 0x000
abbrev KEY_COUNT : Nat := 0x004
abbrev ID_TREE : Nat := 0x008
abbrev ID_LEAF : Nat := 0x00C
abbrev ID_RESERVED : Nat := 0x010
abbrev QUOTES : Nat := 0x014
abbrev VERIFY_FAILS : Nat := 0x018
abbrev SKIPPED : Nat := 0x01C
abbrev ID_HASH0 : Nat := 0x020
abbrev KEY_SEL : Nat := 0x040
abbrev KEY_ID : Nat := 0x044
abbrev KEY_INFO : Nat := 0x048

end Reg

/-- Sequences of Table 14-5: the reset content of entry e of successive-approximation converter n
(R368), as an input number, or none where the entry is disabled. -/
def seqResetInput (n e : Nat) : Option Nat :=
  if n = 0 then some (e % 8)
  else if n = 1 then
    if e < 10 then some (8 + e) else if e < 12 then some (20 + e) else none
  else if n = 2 then
    if e < 4 then some (18 + e) else if e < 8 then some (8 + e) else none
  else if n = 3 then
    if e < 8 then some (22 + e) else none
  else none

/-- The reset word of a sequence entry: INPUT with EN set, or 0 (Table 14-8). -/
def seqResetWord (n e : Nat) : Word :=
  match seqResetInput n e with
  | some i => BitVec.ofNat 32 (0x20 + i)
  | none => 0

/-- Table 1-6 (R26). -/
def identityRegs : List RegDesc := [
  ⟨0x000, .ro, 0x0B2F0008, 0xFFFFFFFF⟩,
  ⟨0x004, .ro, 0x00000100, 0x0000FFFF⟩,
  ⟨0x008, .ro, 0x00000000, 0x000003FF⟩,
  ⟨0x00C, .ro, 0x19000800, 0x1FFFFFFF⟩,
  ⟨0x010, .ro, 0x00060C0E, 0x00FFFFFF⟩,
  ⟨0x014, .ro, 0x00000000, 0xFFFFFFFF⟩,
  ⟨0x018, .ro, 0x00000100, 0x0000FFFF⟩,
  ⟨0x020, .ro, 0x00000000, 0xFFFFFFFF⟩,
  ⟨0x024, .ro, 0x00000000, 0xFFFFFFFF⟩,
  ⟨0x028, .ro, 0x00000000, 0xFFFFFFFF⟩,
  ⟨0x02C, .ro, 0x00000000, 0xFFFFFFFF⟩,
  ⟨0x100, .ro, 0x00000000, 0xFFFFFFFF⟩,
  ⟨0x104, .ro, 0x00000000, 0xFFFFFFFF⟩,
  ⟨0x108, .ro, 0x00000000, 0xFFFFFFFF⟩,
  ⟨0x10C, .ro, 0x00000000, 0xFFFFFFFF⟩,
  ⟨0x110, .ro, 0x00000000, 0xFFFFFFFF⟩,
  ⟨0x114, .ro, 0x00000000, 0xFFFFFFFF⟩,
  ⟨0x118, .ro, 0x00000000, 0xFFFFFFFF⟩,
  ⟨0x11C, .ro, 0x00000000, 0xFFFFFFFF⟩,
  ⟨0x120, .ro, 0x00000000, 0xFFFFFFFF⟩,
  ⟨0x124, .ro, 0x00000000, 0xFFFFFFFF⟩,
  ⟨0x128, .ro, 0x00000000, 0xFFFFFFFF⟩,
  ⟨0x12C, .ro, 0x00000000, 0xFFFFFFFF⟩,
  ⟨0x130, .ro, 0x00000000, 0xFFFFFFFF⟩,
  ⟨0x134, .ro, 0x00000000, 0xFFFFFFFF⟩,
  ⟨0x138, .ro, 0x00000000, 0xFFFFFFFF⟩,
  ⟨0x13C, .ro, 0x00000000, 0xFFFFFFFF⟩,
  ⟨0x140, .ro, 0x00000000, 0xFFFFFFFF⟩,
  ⟨0x144, .ro, 0x00000000, 0xFFFFFFFF⟩]

/-- Table 11-8 (R308). -/
def clocksRegs : List RegDesc := [
  ⟨0x000, .ro, 0x00000000, 0x00001FFF⟩,
  ⟨0x004, .ro, 0x00000000, 0x07FF07FF⟩,
  ⟨0x008, .ro, 0x00000000, 0xFFFFFFFF⟩,
  ⟨0x00C, .rw, 0x00000578, 0x000007FF⟩,
  ⟨0x010, .rw, 0x000003E8, 0x000007FF⟩,
  ⟨0x014, .rw, 0x000003E8, 0x000007FF⟩,
  ⟨0x018, .ro, 0x00000000, 0x0000001F⟩,
  ⟨0x01C, .rc, 0x00000000, 0xFFFFFFFF⟩,
  ⟨0x020, .rw, 0x00000000, 0x0000001F⟩,
  ⟨0x024, .ro, 0x00000000, 0x0003FFFF⟩,
  ⟨0x028, .ro, 0x00000000, 0x0003FFFF⟩,
  ⟨0x02C, .ro, 0x00000000, 0x0003FFFF⟩,
  ⟨0x030, .ro, 0x00000000, 0x0003FFFF⟩]

/-- Table 14-7 (R373). -/
def thermalRegs : List RegDesc := [
  ⟨0x000, .ro, 0x00000000, 0x00000FFF⟩,
  ⟨0x004, .ro, 0x00000000, 0x0FFF0FFF⟩,
  ⟨0x008, .ro, 0x00000000, 0x3FFF0FFF⟩,
  ⟨0x00C, .rw, 0x7605695F, 0x0000FFFF⟩,
  ⟨0x010, .rw, 0x69055F55, 0x0000FFFF⟩,
  ⟨0x014, .rw, 0x00000000, 0xFFFF803F⟩,
  ⟨0x018, .rw, 0x00000000, 0xFFFFFFFF⟩,
  ⟨0x01C, .rw, 0x00000000, 0xFFFFFFFF⟩,
  ⟨0x020, .ro, 0x00000000, 0xFFFFFFFF⟩,
  ⟨0x024, .wo, 0x00000000, 0x0000000F⟩,
  ⟨0x028, .rc, 0x00000000, 0xFFFFFFFF⟩,
  ⟨0x02C, .rc, 0x00000000, 0xFFFFFFFF⟩,
  ⟨0x030, .ro, 0x00000000, 0xFFFFFFFF⟩,
  ⟨0x034, .rw, 0x00000000, 0x0000007F⟩,
  ⟨0x038, .ro, 0x00000000, 0xFFFFFFFF⟩]

/-- Table 11-10 (R310). -/
def timeRegs : List RegDesc := [
  ⟨0x000, .ro, 0x00000000, 0x0000000F⟩,
  ⟨0x004, .ro, 0x00000000, 0xFFFFFFFF⟩,
  ⟨0x008, .ro, 0x00000000, 0xFFFFFFFF⟩,
  ⟨0x00C, .ro, 0x00000000, 0x0000FFFF⟩,
  ⟨0x010, .ro, 0x00000000, 0xFFFFFFFF⟩,
  ⟨0x014, .ro, 0x00000000, 0xFFFFFFFF⟩,
  ⟨0x018, .ro, 0x00000000, 0xFFFFFFFF⟩,
  ⟨0x01C, .ro, 0x00000000, 0xFFFFFFFF⟩,
  ⟨0x020, .ro, 0x00000000, 0xFFFFFFFF⟩,
  ⟨0x024, .ro, 0x00000000, 0xFFFFFFFF⟩,
  ⟨0x028, .ro, 0x00000000, 0xFFFFFFFF⟩,
  ⟨0x02C, .ro, 0x00000000, 0xFFFFFFFF⟩,
  ⟨0x030, .ro, 0x00000000, 0xFFFFFFFF⟩,
  ⟨0x034, .rc, 0x00000000, 0xFFFFFFFF⟩,
  ⟨0x038, .rc, 0x00000000, 0xFFFFFFFF⟩,
  ⟨0x03C, .rc, 0x00000000, 0xFFFFFFFF⟩,
  ⟨0x040, .rw, 0x00000000, 0x0000000F⟩,
  ⟨0x044, .ro, 0x00000000, 0xFFFFFFFF⟩,
  ⟨0x048, .ro, 0x00000000, 0xFFFFFFFF⟩]

/-- Table 10-16 (R291). -/
def portRegs : List RegDesc := [
  ⟨0x000, .ro, 0x00000000, 0x00001FFF⟩,
  ⟨0x004, .ro, 0x00000022, 0x0000003F⟩,
  ⟨0x008, .w1c, 0x00000000, 0x000007FF⟩,
  ⟨0x00C, .rw, 0x000006D0, 0x000007F0⟩,
  ⟨0x010, .ro, 0x00100000, 0x001FFF7F⟩,
  ⟨0x014, .rc, 0x00000000, 0xFFFFFFFF⟩,
  ⟨0x018, .rc, 0x00000000, 0xFFFFFFFF⟩,
  ⟨0x01C, .rc, 0x00000000, 0xFFFFFFFF⟩,
  ⟨0x020, .rc, 0x00000000, 0xFFFFFFFF⟩,
  ⟨0x024, .rc, 0x00000000, 0xFFFFFFFF⟩,
  ⟨0x028, .ro, 0x00000000, 0xFFFFFFFF⟩,
  ⟨0x02C, .ro, 0x00000000, 0xFFFFFFFF⟩,
  ⟨0x030, .ro, 0x00000000, 0xFFFFFFFF⟩,
  ⟨0x034, .ro, 0x00000000, 0xFFFFFFFF⟩,
  ⟨0x038, .rc, 0x00000000, 0xFFFFFFFF⟩,
  ⟨0x03C, .rc, 0x00000000, 0xFFFFFFFF⟩,
  ⟨0x040, .rc, 0x00000000, 0xFFFFFFFF⟩,
  ⟨0x044, .rc, 0x00000000, 0xFFFFFFFF⟩,
  ⟨0x048, .ro, 0x00000000, 0xFFFFFFFF⟩,
  ⟨0x04C, .rc, 0x00000000, 0xFFFFFFFF⟩,
  ⟨0x050, .rc, 0x00000000, 0xFFFFFFFF⟩,
  ⟨0x054, .rc, 0x00000000, 0xFFFFFFFF⟩]

/-- Table 6-10 (R167). -/
def carRegs : List RegDesc := [
  ⟨0x000, .ro, 0x00000000, 0x01FFFFFF⟩,
  ⟨0x004, .ro, 0x18000000, 0xFFFFFFFF⟩,
  ⟨0x008, .ro, 0x00000000, 0xFFFFFF1F⟩,
  ⟨0x00C, .ro, 0x00002000, 0x0000FFFF⟩]

/-- Table 6-10 (R167). -/
def grpRegs : List RegDesc := [
  ⟨0x000, .ro, 0x00000000, 0x03FFFFFF⟩,
  ⟨0x004, .ro, 0x00000000, 0xFFFFFFFF⟩,
  ⟨0x008, .ro, 0x00000000, 0xFFFFFFFF⟩,
  ⟨0x00C, .ro, 0x00000000, 0x0001FFFF⟩,
  ⟨0x010, .ro, 0x00000000, 0x000007FF⟩,
  ⟨0x014, .ro, 0x00000000, 0xFFFFFFFF⟩,
  ⟨0x018, .ro, 0x00000000, 0xFFFFFFFF⟩,
  ⟨0x01C, .ro, 0x00000000, 0xFFFFFFFF⟩,
  ⟨0x020, .ro, 0x00000000, 0xFFFFFFFF⟩,
  ⟨0x024, .rc, 0x00000000, 0xFFFFFFFF⟩,
  ⟨0x028, .rc, 0xFFFFFFFF, 0xFFFFFFFF⟩,
  ⟨0x02C, .rc, 0x00000000, 0xFFFFFFFF⟩,
  ⟨0x030, .rc, 0x00000000, 0xFFFFFFFF⟩,
  ⟨0x034, .rc, 0x00000000, 0xFFFFFFFF⟩,
  ⟨0x038, .ro, 0x00000000, 0xFFFFFFFF⟩,
  ⟨0x03C, .ro, 0x00000000, 0x0000007F⟩,
  ⟨0x040, .rc, 0x00000000, 0xFFFFFFFF⟩,
  ⟨0x044, .rc, 0x00000000, 0xFFFFFFFF⟩,
  ⟨0x048, .rc, 0x00000000, 0xFFFFFFFF⟩,
  ⟨0x04C, .rc, 0x00000000, 0xFFFFFFFF⟩,
  ⟨0x050, .ro, 0x00000000, 0xFFFFFFFF⟩]

/-- Table 7-7 (R195). -/
def usherRegs : List RegDesc := [
  ⟨0x000, .ro, 0x00000000, 0x0000000F⟩,
  ⟨0x004, .ro, 0x00000000, 0x03FF03FF⟩,
  ⟨0x008, .rw, 0x00000040, 0x000000FF⟩,
  ⟨0x00C, .rc, 0x00000000, 0xFFFFFFFF⟩,
  ⟨0x010, .rc, 0x00000000, 0xFFFFFFFF⟩,
  ⟨0x014, .ro, 0x00000000, 0x007FFFFF⟩,
  ⟨0x018, .ro, 0x00000000, 0x0000000F⟩,
  ⟨0x01C, .ro, 0x00000000, 0xFFFFFFFF⟩,
  ⟨0x020, .rc, 0x00000000, 0xFFFFFFFF⟩,
  ⟨0x024, .rc, 0x00000000, 0xFFFFFFFF⟩,
  ⟨0x028, .rc, 0x00000000, 0xFFFFFFFF⟩,
  ⟨0x030, .rw, 0x00000000, 0x00003FFF⟩,
  ⟨0x034, .ro, 0x003FF3FF, 0x003FFFFF⟩,
  ⟨0x038, .rw, 0x00000000, 0x000000FF⟩,
  ⟨0x03C, .ro, 0x00000000, 0x01FFFFFF⟩]

/-- Table 5-5 (R134). -/
def calRegs : List RegDesc := [
  ⟨0x000, .rw, 0x0258460D, 0xFFFFFF1F⟩,
  ⟨0x004, .rw, 0x00000403, 0x0000FFFF⟩,
  ⟨0x008, .ro, 0x00000000, 0xFFFF7FFF⟩,
  ⟨0x00C, .ro, 0x00000000, 0x7FFF7FFF⟩,
  ⟨0x010, .rc, 0x00000000, 0xFFFFFFFF⟩,
  ⟨0x014, .rc, 0x00000000, 0xFFFFFFFF⟩,
  ⟨0x018, .rc, 0x00000000, 0xFFFFFFFF⟩,
  ⟨0x01C, .rc, 0x00000000, 0xFFFFFFFF⟩,
  ⟨0x020, .ro, 0x00000000, 0x7F7F7F7F⟩,
  ⟨0x024, .ro, 0x00000000, 0x0003FFFF⟩,
  ⟨0x030, .rw, 0x00000000, 0x07FFFFFF⟩,
  ⟨0x034, .ro, 0x00000000, 0x007FFFFF⟩,
  ⟨0x038, .ro, 0x00000000, 0x0003FFFF⟩,
  ⟨0x03C, .ro, 0x00000000, 0xFFFFFFFF⟩,
  ⟨0x040, .ro, 0x00000000, 0x00007FFF⟩,
  ⟨0x044, .ro, 0x00000000, 0x00FFFFFF⟩,
  ⟨0x048, .ro, 0x00000000, 0x00FFFFFF⟩,
  ⟨0x04C, .ro, 0x00000000, 0x00003FFF⟩,
  ⟨0x050, .ro, 0x00000000, 0x00FFFFFF⟩]

/-- Table 13-10 (R352). -/
def errRegs : List RegDesc := [
  ⟨0x000, .ro, 0x00000000, 0x0000FFFF⟩,
  ⟨0x004, .rw, 0x00000008, 0x000000FF⟩,
  ⟨0x008, .rc, 0x00000000, 0xFFFFFFFF⟩,
  ⟨0x00C, .rc, 0x00000000, 0xFFFFFFFF⟩,
  ⟨0x010, .ro, 0x00000000, 0xFFFFFFFF⟩,
  ⟨0x014, .rw, 0x00000000, 0x0000000F⟩,
  ⟨0x018, .ro, 0x00000000, 0x03FF03FF⟩,
  ⟨0x01C, .rw, 0x00000000, 0x000003FF⟩,
  ⟨0x020, .ro, 0x00000000, 0x00003FFF⟩,
  ⟨0x024, .rc, 0x00000000, 0xFFFFFFFF⟩,
  ⟨0x028, .rc, 0x00000000, 0xFFFFFFFF⟩,
  ⟨0x02C, .ro, 0x00000000, 0x0003FFFF⟩,
  ⟨0x030, .ro, 0x00000000, 0xFFFFFFFF⟩,
  ⟨0x034, .ro, 0x00000000, 0xFFFF0003⟩,
  ⟨0x038, .ro, 0x00000000, 0xFFFFFFFF⟩,
  ⟨0x03C, .ro, 0x00000000, 0xFFFFFFFF⟩,
  ⟨0x040, .ro, 0x00000000, 0x03FF03FF⟩]

/-- Table 15-5 (R398). -/
def recorderRegs : List RegDesc := [
  ⟨0x000, .ro, 0x00000000, 0x00000003⟩,
  ⟨0x004, .ro, 0x00000000, 0xFFFFFFFF⟩,
  ⟨0x008, .ro, 0x00000000, 0xFFFFFFFF⟩,
  ⟨0x00C, .ro, 0x00000000, 0xFFFFFFFF⟩,
  ⟨0x010, .ro, 0x00000000, 0xFFFFFFFF⟩,
  ⟨0x014, .ro, 0x00000000, 0x0001FFFF⟩,
  ⟨0x018, .ro, 0x00000000, 0xFFFFFFFF⟩,
  ⟨0x01C, .ro, 0x00000000, 0xFFFFFFFF⟩,
  ⟨0x020, .ro, 0x00000000, 0xFFFFFFFF⟩,
  ⟨0x024, .ro, 0x00000000, 0x0000FFFF⟩,
  ⟨0x028, .ro, 0x00000000, 0x01FF01FF⟩]

/-- Table 15-6 (R399). -/
def secRegs : List RegDesc := [
  ⟨0x000, .ro, 0x00000000, 0x0000001F⟩,
  ⟨0x004, .ro, 0x00000000, 0x00003F3F⟩,
  ⟨0x008, .ro, 0x00000000, 0x000FFFFF⟩,
  ⟨0x00C, .ro, 0x00000000, 0x001FFFFF⟩,
  ⟨0x010, .ro, 0x00000000, 0x001FFFFF⟩,
  ⟨0x014, .rc, 0x00000000, 0xFFFFFFFF⟩,
  ⟨0x018, .rc, 0x00000000, 0xFFFFFFFF⟩,
  ⟨0x01C, .ro, 0x00000000, 0xFFFFFFFF⟩,
  ⟨0x020, .ro, 0x00000000, 0xFFFFFFFF⟩,
  ⟨0x024, .ro, 0x00000000, 0xFFFFFFFF⟩,
  ⟨0x028, .ro, 0x00000000, 0xFFFFFFFF⟩,
  ⟨0x02C, .ro, 0x00000000, 0xFFFFFFFF⟩,
  ⟨0x030, .ro, 0x00000000, 0xFFFFFFFF⟩,
  ⟨0x034, .ro, 0x00000000, 0xFFFFFFFF⟩,
  ⟨0x038, .ro, 0x00000000, 0xFFFFFFFF⟩,
  ⟨0x03C, .ro, 0x00000000, 0xFFFFFFFF⟩,
  ⟨0x040, .rw, 0x00000000, 0x0000001F⟩,
  ⟨0x044, .ro, 0x00000001, 0xFFFFFFFF⟩,
  ⟨0x048, .ro, 0x00000067, 0x0000007F⟩]

/-- Table 1-9 (R30). -/
def dieRegs : List RegDesc := [
  ⟨0x000, .ro, 0x00000000, 0x0000FF7F⟩,
  ⟨0x004, .ro, 0x00000000, 0x0000007F⟩]

/-- Table 12-6 (R330). -/
def bootRegs : List RegDesc := [
  ⟨0x000, .ro, 0x00000011, 0x000001FF⟩,
  ⟨0x004, .ro, 0x00000000, 0xFFFFFFFF⟩,
  ⟨0x008, .ro, 0x00000000, 0x000FFFFF⟩,
  ⟨0x00C, .ro, 0x00000000, 0x000FFFFF⟩,
  ⟨0x010, .ro, 0x00000000, 0xFFFFFFFF⟩,
  ⟨0x014, .ro, 0x00000000, 0x0000FFFF⟩,
  ⟨0x018, .ro, 0x00000000, 0x000003FF⟩,
  ⟨0x040, .ro, 0x00000000, 0xFFFFFFFF⟩,
  ⟨0x044, .ro, 0x00000000, 0xFFFFFFFF⟩,
  ⟨0x048, .ro, 0x00000000, 0xFFFFFFFF⟩,
  ⟨0x04C, .ro, 0x00000000, 0xFFFFFFFF⟩,
  ⟨0x050, .ro, 0x00000000, 0xFFFFFFFF⟩,
  ⟨0x054, .ro, 0x00000000, 0xFFFFFFFF⟩,
  ⟨0x058, .ro, 0x00000000, 0xFFFFFFFF⟩,
  ⟨0x05C, .ro, 0x00000000, 0xFFFFFFFF⟩,
  ⟨0x060, .ro, 0x00000000, 0xFFFFFFFF⟩,
  ⟨0x064, .ro, 0x00000000, 0xFFFFFFFF⟩,
  ⟨0x068, .ro, 0x00000000, 0xFFFFFFFF⟩,
  ⟨0x06C, .ro, 0x00000000, 0xFFFFFFFF⟩,
  ⟨0x070, .ro, 0x00000000, 0xFFFFFFFF⟩,
  ⟨0x074, .ro, 0x00000000, 0xFFFFFFFF⟩,
  ⟨0x078, .ro, 0x00000000, 0xFFFFFFFF⟩]

/-- Table 8-10 (R225). -/
def walkRegs : List RegDesc := [
  ⟨0x000, .ro, 0x00000000, 0x000001FF⟩,
  ⟨0x004, .ro, 0x00000000, 0xFFFFFFFF⟩,
  ⟨0x008, .rc, 0x00000000, 0xFFFFFFFF⟩,
  ⟨0x00C, .rc, 0x00000000, 0xFFFFFFFF⟩,
  ⟨0x010, .rc, 0x00000000, 0xFFFFFFFF⟩,
  ⟨0x014, .rc, 0x00000000, 0xFFFFFFFF⟩,
  ⟨0x018, .rc, 0x00000000, 0xFFFFFFFF⟩,
  ⟨0x01C, .rc, 0x00000000, 0xFFFFFFFF⟩,
  ⟨0x020, .rc, 0x00000000, 0xFFFFFFFF⟩,
  ⟨0x024, .ro, 0x01000100, 0xFFFFFFFF⟩,
  ⟨0x028, .rw, 0x00000000, 0x003FFFFF⟩,
  ⟨0x02C, .ro, 0x00000000, 0x0FFFFFFF⟩,
  ⟨0x030, .ro, 0x00000000, 0x7FFFFFFF⟩]

/-- Table 11-9 (R309). -/
def dieClkRegs : List RegDesc := [
  ⟨0x000, .rw, 0x00000000, 0x00001FFF⟩,
  ⟨0x010, .rw, 0x00000000, 0x00001FFF⟩,
  ⟨0x020, .rw, 0x00000000, 0x00001FFF⟩,
  ⟨0x030, .rw, 0x00000000, 0x00001FFF⟩,
  ⟨0x040, .rw, 0x00000000, 0x00001FFF⟩,
  ⟨0x050, .rw, 0x00000000, 0x00001FFF⟩,
  ⟨0x060, .rw, 0x00000000, 0x00001FFF⟩,
  ⟨0x070, .rw, 0x00000000, 0x00001FFF⟩,
  ⟨0x080, .rw, 0x00000000, 0x00001FFF⟩,
  ⟨0x004, .ro, 0x00000000, 0x00007FFF⟩,
  ⟨0x014, .ro, 0x00000000, 0x00007FFF⟩,
  ⟨0x024, .ro, 0x00000000, 0x00007FFF⟩,
  ⟨0x034, .ro, 0x00000000, 0x00007FFF⟩,
  ⟨0x044, .ro, 0x00000000, 0x00007FFF⟩,
  ⟨0x054, .ro, 0x00000000, 0x00007FFF⟩,
  ⟨0x064, .ro, 0x00000000, 0x00007FFF⟩,
  ⟨0x074, .ro, 0x00000000, 0x00007FFF⟩,
  ⟨0x084, .ro, 0x00000000, 0x00007FFF⟩,
  ⟨0x008, .rw, 0x00000420, 0x000007FF⟩,
  ⟨0x018, .rw, 0x00000420, 0x000007FF⟩,
  ⟨0x028, .ro, 0x00000000, 0x00000000⟩,
  ⟨0x038, .ro, 0x00000000, 0x00000000⟩,
  ⟨0x048, .ro, 0x00000000, 0x00000000⟩,
  ⟨0x058, .ro, 0x00000000, 0x00000000⟩,
  ⟨0x068, .ro, 0x00000000, 0x00000000⟩,
  ⟨0x078, .ro, 0x00000000, 0x00000000⟩,
  ⟨0x088, .ro, 0x00000000, 0x00000000⟩,
  ⟨0x100, .rw, 0x00000000, 0x0000FF01⟩,
  ⟨0x104, .rw, 0x00000000, 0x000000FF⟩,
  ⟨0x108, .rw, 0x00000000, 0x0001FFFF⟩]

/-- Table 14-8 (R374). -/
def monRegs : List RegDesc := [
  ⟨0x000, .ro, 0x00000000, 0x00FFFFFF⟩,
  ⟨0x300, .rw, 0x000002C8, 0x00001FFF⟩,
  ⟨0x304, .ro, 0x00000000, 0x00000FFF⟩,
  ⟨0x308, .ro, 0x00000000, 0x1FFF0FFF⟩,
  ⟨0x30C, .rc, 0x00000000, 0xFFFFFFFF⟩,
  ⟨0x310, .ro, 0x00000000, 0xFFFFFFFF⟩,
  ⟨0x314, .ro, 0x00000000, 0xFFFFFFFF⟩,
  ⟨0x318, .ro, 0x00000000, 0xFFFFFFFF⟩,
  ⟨0x31C, .rw, 0x00000000, 0x000003FF⟩,
  ⟨0x320, .ro, 0x00000000, 0x1FFF0FFF⟩,
  ⟨0x324, .rc, 0x00000000, 0xFFFFFFFF⟩]

/-- Table 1-10 (R31). -/
def mcRegs : List RegDesc := [
  ⟨0x000, .ro, 0x00000000, 0x000007FF⟩,
  ⟨0x004, .ro, 0x00000000, 0x00000FFF⟩,
  ⟨0x008, .ro, 0x00000000, 0xFFFFFFFF⟩,
  ⟨0x00C, .ro, 0x00000000, 0xFFFFFFFF⟩,
  ⟨0x010, .ro, 0x00000000, 0xFFFFFFFF⟩,
  ⟨0x014, .ro, 0x00000000, 0xFFFFFFFF⟩,
  ⟨0x018, .rc, 0x00000000, 0xFFFFFFFF⟩,
  ⟨0x01C, .rc, 0x00000000, 0xFFFFFFFF⟩,
  ⟨0x020, .ro, 0x00000000, 0x01FF01FF⟩,
  ⟨0x024, .rc, 0x00000000, 0xFFFFFFFF⟩,
  ⟨0x028, .ro, 0x00000100, 0x01FF01FF⟩,
  ⟨0x02C, .ro, 0x00000000, 0xFFFFFFFF⟩]

/-- Table 8-9 (R224). -/
def sluiceRegs : List RegDesc := [
  ⟨0x000, .ro, 0x00000000, 0x0001FFF7⟩,
  ⟨0x004, .rc, 0x00000000, 0xFFFFFFFF⟩,
  ⟨0x008, .ro, 0x00000000, 0xFFFFFFFF⟩,
  ⟨0x00C, .ro, 0x00000000, 0xFFFFFFFF⟩,
  ⟨0x010, .rc, 0x00000000, 0xFFFFFFFF⟩,
  ⟨0x014, .rc, 0x00000000, 0xFFFFFFFF⟩,
  ⟨0x018, .rc, 0x00000000, 0xFFFFFFFF⟩,
  ⟨0x01C, .rc, 0x00000000, 0x00001FFF⟩]

/-- Table 7-9 (R196). -/
def dlinkRegs : List RegDesc := [
  ⟨0x000, .ro, 0x00000000, 0x00000037⟩,
  ⟨0x004, .rc, 0x00000000, 0xFFFFFFFF⟩,
  ⟨0x008, .rc, 0x00000000, 0xFFFFFFFF⟩,
  ⟨0x00C, .rc, 0x00000000, 0xFFFFFFFF⟩,
  ⟨0x010, .ro, 0x00000000, 0x03FF03FF⟩]

/-- Table 7-8 (R196). -/
def xbarRegs : List RegDesc := [
  ⟨0x000, .ro, 0x00000000, 0x0000FFFF⟩,
  ⟨0x004, .rc, 0x00000000, 0xFFFFFFFF⟩,
  ⟨0x008, .rc, 0x00000000, 0xFFFFFFFF⟩,
  ⟨0x00C, .rc, 0x00000000, 0xFFFFFFFF⟩,
  ⟨0x010, .rw, 0x00000000, 0x00000007⟩,
  ⟨0x014, .ro, 0x00000000, 0x07FF03FF⟩,
  ⟨0x018, .rc, 0x00000000, 0xFFFFFFFF⟩,
  ⟨0x01C, .rc, 0x00000000, 0xFFFFFFFF⟩]

/-- Table 6-11 (R168). -/
def carqRegs : List RegDesc := [
  ⟨0x000, .ro, 0x0003FF0F, 0x0003FFFF⟩,
  ⟨0x004, .ro, 0x00000000, 0xFFFFFFFF⟩,
  ⟨0x008, .ro, 0x00000000, 0xFFFFFFFF⟩,
  ⟨0x00C, .ro, 0x00000000, 0xFFFFFFFF⟩,
  ⟨0x010, .rc, 0x00000000, 0xFFFFFFFF⟩,
  ⟨0x014, .rc, 0x00000000, 0xFFFFFFFF⟩,
  ⟨0x018, .rc, 0x00000000, 0xFFFFFFFF⟩]

/-- Table 2-10 (R65). -/
def engRegs : List RegDesc := [
  ⟨0x000, .ro, 0x00000000, 0x000000FF⟩,
  ⟨0x004, .rw, 0x00000001, 0x00000001⟩,
  ⟨0x008, .ro, 0x00000000, 0xFFFFFFFF⟩,
  ⟨0x00C, .ro, 0x00000000, 0xFFFFFFFF⟩,
  ⟨0x010, .rc, 0x00000000, 0xFFFFFFFF⟩,
  ⟨0x014, .rc, 0x00000000, 0xFFFFFFFF⟩,
  ⟨0x018, .rc, 0x00000000, 0xFFFFFFFF⟩,
  ⟨0x01C, .rc, 0x00000000, 0xFFFFFFFF⟩,
  ⟨0x020, .rc, 0x00000000, 0xFFFFFFFF⟩,
  ⟨0x024, .rc, 0x00000000, 0xFFFFFFFF⟩,
  ⟨0x028, .rc, 0x00000000, 0xFFFFFFFF⟩,
  ⟨0x02C, .rc, 0x00000000, 0xFFFFFFFF⟩,
  ⟨0x030, .rc, 0x00000000, 0xFFFFFFFF⟩,
  ⟨0x034, .rc, 0x00000000, 0xFFFFFFFF⟩,
  ⟨0x038, .rc, 0x00000000, 0xFFFFFFFF⟩,
  ⟨0x03C, .rc, 0x00000000, 0xFFFFFFFF⟩,
  ⟨0x040, .ro, 0x00000000, 0x00001FFF⟩,
  ⟨0x044, .ro, 0x00000000, 0x001FFFFF⟩,
  ⟨0x048, .ro, 0x00100200, 0x00FFFFFF⟩,
  ⟨0x04C, .ro, 0x00100200, 0x00FFFFFF⟩,
  ⟨0x050, .ro, 0x00001770, 0x0000FFFF⟩,
  ⟨0x054, .ro, 0x00000000, 0x000FFFFF⟩,
  ⟨0x060, .rw, 0x00000000, 0x000007FF⟩,
  ⟨0x064, .ro, 0x04420000, 0x07FFFFFF⟩,
  ⟨0x068, .rw, 0x00000000, 0x000003FF⟩,
  ⟨0x06C, .ro, 0x00000000, 0x000007FF⟩,
  ⟨0x070, .ro, 0x0000ACE1, 0x0000FFFF⟩]

/-- Table 3-10 (R93). -/
def casRegs : List RegDesc := [
  ⟨0x000, .ro, 0x00000000, 0x0000000F⟩,
  ⟨0x004, .ro, 0x00000000, 0xFFFFFFFF⟩,
  ⟨0x008, .ro, 0x00000000, 0xFFFFFFFF⟩,
  ⟨0x00C, .ro, 0x00000000, 0xFFFFFFFF⟩,
  ⟨0x010, .ro, 0x00000000, 0xFFFFFFFF⟩,
  ⟨0x014, .ro, 0x00000000, 0xFFFFFFFF⟩,
  ⟨0x018, .ro, 0x00000000, 0xFFFFFFFF⟩,
  ⟨0x01C, .rc, 0x00000000, 0xFFFFFFFF⟩,
  ⟨0x020, .rc, 0x00000000, 0xFFFFFFFF⟩,
  ⟨0x024, .rc, 0x00000000, 0xFFFFFFFF⟩,
  ⟨0x028, .rc, 0x00000000, 0xFFFFFFFF⟩,
  ⟨0x02C, .rc, 0x00000000, 0xFFFFFFFF⟩,
  ⟨0x030, .rc, 0x00000000, 0xFFFFFFFF⟩,
  ⟨0x034, .rc, 0x00000000, 0xFFFFFFFF⟩,
  ⟨0x038, .rc, 0x00000000, 0xFFFFFFFF⟩,
  ⟨0x03C, .rc, 0x00000000, 0xFFFFFFFF⟩,
  ⟨0x040, .rw, 0x00000000, 0x00000FFF⟩,
  ⟨0x044, .ro, 0x00000000, 0x001FFFFF⟩,
  ⟨0x048, .ro, 0x00000000, 0xFFFFFFFF⟩,
  ⟨0x04C, .ro, 0x00000000, 0xFFFFFFFF⟩,
  ⟨0x050, .ro, 0x00000000, 0xFFFFFFFF⟩]

/-- Table 4-6 (R113). -/
def corRegs : List RegDesc := [
  ⟨0x000, .ro, 0x00000000, 0x0000003F⟩,
  ⟨0x004, .rc, 0x00000000, 0xFFFFFFFF⟩,
  ⟨0x008, .rc, 0x00000000, 0xFFFFFFFF⟩,
  ⟨0x00C, .rc, 0x00000000, 0xFFFFFFFF⟩,
  ⟨0x010, .rc, 0x00000000, 0xFFFFFFFF⟩,
  ⟨0x014, .rc, 0x00000000, 0xFFFFFFFF⟩,
  ⟨0x018, .rc, 0x00000000, 0xFFFFFFFF⟩,
  ⟨0x01C, .rc, 0x00000000, 0xFFFFFFFF⟩,
  ⟨0x020, .rc, 0x00000000, 0xFFFFFFFF⟩,
  ⟨0x024, .rc, 0x00000000, 0xFFFFFFFF⟩,
  ⟨0x028, .ro, 0x00000000, 0x0000FFFF⟩,
  ⟨0x02C, .ro, 0x00000000, 0xFFFFFFFF⟩,
  ⟨0x030, .rw, 0x00000000, 0x00007FFF⟩,
  ⟨0x034, .ro, 0x00008000, 0x03FFFFFF⟩,
  ⟨0x038, .ro, 0x64008000, 0xFFFFFFFF⟩,
  ⟨0x03C, .ro, 0x00000000, 0xFFFFFFFF⟩,
  ⟨0x040, .ro, 0x00000000, 0x000000FF⟩]

/-- Table 1-11 (R32). -/
def vecRegs : List RegDesc := [
  ⟨0x000, .ro, 0x00000000, 0x00000007⟩,
  ⟨0x004, .ro, 0x00000000, 0xFFFFFFFF⟩,
  ⟨0x008, .ro, 0x00000000, 0xFFFFFFFF⟩,
  ⟨0x00C, .rc, 0x00000000, 0xFFFFFFFF⟩,
  ⟨0x010, .rc, 0x00000000, 0xFFFFFFFF⟩,
  ⟨0x014, .rc, 0x00000000, 0xFFFFFFFF⟩,
  ⟨0x018, .rc, 0x00000000, 0xFFFFFFFF⟩,
  ⟨0x01C, .rc, 0x00000000, 0xFFFFFFFF⟩]

/-- Table 8-8 (R223). -/
def seRegs : List RegDesc := [
  ⟨0x000, .ro, 0x00000000, 0x007FFFFF⟩,
  ⟨0x004, .ro, 0x00000000, 0xFFFFFFFF⟩,
  ⟨0x008, .ro, 0x00000000, 0xFFFFFFFF⟩,
  ⟨0x00C, .rc, 0x00000000, 0xFFFFFFFF⟩,
  ⟨0x010, .rc, 0x00000000, 0xFFFFFFFF⟩,
  ⟨0x014, .rc, 0x00000000, 0xFFFFFFFF⟩,
  ⟨0x018, .rc, 0x00000000, 0xFFFFFFFF⟩,
  ⟨0x01C, .rc, 0x00000000, 0xFFFFFFFF⟩,
  ⟨0x020, .rc, 0x00000000, 0xFFFFFFFF⟩,
  ⟨0x024, .rc, 0x00000000, 0xFFFFFFFF⟩]

/-- Table 13-11 (R353). -/
def lmRegs : List RegDesc := [
  ⟨0x000, .rc, 0x00000000, 0xFFFFFFFF⟩,
  ⟨0x004, .rc, 0x00000000, 0xFFFFFFFF⟩,
  ⟨0x008, .ro, 0x00000000, 0xFFFF0003⟩]

/-- Table 7-10 (R196). -/
def crtRegs : List RegDesc := [
  ⟨0x000, .ro, 0x00000000, 0x000000FF⟩,
  ⟨0x004, .rc, 0x00000000, 0xFFFFFFFF⟩,
  ⟨0x008, .rc, 0x00000000, 0xFFFFFFFF⟩,
  ⟨0x00C, .rc, 0x00000000, 0xFFFFFFFF⟩,
  ⟨0x010, .rc, 0x00000000, 0xFFFFFFFF⟩]

/-- The registers of a monitor block that are one per converter and entry: SEQ at 0x100 and RESULT
at 0x140, 0x80 apart for each converter, and CAL_FACTOR at 0x380 for converters 0 to 5 (R374). -/
def monIndexed (off : Nat) : Option RegDesc :=
  if off % 4 ≠ 0 then none
  else if 0x100 ≤ off ∧ off < 0x300 then
    let n := (off - 0x100) / 0x80
    let r := (off - 0x100) % 0x80
    if r < 0x40 then some ⟨off, .rw, seqResetWord n (r / 4), 0x3F⟩
    else some ⟨off, .ro, 0, 0xFFFFFFFF⟩
  else if 0x380 ≤ off ∧ off < 0x398 then some ⟨off, .ro, 0x8000, 0x0FFFFFFF⟩
  else none

/-- The register of a table at an offset, if the table lists one there. -/
def findReg (t : List RegDesc) (off : Nat) : Option RegDesc := t.find? (fun r => r.off == off)

/-- The table of a block. -/
def Blk.table : Blk → List RegDesc
  | .identity => identityRegs
  | .clocks => clocksRegs
  | .thermal => thermalRegs
  | .time => timeRegs
  | .port => portRegs
  | .car => carRegs
  | .grp _ => grpRegs
  | .usher => usherRegs
  | .cal => calRegs
  | .err => errRegs
  | .recorder => recorderRegs
  | .sec => secRegs
  | .die _ => dieRegs
  | .boot => bootRegs
  | .walk => walkRegs
  | .dieClk _ => dieClkRegs
  | .mon _ => monRegs
  | .mc _ => mcRegs
  | .sluice _ => sluiceRegs
  | .dlink _ _ => dlinkRegs
  | .xbar _ => xbarRegs
  | .carq _ => carqRegs
  | .eng _ _ => engRegs
  | .cas _ => casRegs
  | .cor _ => corRegs
  | .vec _ => vecRegs
  | .se _ => seRegs
  | .lm _ => lmRegs
  | .crt _ => crtRegs

/-- The register of a block at an offset, or none where the offset is unassigned (R29). -/
def Blk.find (b : Blk) (off : Nat) : Option RegDesc :=
  match findReg b.table off with
  | some r => some r
  | none => match b with
    | .mon _ => monIndexed off
    | _ => none

/-- Base of a die's window (Table 0-6). -/
def dieWindow (d : Nat) : Nat := 0x10000000 + d * 0x04000000

/-- Base of a core's block, from the in-die core index (Table 0-6, R9). -/
def coreBlock (c : Nat) : Nat := dieWindow (c / 144) + 0x01000000 + (c % 144) * 0x10000

/-- Base address of a block (R9, R27, R28 and the block rules of the chapters). -/
def Blk.base : Blk → Nat
  | .identity => 0
  | .clocks => 0x00010000
  | .thermal => 0x00020000
  | .time => 0x00030000
  | .port => 0x00040000
  | .car => 0x00050000
  | .usher => 0x00060000
  | .cal => 0x00070000
  | .err => 0x00080000
  | .recorder => 0x00090000
  | .sec => 0x000A0000
  | .grp g => 0x00050000 + 0x100 + g.val * 0x100
  | .die d => dieWindow d.val
  | .boot => 0x10004000
  | .walk => 0x10008000
  | .dieClk d => dieWindow d.val + 0x00010000
  | .mon d => dieWindow d.val + 0x00020000
  | .mc k => dieWindow (k.val / 3) + 0x00100000 + (k.val % 3) * 0x10000
  | .sluice k => dieWindow (k.val / 3) + 0x00100000 + (k.val % 3) * 0x10000 + 0x8000
  | .dlink d south => dieWindow d.val + (if south then 0x00210000 else 0x00200000)
  | .xbar c => dieWindow (c.val / 8) + 0x00300000 + (c.val % 8) * 0x10000
  | .carq c => coreBlock c.val
  | .eng c e => coreBlock c.val + 0x1000 + e.val * 0x100
  | .cas c => coreBlock c.val + 0x2000
  | .cor c => coreBlock c.val + 0x3000
  | .vec c => coreBlock c.val + 0x4000
  | .se c => coreBlock c.val + 0x5000
  | .lm c => coreBlock c.val + 0x6000
  | .crt c => coreBlock c.val + 0x7000

/-- Address of a register. -/
def Blk.at (b : Blk) (off : Nat) : Nat := b.base + off

/-- The core of in-die index i on die d. -/
def coreOf (d : DieIx) (i : Fin 144) : CoreIx := ⟨d.val * 144 + i.val, by omega⟩

/-- The block and offset of an address inside a per-core block (R28). -/
def locateCore (c : CoreIx) (o : Nat) : Option (Blk × Nat) :=
  if o < 0x1000 then some (.carq c, o)
  else if o < 0x2000 then
    if h : (o - 0x1000) / 0x100 < 16 then
      some (.eng c ⟨(o - 0x1000) / 0x100, h⟩, (o - 0x1000) % 0x100)
    else none
  else if o < 0x3000 then some (.cas c, o - 0x2000)
  else if o < 0x4000 then some (.cor c, o - 0x3000)
  else if o < 0x5000 then some (.vec c, o - 0x4000)
  else if o < 0x6000 then some (.se c, o - 0x5000)
  else if o < 0x7000 then some (.lm c, o - 0x6000)
  else some (.crt c, o - 0x7000)

/-- The block and offset of an address inside a per-die window (R27, R30). -/
def locateDie (d : DieIx) (o : Nat) : Option (Blk × Nat) :=
  if o < 0x10000 then
    if d.val = 0 ∧ 0x8000 ≤ o then some (.walk, o - 0x8000)
    else if d.val = 0 ∧ 0x4000 ≤ o then some (.boot, o - 0x4000)
    else some (.die d, o)
  else if o < 0x20000 then some (.dieClk d, o - 0x10000)
  else if o < 0x30000 then some (.mon d, o - 0x20000)
  else if 0x100000 ≤ o ∧ o < 0x130000 then
    let j := (o - 0x100000) / 0x10000
    let r := (o - 0x100000) % 0x10000
    if h : d.val * 3 + j < 12 then
      if r < 0x8000 then some (.mc ⟨d.val * 3 + j, h⟩, r)
      else some (.sluice ⟨d.val * 3 + j, h⟩, r - 0x8000)
    else none
  else if 0x200000 ≤ o ∧ o < 0x220000 then
    some (.dlink d (decide (0x210000 ≤ o)), (o - 0x200000) % 0x10000)
  else if 0x300000 ≤ o ∧ o < 0x380000 then
    let j := (o - 0x300000) / 0x10000
    if h : d.val * 8 + j < 32 then some (.xbar ⟨d.val * 8 + j, h⟩, (o - 0x300000) % 0x10000)
    else none
  else if h : 0x01000000 ≤ o ∧ (o - 0x01000000) / 0x10000 < 144 then
    locateCore (coreOf d ⟨(o - 0x01000000) / 0x10000, h.2⟩) ((o - 0x01000000) % 0x10000)
  else none

/-- The block and offset an address lies in (R9). -/
def locate (a : Nat) : Option (Blk × Nat) :=
  if a < 0x10000 then some (.identity, a)
  else if a < 0x20000 then some (.clocks, a - 0x10000)
  else if a < 0x30000 then some (.thermal, a - 0x20000)
  else if a < 0x40000 then some (.time, a - 0x30000)
  else if a < 0x50000 then some (.port, a - 0x40000)
  else if a < 0x60000 then
    let o := a - 0x50000
    if h : 0x100 ≤ o ∧ (o - 0x100) / 0x100 < 12 then
      some (.grp ⟨(o - 0x100) / 0x100, h.2⟩, (o - 0x100) % 0x100)
    else some (.car, o)
  else if a < 0x70000 then some (.usher, a - 0x60000)
  else if a < 0x80000 then some (.cal, a - 0x70000)
  else if a < 0x90000 then some (.err, a - 0x80000)
  else if a < 0xA0000 then some (.recorder, a - 0x90000)
  else if a < 0xB0000 then some (.sec, a - 0xA0000)
  else if h : 0x10000000 ≤ a ∧ (a - 0x10000000) / 0x04000000 < 4 then
    locateDie ⟨(a - 0x10000000) / 0x04000000, h.2⟩ ((a - 0x10000000) % 0x04000000)
  else none

/-- The core whose per-core block a block belongs to, if any (R29). -/
def Blk.core? : Blk → Option CoreIx
  | .carq c | .eng c _ | .cas c | .cor c | .vec c | .se c | .lm c | .crt c => some c
  | _ => none

end Sys2Proof.Machine
end

