-- ==== Sys2Proof/Machine/State.lean ====
section
/-!
DEFINITION. The state of the block, its faults and refusals, and the state right after reset.
-/

namespace Sys2Proof.Machine

open Sys2Proof

/-- Reasons a step stops. -/
inductive Fault where
  /-- Raised by a command that reads or writes device memory at a granule at or above the 30 × 10^9
  granules of the twelve stacks (R5): an address the spec says does not exist. Safe: the step stops. -/
  | noSuchGranule (addr : Nat)
  deriving DecidableEq, Repr

/-- Reasons a command is refused. -/
inductive Refusal where
  /-- A command without a meaning yet. Safe: the step stops. No arm raises it once every command has
  its meaning. -/
  | notModelled (mnemonic : String)
  deriving DecidableEq, Repr

/-- The block. -/
structure State where
  /-- Commands that wait, first in, first out. -/
  pending : List Instr
  pins : Pins
  nvm : Nvm
  /-- Configuration record in force (R267). -/
  cfg : Cfg
  /-- Registers written or counted since reset, by address; absent is the reset value (R9, R10). -/
  regs : Tbl Word
  /-- Live 64-bit counts behind _LO/_HI pairs, by the address of the low half. -/
  wide : Tbl Nat
  deferred : List Deferred
  boot : Boot
  clocks : Clocks
  time : Time
  port : Port
  sessions : List Session
  /-- Host nonces seen, newest first, by key (R271). -/
  nonces : Tbl (List (List Byte))
  held : List Held
  groups : Tbl Group
  insts : Tbl Inst
  /-- Activations since power-up (R230). -/
  activations : Nat
  contexts : Tbl Ctx
  reqs : List Req
  ended : List Ended
  /-- Requests accepted so far, which orders them (R256). -/
  accepted : Nat
  spill : SpillPool
  /-- Device memory: bytes that differ from 0, addresses rising. -/
  mem : List Host.Cell
  /-- Poisoned granules (R335). -/
  poison : List Nat
  stackTbl : Tbl StackState
  cores : Tbl CoreState
  engines : Tbl EngState
  arrays : Tbl ArrayState
  fabric : Fabric
  usher : Usher
  /-- Basin bytes that have been written in a tick, by memNum × 2^25 + offset (R138, R188). -/
  basin : Tbl Byte
  /-- What the last boundary left CTX_INFO and CTX_LENGTH to show (R225). -/
  ctxView : Tbl CtxView
  /-- Order of the next calibration request, load indexes by die, and start-up done (R130, R126). -/
  calOrder : Nat
  loadIndex : Tbl Nat
  startupDone : Bool
  thermal : Thermal
  probe : Probe
  sec : Sec
  recorder : Rec
  /-- Messages the block has sent, oldest first: the model's own record (log 3). -/
  out : List OutMsg
  /-- Frames that have left by the port, oldest first: the model's own record (log 3). -/
  wire : List PortFrame
  /-- Counter of the free values taken: the model's own field (log 6). -/
  fresh : Nat
  /-- A switch that RBSY shows is under way (R286, Table 10-10). -/
  switching : Bool
  /-- RESET_CAUSE of the latest reset (R308). -/
  resetCause : Nat
  deriving DecidableEq, Repr

/-- The state a reset leaves, given what it keeps (R312, R313): non-volatile memory, the pins, the
queue of commands, and the cause. -/
def State.afterReset (pending : List Instr) (pins : Pins) (nvm : Nvm) (cause : Nat) : State :=
  { pending := pending, pins := pins, nvm := nvm, cfg := nvm.cfg, regs := [], wide := []
    deferred := [], boot := Boot.init, clocks := Clocks.init, time := Time.init, port := Port.init
    sessions := [], nonces := [], held := [], groups := [], insts := [], activations := 0
    contexts := [], reqs := [], ended := [], accepted := 0, spill := ⟨0, []⟩, mem := [], poison := []
    stackTbl := [], cores := [], engines := [], arrays := [], fabric := Fabric.init
    usher := Usher.init, basin := [], ctxView := [], calOrder := 0, loadIndex := [], startupDone := false
    thermal := Thermal.init, probe := Probe.init, sec := Sec.init, recorder := Rec.init, out := []
    wire := [], fresh := 0, switching := false, resetCause := cause }

/-- The block right after reset is entered: RST_N low, both power-good inputs high (log 1), nothing
running, first power-on (R311 to R313, R330). -/
def State.reset : State :=
  State.afterReset [] ⟨false, true, true, false, false⟩ Nvm.init 1

end Sys2Proof.Machine
end

