-- ==== Sys2Proof/Machine/Crypto.lean ====
section
/-!
DEFINITION. The hash, message-authentication, key-derivation, decryption and signature-checking
functions that the spec names and takes from outside (log 14): SHA-256, HMAC-SHA-256,
HKDF-SHA-256, AES-256-GCM, LMS and HSS. PRESUMED from FIPS 180-4, RFC 2104, RFC 5869, FIPS 197,
SP 800-38D and RFC 8554.
-/

namespace Sys2Proof.Crypto

/-- Big-endian bytes of a number, `n` of them. -/
def bytesBE : Nat → Nat → List Byte
  | 0, _ => []
  | n + 1, v => BitVec.ofNat 8 (v / 256 ^ n) :: bytesBE n v

/-- A number from big-endian bytes. -/
def natBE (bs : List Byte) : Nat := bs.foldl (fun a b => a * 256 + b.toNat) 0

/-- A number from little-endian bytes. -/
def natLE : List Byte → Nat
  | [] => 0
  | b :: bs => b.toNat + 256 * natLE bs

/-- Little-endian bytes of a number, `n` of them. -/
def bytesLE : Nat → Nat → List Byte
  | 0, _ => []
  | n + 1, v => BitVec.ofNat 8 v :: bytesLE n (v / 256)

/-- The round constants of SHA-256. -/
def roundK : List Word :=
  [0x428a2f98, 0x71374491, 0xb5c0fbcf, 0xe9b5dba5, 0x3956c25b, 0x59f111f1, 0x923f82a4, 0xab1c5ed5,
   0xd807aa98, 0x12835b01, 0x243185be, 0x550c7dc3, 0x72be5d74, 0x80deb1fe, 0x9bdc06a7, 0xc19bf174] ++
  [0xe49b69c1, 0xefbe4786, 0x0fc19dc6, 0x240ca1cc, 0x2de92c6f, 0x4a7484aa, 0x5cb0a9dc, 0x76f988da,
   0x983e5152, 0xa831c66d, 0xb00327c8, 0xbf597fc7, 0xc6e00bf3, 0xd5a79147, 0x06ca6351, 0x14292967] ++
  [0x27b70a85, 0x2e1b2138, 0x4d2c6dfc, 0x53380d13, 0x650a7354, 0x766a0abb, 0x81c2c92e, 0x92722c85,
   0xa2bfe8a1, 0xa81a664b, 0xc24b8b70, 0xc76c51a3, 0xd192e819, 0xd6990624, 0xf40e3585, 0x106aa070] ++
  [0x19a4c116, 0x1e376c08, 0x2748774c, 0x34b0bcb5, 0x391c0cb3, 0x4ed8aa4a, 0x5b9cca4f, 0x682e6ff3,
   0x748f82ee, 0x78a5636f, 0x84c87814, 0x8cc70208, 0x90befffa, 0xa4506ceb, 0xbef9a3f7, 0xc67178f2]

/-- The eight working words of SHA-256. -/
structure Work where
  a : Word
  b : Word
  c : Word
  d : Word
  e : Word
  f : Word
  g : Word
  h : Word
  deriving DecidableEq, Repr

/-- The initial hash value. -/
def work0 : Work :=
  ⟨0x6a09e667, 0xbb67ae85, 0x3c6ef372, 0xa54ff53a, 0x510e527f, 0x9b05688c, 0x1f83d9ab, 0x5be0cd19⟩

/-- One round with the constant and the schedule word already added. -/
def round (s : Work) (kw : Word) : Work :=
  let s1 := s.e.rotateRight 6 ^^^ s.e.rotateRight 11 ^^^ s.e.rotateRight 25
  let ch := (s.e &&& s.f) ^^^ (~~~s.e &&& s.g)
  let t1 := s.h + s1 + ch + kw
  let s0 := s.a.rotateRight 2 ^^^ s.a.rotateRight 13 ^^^ s.a.rotateRight 22
  let maj := (s.a &&& s.b) ^^^ (s.a &&& s.c) ^^^ (s.b &&& s.c)
  ⟨t1 + (s0 + maj), s.a, s.b, s.c, s.d + t1, s.e, s.f, s.g⟩

/-- The message schedule, newest word first, extended by `n` words. -/
def schedule : Nat → List Word → List Word
  | 0, ws => ws
  | n + 1, ws =>
    let w2 := ws.getD 1 0
    let w7 := ws.getD 6 0
    let w15 := ws.getD 14 0
    let w16 := ws.getD 15 0
    let s1 := w2.rotateRight 17 ^^^ w2.rotateRight 19 ^^^ (w2 >>> 10)
    let s0 := w15.rotateRight 7 ^^^ w15.rotateRight 18 ^^^ (w15 >>> 3)
    schedule n ((s1 + w7 + s0 + w16) :: ws)

/-- Big-endian words of a list of bytes. -/
def words : List Byte → List Word
  | a :: b :: c :: d :: rest => (a ++ b ++ c ++ d) :: words rest
  | _ => []

/-- Compress one 64-byte block. -/
def compress (s : Work) (block : List Byte) : Work :=
  let ws := (schedule 48 (words block).reverse).reverse
  let r := (List.zipWith (· + ·) ws roundK).foldl round s
  ⟨s.a + r.a, s.b + r.b, s.c + r.c, s.d + r.d, s.e + r.e, s.f + r.f, s.g + r.g, s.h + r.h⟩

/-- Cut bytes into blocks of `n`, by fuel. -/
def blocks (n : Nat) : Nat → List Byte → List (List Byte)
  | 0, _ => []
  | fuel + 1, bs => if bs.isEmpty then [] else bs.take n :: blocks n fuel (bs.drop n)

/-- The padding of SHA-256 for a message of `len` bytes. -/
def padding (len : Nat) : List Byte :=
  (0x80 : Byte) :: (List.replicate ((119 - len % 64) % 64) (0 : Byte) ++ bytesBE 8 (8 * len))

/-- SHA-256 of a byte string. -/
def sha256 (msg : List Byte) : List Byte :=
  let m := msg ++ padding msg.length
  let s := (blocks 64 (m.length / 64) m).foldl compress work0
  [s.a, s.b, s.c, s.d, s.e, s.f, s.g, s.h].flatMap (fun w => bytesBE 4 w.toNat)

/-- A key padded to one block. -/
def blockKey (key : List Byte) : List Byte :=
  let k := if key.length ≤ 64 then key else sha256 key
  k ++ List.replicate (64 - k.length) 0

/-- HMAC-SHA-256. -/
def hmac (key msg : List Byte) : List Byte :=
  let k := blockKey key
  sha256 (k.map (· ^^^ 0x5c) ++ sha256 (k.map (· ^^^ 0x36) ++ msg))

/-- The expansion blocks of HKDF. -/
def expand (prk info : List Byte) : Nat → Nat → List Byte → List Byte
  | 0, _, _ => []
  | n + 1, i, prev =>
    let t := hmac prk (prev ++ info ++ [BitVec.ofNat 8 i])
    t ++ expand prk info n (i + 1) t

/-- HKDF-SHA-256 with an output of `len` bytes. -/
def hkdf (ikm salt info : List Byte) (len : Nat) : List Byte :=
  (expand (hmac salt ikm) info ((len + 31) / 32) 1 []).take len

/-- The bytes of an ASCII text. -/
def ascii (t : String) : List Byte := t.toList.map (fun c => BitVec.ofNat 8 c.toNat)

/-! ### AES-256-GCM -/

/-- Double an element of the AES field. -/
def xtime (b : Byte) : Byte := if b.msb then (b <<< 1) ^^^ 0x1b else b <<< 1

/-- Product in the AES field. -/
def gmul (a b : Byte) : Byte :=
  ((List.range 8).foldl (fun (acc : Byte × Byte) i =>
    ((if b.getLsbD i then acc.1 ^^^ acc.2 else acc.1), xtime acc.2)) (0, a)).1

/-- The 254th power, which is the inverse. -/
def ginv (a : Byte) : Byte :=
  (List.range 7).foldl (fun acc _ => gmul (gmul acc acc) a) 1 |> fun p => gmul p p

/-- The AES substitution. -/
def sbox (a : Byte) : Byte :=
  let b := ginv a
  b ^^^ b.rotateLeft 1 ^^^ b.rotateLeft 2 ^^^ b.rotateLeft 3 ^^^ b.rotateLeft 4 ^^^ 0x63

/-- The key schedule of AES-256, newest word first; a word is four bytes. -/
def keyWords : Nat → Nat → Byte → List (List Byte) → List (List Byte)
  | 0, _, _, ws => ws
  | n + 1, i, rc, ws =>
    let t := ws.getD 0 []
    let t' :=
      if i % 8 = 0 then
        let r := (t.drop 1 ++ t.take 1).map sbox
        (r.headD 0 ^^^ rc) :: r.drop 1
      else if i % 8 = 4 then t.map sbox else t
    let w := List.zipWith (· ^^^ ·) (ws.getD 7 []) t'
    keyWords n (i + 1) (if i % 8 = 0 then xtime rc else rc) (w :: ws)

/-- The 15 round keys of AES-256, 16 bytes each. -/
def roundKeys (key : List Byte) : List (List Byte) :=
  let ws := (keyWords 52 8 1 ((List.range 8).map (fun i => (key.drop (4 * i)).take 4)).reverse).reverse
  (List.range 15).map (fun r => ((ws.drop (4 * r)).take 4).flatten)

/-- Shift rows of a 16-byte block held by columns. -/
def shiftRows (b : List Byte) : List Byte :=
  (List.range 16).map (fun i => b.getD ((i + 4 * (i % 4)) % 16) 0)

/-- Mix one column. -/
def mixColumn (c : List Byte) : List Byte :=
  let x := fun i => c.getD (i % 4) 0
  (List.range 4).map (fun i => xtime (x i) ^^^ (xtime (x (i + 1)) ^^^ x (i + 1)) ^^^ x (i + 2) ^^^ x (i + 3))

/-- Mix the four columns of a block. -/
def mixColumns (b : List Byte) : List Byte :=
  (List.range 4).flatMap (fun c => mixColumn ((b.drop (4 * c)).take 4))

/-- AES-256 of one block. -/
def aes256 (key block : List Byte) : List Byte :=
  let ks := roundKeys key
  let x0 := List.zipWith (· ^^^ ·) block (ks.getD 0 [])
  let x13 := (List.range 13).foldl (fun x r =>
    List.zipWith (· ^^^ ·) (mixColumns (shiftRows (x.map sbox))) (ks.getD (r + 1) [])) x0
  List.zipWith (· ^^^ ·) (shiftRows (x13.map sbox)) (ks.getD 14 [])

/-- Product in the field of GHASH. -/
def ghashMul (x y : BitVec 128) : BitVec 128 :=
  ((List.range 128).foldl (fun (acc : BitVec 128 × BitVec 128) i =>
    ((if x.getMsbD i then acc.1 ^^^ acc.2 else acc.1),
      if acc.2.getLsbD 0 then (acc.2 >>> 1) ^^^ (0xe1#128 <<< 120) else acc.2 >>> 1)) (0, y)).1

/-- Pad bytes with zeros to whole 16-byte blocks. -/
def pad16 (bs : List Byte) : List Byte := bs ++ List.replicate ((16 - bs.length % 16) % 16) 0

/-- GHASH over whole blocks. -/
def ghash (h : BitVec 128) (bs : List Byte) : BitVec 128 :=
  (blocks 16 (bs.length / 16) bs).foldl (fun y b => ghashMul (y ^^^ BitVec.ofNat 128 (natBE b)) h) 0

/-- AES-256-GCM decryption with a 12-byte nonce; `none` where the tag does not verify. -/
def gcmOpen (key nonce aad cipher tag : List Byte) : Option (List Byte) :=
  let h := BitVec.ofNat 128 (natBE (aes256 key (List.replicate 16 0)))
  let s := ghash h (pad16 aad ++ pad16 cipher ++ bytesBE 8 (8 * aad.length) ++ bytesBE 8 (8 * cipher.length))
  let want := List.zipWith (· ^^^ ·) (bytesBE 16 s.toNat) (aes256 key (nonce ++ bytesBE 4 1))
  if want = tag then
    let ks := (List.range ((cipher.length + 15) / 16)).flatMap (fun i => aes256 key (nonce ++ bytesBE 4 (i + 2)))
    some (List.zipWith (· ^^^ ·) cipher ks)
  else none

/-! ### LMS and HSS -/

/-- Bytes `off` to `off + n - 1`. -/
def slice (bs : List Byte) (off n : Nat) : List Byte := (bs.drop off).take n

/-- The four-bit digits of a byte string, high digit first. -/
def nibbles (bs : List Byte) : List Nat := bs.flatMap (fun b => [b.toNat / 16, b.toNat % 16])

/-- Run one Winternitz chain from step `a` to step 14. -/
def chain (i q k : List Byte) : Nat → Nat → List Byte → List Byte
  | 0, _, t => t
  | n + 1, j, t => chain i q k n (j + 1) (sha256 (i ++ q ++ k ++ [BitVec.ofNat 8 j] ++ t))

/-- The one-time public key that a one-time signature gives for a message. -/
def otsCandidate (i q sig msg : List Byte) : List Byte :=
  let digest := sha256 (i ++ q ++ [0x81, 0x81] ++ slice sig 4 32 ++ msg)
  let ds := nibbles digest
  let sum := ds.foldl (fun a d => a + (15 - d)) 0
  let digits := ds ++ (nibbles (bytesBE 2 (16 * sum))).take 3
  let z := (List.range 67).flatMap (fun k =>
    let a := digits.getD k 0
    chain i q (bytesBE 2 k) (15 - a) a (slice sig (36 + 32 * k) 32))
  sha256 (i ++ q ++ [0x80, 0x80] ++ z)

/-- Climb the tree from a node to the root. -/
def climb (i : List Byte) : Nat → Nat → List Byte → List Byte → List Byte
  | 0, _, _, t => t
  | n + 1, node, path, t =>
    let sib := path.take 32
    let body := if node % 2 = 1 then sib ++ t else t ++ sib
    climb i n (node / 2) (path.drop 32) (sha256 (i ++ bytesBE 4 (node / 2) ++ [0x83, 0x83] ++ body))

/-- R375: does a 2,828-byte LMS signature verify under a 56-byte LMS public key? -/
def lmsVerify (pub sig msg : List Byte) : Bool :=
  let i := slice pub 8 16
  let q := slice sig 0 4
  let ots := slice sig 4 2180
  let path := slice sig 2188 640
  let node := 2 ^ 20 + natBE q
  let leaf := sha256 (i ++ bytesBE 4 node ++ [0x82, 0x82] ++ otsCandidate i q ots msg)
  sig.length == 2828 && pub.length == 56 && natBE (slice pub 0 4) == 8 && natBE (slice pub 4 4) == 3 &&
    natBE (slice sig 4 4) == 3 && natBE (slice sig 2184 4) == 8 && decide (natBE q < 2 ^ 20) &&
    climb i 20 node path leaf == slice pub 24 32

/-- R375: does an HSS signature of one or two levels verify under a 60-byte HSS public key? -/
def hssVerify (pub : List Byte) (levels : Nat) (sig msg : List Byte) : Bool :=
  let top := slice pub 4 56
  let head := natBE (slice pub 0 4) == levels && natBE (slice sig 0 4) + 1 == levels
  if levels = 1 then head && sig.length == 2832 && lmsVerify top (slice sig 4 2828) msg
  else if levels = 2 then
    let lower := slice sig 2832 56
    head && sig.length == 5716 && lmsVerify top (slice sig 4 2828) lower &&
      lmsVerify lower (slice sig 2888 2828) msg
  else false

end Sys2Proof.Crypto
end

