-- ==== Sys2Proof/Machine/Tick.lean ====
section
/-!
DEFINITION. One clock of the device time counter (R304).
-/

namespace Sys2Proof.Machine

open Sys2Proof

/-- Fraction bits of the counter: 16 visible and 32 internal (R304). -/
def fracOne : Nat := 2 ^ 48

/-- The counter after one clock of domain 38: 2 ns × (1 + RATE_ADJ × 2^−40) in units of 2^−48 ns
(R304). The addend is never negative, since RATE_ADJ is held within ±100 ppm. -/
def Time.clock (t : Time) : Time :=
  let sum := t.ns * fracOne + t.frac + ((2 * fracOne : Int) + 512 * t.rateAdj).toNat
  { t with ns := sum / fracOne, frac := sum % fracOne }

/-- The block is out of reset (R311, R312). -/
def State.outOfReset (s : State) : Bool :=
  s.pins.rstN && s.pins.pwrgdCore && s.pins.pwrgdMem && s.boot.released

/-- Domain 38 runs: HREFCLK drives the counter out of reset (R304, R312), and no trip holds the device with its clocks
gated (R363). -/
def State.counting (s : State) : Bool := s.outOfReset && !s.thermal.tripped

/-- The port has power, clocks and a reset behind it, and safe state has not taken its link down. -/
def State.portOn (s : State) : Bool := s.counting && !s.clocks.safe

/-- The port's link is up. -/
def State.ethUp (s : State) : Bool := s.portOn && s.port.linkUp

/-- Frames other than LLDP and EAPOL-MKA pass: under REQUIRED, only once MKA secures the link (R265). -/
def State.portOpen (s : State) : Bool := s.ethUp && (decide (s.cfg.macPolicy ≠ 2) || s.port.macsecUp)

/-- One clock of the counter while the block has nothing else to do (log 3). -/
def idleClock (s : State) : State :=
  if s.counting then { s with time := s.time.clock } else s

end Sys2Proof.Machine
end

