-- ==== Sys2Proof/Machine/Wire.lean ====
section
/-!
DEFINITION. Messages as the port sends them (R264, R265, R268 to R270, R275, R276, R283 to R285, R289): the MCT
header, the payloads and tags, and the frame that carries each.
-/

namespace Sys2Proof.Machine

open Sys2Proof

/-- Place of a status in the order in which Status lists them. -/
def Status.index : Status → Nat
  | .ok => 0
  | .accepted => 1
  | .busy => 2
  | .conflict => 3
  | .notAuthorised => 4
  | .noResource => 5
  | .version => 6
  | .stale => 7
  | .digestMismatch => 8
  | .badSignature => 9
  | .planInvalid => 10
  | .unplaceable => 11
  | .shardMissing => 12
  | .deadlineMissed => 13

/-- Number of a status, which the spec leaves open (log 10). -/
def Status.code (st : Status) : Nat := (Config.statusCode st.index).toNat

/-- Fields in order, each in its bytes, little-endian. -/
def packBytes (fields : List (Nat × Nat)) : List Byte := fields.flatMap (fun f => Crypto.bytesLE f.1 f.2)

/-- The fields of an MCT header that its message decides (Table 10-4). -/
structure MctHdr where
  version : Nat
  opcode : Nat
  flags : Nat
  sess : Nat
  seq : Nat
  ack : Nat
  tag : Nat

/-- FLAGS bits of Table 10-4. -/
abbrev flagReply : Nat := 1
abbrev flagNotice : Nat := 2
abbrev flagDevice : Nat := 4
abbrev flagResent : Nat := 8
abbrev flagLast : Nat := 64

/-- The 32 bytes of a header over a payload of some length (R269). -/
def MctHdr.bytes (h : MctHdr) (len : Nat) : List Byte :=
  packBytes [(4, 0x3154434D), (1, h.version), (1, h.opcode), (2, h.flags), (4, h.sess), (4, h.seq), (4, h.ack), (4, len), (8, h.tag)]

/-- A message under a key: header, tag, payload (R268, R270). -/
def MctHdr.message (h : MctHdr) (key payload : List Byte) : List Byte :=
  let head := h.bytes payload.length
  head ++ (Crypto.hmac key (head ++ payload)).take 16 ++ payload

/-- Payload of a reply: STATUS, reserved bytes, DETAIL, results (R275). -/
def replyBytes (opcode : Nat) (st : Status) (detail : Nat) (body : List Nat) : List Byte :=
  packBytes [(1, st.code), (3, 0), (4, detail)] ++ Config.resultBytes opcode body

/-- Bytes of the further fields of a notice, in the order of Table 10-6. -/
def noticeWidths (opcode : Nat) : List Nat :=
  if opcode = 0x22 then [4, 8, 2, 1, 1]
  else if opcode = 0x30 then [4, 4, 2, 2]
  else if opcode = 0x72 then [8, 2, 2]
  else [2, 4, 4]

/-- An entry of a token frame (Table 10-9). -/
def TokenEntry.word (e : TokenEntry) : Nat :=
  e.req + 2 ^ 32 * e.token + 2 ^ 52 * flag e.noToken + 2 ^ 53 * flag e.late + 2 ^ 54 * flag e.degraded
    + 2 ^ 55 * flag e.wide + 2 ^ 56 * flag e.replayed + 2 ^ 57 * flag e.evicted + 2 ^ 58 * flag e.done
    + 2 ^ 59 * (if e.done then e.reason else 0)

/-- The payload of a device message (R276, R284, R285, Table 10-7). -/
def DevMsg.payload : DevMsg → List Byte
  | .notice op origin st fields => packBytes ([(4, origin), (1, st.code), (3, 0)] ++ (noticeWidths op).zip fields)
  | .tokenFrame h es =>
    packBytes ([(1, h.group), (1, h.variant), (1, h.phase), (1, h.parts), (2, es.length), (2, 0), (8, h.boundary)]
      ++ es.map (fun e => (8, e.word)))
  | .variantNotice fields => packBytes ([1, 1, 1, 1, 8, 4, 2].zip fields ++ [(2, 0), (8, fields.getD 7 0)])
  | .telemetry mask fields => Config.resultBytes 0x8E (mask :: fields)
  | .eventNotice bytes => bytes

/-- OPCODE of a device message. -/
def DevMsg.opcode : DevMsg → Nat
  | .notice op _ _ _ => op
  | .tokenFrame _ _ => 0x5F
  | .variantNotice _ => 0x6E
  | .telemetry _ _ => 0x8E
  | .eventNotice _ => 0x8F

/-- FLAGS of a device message: a token frame's part and last part, LAST_PART on a message of one part (R283). -/
def DevMsg.flags : DevMsg → Nat
  | .notice _ _ _ _ => flagNotice + flagDevice + flagLast
  | .tokenFrame h _ => flagDevice + 16 * h.part + flagLast * flag h.last
  | _ => flagDevice + flagLast

/-- TICK_TAG of a device message: the tick it concerns (R277). -/
def DevMsg.tick : DevMsg → Nat
  | .tokenFrame h _ => h.tick
  | .variantNotice fields => fields.getD 4 0
  | _ => 0

/-- The payload of an announce (Table 10-13). -/
def announceBytes (fields : List Nat) : List Byte := packBytes ([16, 4, 2, 1, 1, 4, 6, 2, 4, 16, 4].zip fields)

/-- The highest MCT version, which an announce carries. -/
def mctTop : Nat := 3

/-- The key that tags the reply to a SESSION_OPEN: the session's where there is one, otherwise the open key of the host
nonce, the newest seen under its operator key (R271). -/
def State.openReplyKey (s : State) (key sess : Nat) : List Byte :=
  match s.sessions.find? (fun x => x.id == sess) with
  | some x => x.d2h
  | none =>
    let secret := ((s.nvm.keys.find? (fun p => p.2.id == key)).map (fun p => p.2.secret)).getD []
    Crypto.hkdf secret (((s.nonces.getD key []).headD []) ++ List.replicate 16 0) (Crypto.ascii "mct-open") 32

/-- An MCT message of the block, with the source it goes to and the OPCODE of the command it answers. -/
def State.mctBytes (s : State) (m : OutMsg) (opcode : Nat) : List Byte :=
  let under := fun (sess : Nat) (f : Session → List Byte) => ((s.sessions.find? (fun x => x.id == sess)).map f).getD []
  match m with
  | .reply sess seq st detail tag body resent => under sess (fun x =>
      (MctHdr.mk x.version opcode (flagReply + flagLast + flagResent * flag resent) sess seq (x.expect - 1) tag).message x.d2h
        (replyBytes opcode st detail body))
  | .openReply key st sess nonce body =>
    (MctHdr.mk (body.getD 1 mctTop) 0 (flagReply + flagLast) sess 0 0 0).message (s.openReplyKey key sess)
      (replyBytes 0 st 0 (nonce.map (·.toNat) ++ body))
  | .device sess seq d resent => under sess (fun x =>
      (MctHdr.mk x.version d.opcode (d.flags + flagResent * flag resent) sess seq (x.expect - 1) d.tick).message x.d2h d.payload)
  | .announce fields =>
    let p := announceBytes fields
    (MctHdr.mk mctTop 0x0F (flagDevice + flagLast) 0 0 0 0).bytes p.length ++ List.replicate 16 0 ++ p
  | _ => []

/-- The message leaves by the Ethernet port, in one frame (log 44). -/
def OutMsg.onPort : OutMsg → Bool
  | .mark _ _ _ _ => false
  | .descriptor _ => false
  | .timeSync => false
  | .hopNack _ => false
  | _ => true

/-- Row of Table 10-2 that a message belongs to: PTP, MCT and announces, RoCEv2; none for the untagged kinds. Other traffic of
the port goes with MCT (log 44). -/
def OutMsg.kind : OutMsg → Option Nat
  | .lldp _ _ _ => none
  | .mka => none
  | .pause => none
  | .ptpDelayReq => some 0
  | .cnp => some 2
  | .nvmeRead _ _ => some 2
  | .nvmeWrite _ _ _ => some 2
  | .nvmeKeepAlive _ => some 2
  | .nvmeConnect _ => some 2
  | .roceReject => some 2
  | _ => some 1

/-- The frame that carries a message (R264, R265, R268): tagged by its kind, protected once MKA has secured the link. -/
def State.portFrame (s : State) (m : OutMsg) (dest : Option Nat) (opcode : Nat) : PortFrame :=
  let k := m.kind
  { mark := k.map (fun i => s.cfg.priorities.getD i (0, 0)), lossless := k == some 2
    vlan := if k.isSome then s.cfg.vlan else none
    secured := s.port.macsecUp && k.isSome, dest := dest, mct := s.mctBytes m opcode }

/-- The link takes a message's frame: LLDP and EAPOL-MKA pass while the policy holds the rest back (R265). -/
def State.portTakes (s : State) (m : OutMsg) : Bool :=
  s.portOpen || (s.ethUp && match m with
    | .lldp _ _ _ => true
    | .mka => true
    | _ => false)

end Sys2Proof.Machine
end

