-- ==== Sys2Proof/Machine/Ops.lean ====
section
/-!
DEFINITION. The named operations on the state: registers and counters, device memory, event causes and
records, messages and their windows, and the places for commands.
-/

namespace Sys2Proof.Machine

open Sys2Proof

/-! ### Registers -/

/-- Reset value of the register at an address, 0 where the offset is unassigned (R29). -/
def regReset (a : Nat) : Word :=
  match locate a with
  | none => 0
  | some (b, o) => match b.find o with
    | some r => r.reset
    | none => 0

/-- Value of a register held in the bank. -/
def State.reg (s : State) (a : Nat) : Word := s.regs.getD a (regReset a)

/-- Set a register of the bank. -/
def State.setReg (s : State) (a : Nat) (v : Word) : State := { s with regs := s.regs.put a v }

/-- Add to a 32-bit counter that saturates at 0xFFFF_FFFF. -/
def State.bump (s : State) (a n : Nat) : State :=
  s.setReg a (BitVec.ofNat 32 (min 0xFFFFFFFF ((s.reg a).toNat + n)))

/-- Add to the low half of a split counter that saturates at 0xFFFF. -/
def State.bumpLo (s : State) (a n : Nat) : State :=
  let v := (s.reg a).toNat
  s.setReg a (BitVec.ofNat 32 (v / 65536 * 65536 + min 0xFFFF (v % 65536 + n)))

/-- Add to the high half of a split counter that saturates at 0xFFFF. -/
def State.bumpHi (s : State) (a n : Nat) : State :=
  let v := (s.reg a).toNat
  s.setReg a (BitVec.ofNat 32 (min 0xFFFF (v / 65536 + n) * 65536 + v % 65536))

/-- Add to a live 64-bit count, named by the address of its low half. -/
def State.bumpWide (s : State) (a n : Nat) : State :=
  { s with wide := s.wide.put a ((s.wide.getD a 0 + n) % 2 ^ 64) }

/-- Keep the larger of a register and a value. -/
def State.peak (s : State) (a n : Nat) : State :=
  if (s.reg a).toNat < n then s.setReg a (BitVec.ofNat 32 n) else s

/-! ### Units -/

/-- Unit numbers as indices of R8. -/
def coreIx (c : Nat) : CoreIx := ⟨c % 576, Nat.mod_lt c (by decide)⟩
def stackIx (k : Nat) : StackIx := ⟨k % 12, Nat.mod_lt k (by decide)⟩
def dieIx (d : Nat) : DieIx := ⟨d % 4, Nat.mod_lt d (by decide)⟩
def groupIx (g : Nat) : GroupIx := ⟨g % 12, Nat.mod_lt g (by decide)⟩
def clusterIx (c : Nat) : ClusterIx := ⟨c % 32, Nat.mod_lt c (by decide)⟩
def engIx (e : Nat) : EngIx := ⟨e % 16, Nat.mod_lt e (by decide)⟩

/-- Address of a register of a group's block. -/
def grpReg (g o : Nat) : Nat := (Blk.grp (groupIx g)).at o

def engKey (c : CoreIx) (e : EngIx) : Nat := c.val * 16 + e.val
def arrKey (c : CoreIx) (e : EngIx) (b : Bool) : Nat := engKey c e * 2 + (if b then 1 else 0)

def State.core (s : State) (c : Nat) : CoreState := s.cores.getD c CoreState.init
def State.updCore (s : State) (c : Nat) (f : CoreState → CoreState) : State :=
  { s with cores := s.cores.upd c CoreState.init f }
def State.eng (s : State) (k : Nat) : EngState := s.engines.getD k EngState.init
def State.updEng (s : State) (k : Nat) (f : EngState → EngState) : State :=
  { s with engines := s.engines.upd k EngState.init f }
def State.arr (s : State) (k : Nat) : ArrayState := s.arrays.getD k ArrayState.init
def State.updArr (s : State) (k : Nat) (f : ArrayState → ArrayState) : State :=
  { s with arrays := s.arrays.upd k ArrayState.init f }
def State.grp (s : State) (g : Nat) : Group := s.groups.getD g Group.init
def State.updGrp (s : State) (g : Nat) (f : Group → Group) : State :=
  { s with groups := s.groups.upd g Group.init f }
def State.inst (s : State) (g : Nat) : Inst := s.insts.getD g Inst.init
def State.updInst (s : State) (g : Nat) (f : Inst → Inst) : State :=
  { s with insts := s.insts.upd g Inst.init f }
def State.stack (s : State) (k : Nat) : StackState := s.stackTbl.getD k StackState.init
def State.updStack (s : State) (k : Nat) (f : StackState → StackState) : State :=
  { s with stackTbl := s.stackTbl.upd k StackState.init f }
def State.therm (s : State) (d : Nat) : DieTherm := s.thermal.dies.getD d DieTherm.init
def State.updTherm (s : State) (d : Nat) (f : DieTherm → DieTherm) : State :=
  { s with thermal := { s.thermal with dies := s.thermal.dies.upd d DieTherm.init f } }
def State.dom (s : State) (k : Nat) : Dom := s.clocks.doms.getD k Dom.init
def State.updDom (s : State) (k : Nat) (f : Dom → Dom) : State :=
  { s with clocks := { s.clocks with doms := s.clocks.doms.upd k Dom.init f } }
def State.mon (s : State) (d : Nat) : DieMon := s.clocks.mons.getD d DieMon.init
def State.updMon (s : State) (d : Nat) (f : DieMon → DieMon) : State :=
  { s with clocks := { s.clocks with mons := s.clocks.mons.upd d DieMon.init f } }
def State.ctx? (s : State) (c : Nat) : Option Ctx := s.contexts.get? c
def State.updCtx (s : State) (c : Nat) (f : Ctx → Ctx) : State :=
  match s.contexts.get? c with
  | some x => { s with contexts := s.contexts.put c (f x) }
  | none => s

/-- Die and in-die cluster of a core (R8). -/
def coreDie (c : Nat) : Nat := c / 144
def coreCluster (c : Nat) : Nat := c / 18

/-- The core is enabled in the good-core map (R4), once the map is valid. -/
def State.good (s : State) (c : Nat) : Bool := s.nvm.goodMap.testBit c

/-- The boot ROM's copy of the map reads (R26, R317): before the census every core reads as disabled
in the registers. -/
def State.goodCount (s : State) : Nat := ((List.range 576).filter s.good).length

/-- A group that runs a plan (R307). -/
def Group.runs (g : Group) : Bool := g.current.isSome

/-- Some group runs a plan. -/
def State.anyRuns (s : State) : Bool := s.groups.any (fun p => p.2.runs)

/-- A group that has boundaries: it runs a plan and is formed. -/
def Group.ticking (g : Group) : Bool := g.formed && g.current.isSome

/-- Running variant of a group. -/
def Group.variant (g : Group) : Option Variant := g.current.bind (fun p => p.plan.variant g.kind)

/-- Channels of a mask. -/
def maskBits (n m : Nat) : List Nat := (List.range n).filter m.testBit

/-- The cores assigned to a group. -/
def State.groupCores (s : State) (g : Nat) : List Nat :=
  (s.cores.filter (fun p => p.2.group == some g)).map (·.1)

/-- A word of the low bits of a number. -/
def word (n : Nat) : Word := BitVec.ofNat 32 n

/-! ### Device memory (R5, R331) -/

/-- Granules of the twelve stacks: 960 × 10^9 bytes (R5). -/
def deviceGranules : Nat := 30000000000

/-- The byte at an address; an unlisted byte reads 0 (log 15). -/
def memByte (m : List Host.Cell) (a : Nat) : Byte :=
  match m.find? (fun p => p.1 == a) with
  | some p => p.2
  | none => 0

/-- Write one byte, keeping addresses rising and no byte of 0. -/
def memPut : List Host.Cell → Nat → Byte → List Host.Cell
  | [], a, b => if b = 0 then [] else [(a, b)]
  | (k, v) :: rest, a, b =>
    if a < k then (if b = 0 then (k, v) :: rest else (a, b) :: (k, v) :: rest)
    else if k = a then (if b = 0 then rest else (a, b) :: rest)
    else (k, v) :: memPut rest a b

/-- The canonical form of device memory: addresses rising, no byte of 0. -/
def memWf : List Host.Cell → Bool
  | [] => true
  | [p] => decide (p.2 ≠ 0)
  | p :: q :: rest => decide (p.2 ≠ 0) && decide (p.1 < q.1) && memWf (q :: rest)

/-- Write bytes from an address. -/
def memPuts : List Host.Cell → Nat → List Byte → List Host.Cell
  | m, _, [] => m
  | m, a, b :: rest => memPuts (memPut m a b) (a + 1) rest

/-- A granule of device memory as a number, byte 0 lowest. -/
def State.granule (s : State) (g : Nat) : Nat :=
  Crypto.natLE ((List.range 32).map (fun i => memByte s.mem (32 * g + i)))

/-- Write one granule; a whole write clears its poison (R335). -/
def State.putGranule (s : State) (g v : Nat) : State :=
  { s with mem := memPuts s.mem (32 * g) (Crypto.bytesLE 32 v)
           poison := s.poison.filter (fun x => x != g) }

/-- Write granules from an address. -/
def State.putGranules (s : State) : Nat → List Nat → State
  | _, [] => s
  | g, v :: rest => State.putGranules (s.putGranule g v) (g + 1) rest

/-! ### Event causes and pins (R286, R287, R301, R361) -/

abbrev evtCauseAt : Nat := Blk.port.at Reg.EVT_CAUSE
abbrev evtMaskAt : Nat := Blk.port.at Reg.EVT_MASK

def causeClockLoss : Nat := 0
def causeSafe : Nat := 1
def causeTrip : Nat := 2
def causeFatal : Nat := 3
def causeError : Nat := 4
def causeWarn : Nat := 5
def causeLink : Nat := 6
def causeHoldover : Nat := 7
def causeDeparted : Nat := 8
def causeStorage : Nat := 9
def causeThermal : Nat := 10

/-- Set one cause. -/
def State.setCause (s : State) (b : Nat) : State :=
  s.setReg evtCauseAt (s.reg evtCauseAt ||| word (2 ^ b))

/-- Causes whose condition holds now: they do not clear (R287). -/
def State.causesHeld (s : State) : Word :=
  word (flag (s.clocks.safe && (s.clocks.hrefFault || s.clocks.pllFault)) + 2 * flag s.clocks.safe
    + 4 * flag (s.thermal.tripped || s.boot.hold))

/-- Clear causes by mask, but for the non-maskable ones whose condition holds. -/
def State.clearCauses (s : State) (mask : Word) : State :=
  s.setReg evtCauseAt (s.reg evtCauseAt &&& ~~~(mask &&& ~~~s.causesHeld))

/-- EVT_N is pulled low (R287): a cause is set that is non-maskable or enabled, or the latch of R303
holds it. It is released in reset (R312). -/
def State.evtLow (s : State) : Bool :=
  (s.pins.pwrgdCore && s.pins.asyncEvt)
  || (s.outOfReset && decide (s.reg evtCauseAt &&& (0xF ||| s.reg evtMaskAt) ≠ 0))

/-- Commands that hold one of the 4,096 places of R281: received and not yet answered. -/
def State.placesUsed (s : State) : Nat :=
  s.held.length
  + (s.groups.filter (fun p => (p.2.staged.bind (·.origin)).isSome)).length
  + (s.contexts.filter (fun p => p.2.origin.isSome)).length
  + (s.sessions.map (fun x => x.early.length)).foldl (· + ·) 0

def State.placesFree (s : State) : Nat := 4096 - s.placesUsed

/-- RBSY is high (R286). -/
def State.rbsy (s : State) : Bool :=
  s.counting && s.boot.isDone && !s.clocks.safe && !s.thermal.tripped && !s.switching
  && decide (256 ≤ s.placesFree)

/-! ### Event records (R341 to R344, R391 to R396) -/

/-- Severities of R392. -/
abbrev sevFatal : Nat := 0
abbrev sevError : Nat := 1
abbrev sevWarn : Nat := 2
abbrev sevInfo : Nat := 3

/-- Unit words of Table 13-3. -/
def unitPackage : Nat := 0
def unitDie (d : Nat) : Nat := d + 0x100000
def unitCluster (c : Nat) : Nat := c / 8 + 4 * (c % 8) + 2 * 0x100000
def unitCore (c : Nat) : Nat := c / 144 + 4 * (c % 144 / 18) + 32 * (c % 18) + 3 * 0x100000
def unitEngine (c e : Nat) : Nat := c / 144 + 4 * (c % 144 / 18) + 32 * (c % 18) + 1024 * e + 4 * 0x100000
def unitArray (c e : Nat) (b : Bool) : Nat :=
  c / 144 + 4 * (c % 144 / 18) + 32 * (c % 18) + 1024 * e + 16384 * flag b + 5 * 0x100000
def unitStack (k : Nat) : Nat := k / 3 + 32768 * k + 6 * 0x100000
def unitLink (d : Nat) (south : Bool) : Nat := d + 32768 * flag south + 7 * 0x100000
def unitPort : Nat := 9 * 0x100000
def unitControl : Nat := 10 * 0x100000

/-- A reading in 0.125 °C as its 16 bits. -/
def temp16 (t : Int) : Nat := fieldOfInt 16 t

/-- Readings of the die sensors that have not failed (R355). -/
def DieTherm.valid (t : DieTherm) : List (Nat × Int) :=
  t.readings.filter (fun p => decide (p.1 < 12) && !(t.failed.contains p.1))

def maxInt? (l : List Int) : Option Int :=
  l.foldl (fun m x => match m with
    | none => some x
    | some y => some (max x y)) none

/-- Die temperature: the hottest valid die sensor (R354). -/
def DieTherm.hottest (t : DieTherm) : Option Int := maxInt? (t.valid.map (·.2))

/-- A die sensor's reading as every use of Chapter 14 takes it: a failed one reads 5 °C above the
hottest valid one of its die (R355). -/
def DieTherm.sensor (t : DieTherm) (i : Nat) : Option Int :=
  if t.failed.contains i then t.hottest.map (· + 40) else t.readings.get? i

/-- Hottest valid stack of a die. -/
def State.hottestStack (s : State) (d : Nat) : Option Int :=
  maxInt? ((List.range 3).filterMap (fun j =>
    let k := s.stack (3 * d + j)
    if k.sensorFail then none else k.temp))

/-- A stack's reading as R355 gives it. -/
def State.stackTemp (s : State) (k : Nat) : Option Int :=
  let x := s.stack k
  if x.sensorFail then (s.hottestStack (k / 3)).map (· + 40) else x.temp

/-- Temperature of a record by its unit (R343): none before the converters have self-calibrated. -/
def State.recTemp (s : State) (unit : Nat) : Nat :=
  let kind := unit / 0x100000 % 16
  let d := if kind = 0 ∨ kind ≥ 8 then 0 else unit % 4
  let t := s.therm d
  if !t.calValid then 0xFFFF
  else
    let v := if kind = 6 then s.stackTemp (unit / 32768 % 32)
      else if 2 ≤ kind ∧ kind ≤ 5 then t.sensor (unit / 4 % 8) else t.hottest
    (v.map temp16).getD 0xFFFF

/-- Voltage of a record (R343). -/
def State.recVolt (s : State) (unit : Nat) : Nat :=
  let kind := unit / 0x100000 % 16
  let t := s.therm (if kind = 0 ∨ kind ≥ 8 then 0 else unit % 4)
  if t.calValid then t.min1us else 0xFFFF

/-- Sequence numbers a record takes: one for its head and one for each continuation (R393). -/
def payloadSlots (n : Nat) : Nat := 1 + (n - 24 + 45) / 46

/-- The error codes of Table 13-5. -/
def isErrorCode (c : Nat) : Bool :=
  [0x0101, 0x0102, 0x0103, 0x0104, 0x0105, 0x0106, 0x0201, 0x0202, 0x0203, 0x0204, 0x0205, 0x0206,
   0x0301, 0x0302, 0x0401, 0x0402, 0x0403, 0x0404, 0x0405, 0x0406, 0x0407, 0x0501].contains c

/-- Operating seconds (R394): those stored at the start and those since, by the time counter less its steps. -/
def State.opS (s : State) : Nat :=
  (s.recorder.opBase + ((s.time.ns : Int) - s.time.jumped).toNat / 1000000000) % 2 ^ 48

/-- Write an event record: it takes its number and waits in the staging queue, or is dropped where
the queue is full (R391, R396). A record's cause is set (Table 10-11), and LAST_ERROR and LAST_UNIT
follow the records of Table 13-5. -/
def State.record (s : State) (sev code unit : Nat) (payload : List Byte) : State :=
  let r : EvRec :=
    { seq := s.recorder.nextSeq, severity := sev, timeState := s.time.ptp, code := code, unit := unit
      opS := s.opS, cycles := s.nvm.bootCount
      time := if s.time.ptp = 2 ∨ s.time.ptp = 3 then s.time.ns else 0
      temp := s.recTemp unit, volt := s.recVolt unit, payload := payload }
  let next := s.recorder.nextSeq + payloadSlots payload.length
  let s1 :=
    if 256 ≤ s.recorder.staging.length then
      { s with recorder := { s.recorder with nextSeq := next }
               nvm := { s.nvm with dropped := min 0xFFFFFFFF (s.nvm.dropped + 1) } }
    else
      { s with recorder := { s.recorder with
          nextSeq := next, staging := s.recorder.staging ++ [r]
          peak := max s.recorder.peak (s.recorder.staging.length + 1) } }
  let s2 := if sev = sevFatal then s1.setCause causeFatal
    else if sev = sevError then s1.setCause causeError
    else if sev = sevWarn then s1.setCause causeWarn else s1
  if isErrorCode code then
    (s2.setReg (Blk.err.at Reg.LAST_ERROR) (word (code + 65536 * sev))).setReg
      (Blk.err.at Reg.LAST_UNIT) (word unit)
  else s2

/-- The error payload of Table 13-4; fields that do not apply hold all ones. -/
structure ErrInfo where
  op : Nat
  layer : Nat
  expert : Nat
  group : Nat
  variant : Nat
  repetition : Nat
  tick : Nat
  detail : Nat

/-- A payload in which only DETAIL applies. -/
def ErrInfo.only (detail : Nat) : ErrInfo :=
  ⟨0xFFFFFFFF, 0xFFFF, 0xFFFF, 0xFF, 0xFF, 0xFFFF, 2 ^ 64 - 1, detail⟩

def ErrInfo.bytes (e : ErrInfo) : List Byte :=
  Crypto.bytesLE 4 e.op ++ Crypto.bytesLE 2 e.layer ++ Crypto.bytesLE 2 e.expert ++ Crypto.bytesLE 1 e.group
    ++ Crypto.bytesLE 1 e.variant ++ Crypto.bytesLE 2 e.repetition ++ Crypto.bytesLE 8 e.tick
    ++ Crypto.bytesLE 4 e.detail

/-- The record of the operation stream that an error of a core's unit belongs to, and how often it has issued: of the
loads of an array, of the fires of an engine, or what the core issued last (Table 13-4, log 143). -/
def State.recordOf (s : State) (code unit : Nat) : Option (Nat × Nat) :=
  let kind := unit / 0x100000 % 16
  let k := s.core (unit % 4 * 144 + unit / 4 % 8 * 18 + unit / 32 % 32)
  let e := unit / 1024 % 16
  if kind < 3 ∨ 5 < kind then none
  else if code = 0x0204 then k.issued.get? (100 + e + 16 * (unit / 16384 % 2))
  else if code = 0x0101 ∨ code = 0x0102 ∨ code = 0x0105 then k.issued.get? (200 + e)
  else if code = 0x0106 ∨ code = 0x0206 ∨ code = 0x0301 then (k.issued.find? (fun p => p.2.1 == k.opIndex)).map (·.2)
  else none

/-- An error record of Table 13-5 whose payload names the group, its variant and tick, its record and a layer. -/
def State.error (s : State) (sev code unit : Nat) (grp layer : Option Nat) (detail : Nat) : State :=
  let e := ErrInfo.only detail
  let e := match grp with
    | some g => { e with group := g, variant := (s.grp g).kind, tick := (s.grp g).tick }
    | none => e
  let e := match s.recordOf code unit with
    | some r => { e with op := r.1, repetition := r.2 - 1 }
    | none => e
  s.record sev code unit { e with layer := layer.getD 0xFFFF }.bytes

/-- A record whose code the spec does not give (log 11). -/
def State.note (s : State) (sev : Nat) (what : String) (unit : Nat) (payload : List Byte) : State :=
  s.record sev (Config.recordCode what).toNat unit payload

/-- The 64-byte slots of a committed record (Table 15-4, R393): the head, then continuations. -/
def EvRec.slots (r : EvRec) : List (List Byte) :=
  let flags := fun (cont : Bool) => r.severity + 4 * flag cont + 8 * r.timeState
  let head := Crypto.bytesLE 8 r.seq ++ Crypto.bytesLE 1 (flags false) ++ [0] ++ Crypto.bytesLE 2 r.code
    ++ Crypto.bytesLE 4 r.unit ++ Crypto.bytesLE 6 r.opS ++ Crypto.bytesLE 4 r.cycles ++ Crypto.bytesLE 8 r.time
    ++ Crypto.bytesLE 2 r.temp ++ Crypto.bytesLE 2 r.volt
    ++ ((r.payload.take 24) ++ List.replicate (24 - r.payload.length) (0xFF : Byte)) ++ [0xA5, 0xFF]
  let more := chunksOf 46 r.payload.length (r.payload.drop 24)
  head :: more.zipIdx.map (fun (c, i) =>
    Crypto.bytesLE 8 (r.seq + 1 + i) ++ Crypto.bytesLE 1 (flags true) ++ [0] ++ Crypto.bytesLE 2 r.code
      ++ Crypto.bytesLE 4 r.unit ++ c ++ List.replicate (46 - c.length) (0xFF : Byte) ++ [0xA5, 0xFF])

/-! ### Messages (R268 to R276) -/

/-- Something the block sends: by the port, a frame that leaves where the link takes it. -/
def State.sendTo (s : State) (m : OutMsg) (dest : Option Nat) (opcode : Nat) : State :=
  let s1 := { s with out := s.out ++ [m] }
  if m.onPort && s.portTakes m then
    ({ s1 with wire := s.wire ++ [s.portFrame m dest opcode] }).bumpWide (Blk.port.at Reg.TX_FRAMES_LO) 1
  else s1

def State.send (s : State) (m : OutMsg) : State := s.sendTo m none 0

def State.session? (s : State) (id : Nat) : Option Session := s.sessions.find? (fun x => x.id == id)

def State.updSession (s : State) (id : Nat) (f : Session → Session) : State :=
  { s with sessions := s.sessions.map (fun x => if x.id = id then f x else x) }

/-- Reply to a command (R275), stored for the last 256 commands (R273) and sent where the command came from (R268); a
session that has departed gets none. -/
def State.reply (s : State) (sess seq : Nat) (st : Status) (detail tag : Nat) (body : List Nat) : State :=
  match s.session? sess with
  | none => s
  | some x =>
    let m := OutMsg.reply sess seq st detail tag body false
    let call := x.calls.getD seq (x.peer, 0)
    (s.updSession sess (fun x => { x with
      replies := (x.replies ++ [(seq, m)]).drop (x.replies.length + 1 - 256), calls := x.calls.del seq })).sendTo
      m (some call.1) call.2

/-- Abort a session's uploads: a plan's as PLAN_ABORT does (R274), firmware's discarded (R320). -/
def State.abortUploads (s : State) (sess : Nat) : State :=
  { s with
    groups := s.groups.map (fun p => match p.2.staged with
      | some st => if st.phase = .uploading ∧ st.upload.sess = sess then (p.1, { p.2 with staged := none })
        else p
      | none => p)
    boot := match s.boot.upload with
      | some u => if u.sess = sess then { s.boot with upload := none } else s.boot
      | none => s.boot }

/-- A session departs (R274): its requests end CANCELLED at the next boundary, its upload is
aborted, its commands not yet applied are discarded, and SESSION_DEPARTED is raised. -/
def State.depart (s : State) (sess : Nat) : State :=
  let s1 := s.abortUploads sess
  let s2 := { s1 with
    sessions := s1.sessions.filter (fun x => x.id != sess)
    held := s1.held.filter (fun h => h.sess != sess)
    reqs := s1.reqs.map (fun (r : Req) =>
      if r.sess = sess ∧ r.ending = none then { r with ending := some 3 } else r) }
  ((s2.setCause causeDeparted).bump (Blk.port.at Reg.DEPARTURES) 1).note sevInfo "session departed"
    unitPort (Crypto.bytesLE 4 sess)

/-- Originate a message in a session (R273): numbered and kept until acknowledged, queued while 256
are unacknowledged; a session whose queue overflows departs. -/
def State.originate (s : State) (sess : Nat) (m : DevMsg) : State :=
  match s.session? sess with
  | none => s
  | some x =>
    if !x.isOpen then s
    else if x.unacked.length < 256 then
      (s.updSession sess (fun x => { x with
        dseq := x.dseq + 1, unacked := x.unacked ++ [⟨x.dseq, m, 1000⟩] })).sendTo
        (.device sess x.dseq m false) (some x.peer) 0
    else if x.queue.length < 1024 then s.updSession sess (fun x => { x with queue := x.queue ++ [m] })
    else s.depart sess

/-- Send queued messages into free places of the window. -/
def drainQueue : Nat → Nat → State → State
  | 0, _, s => s
  | n + 1, sess, s =>
    match s.session? sess with
    | none => s
    | some x => match x.queue with
      | [] => s
      | m :: rest =>
        if 256 ≤ x.unacked.length then s
        else drainQueue n sess ((s.updSession sess (fun x => { x with queue := rest })).originate sess m)

/-- Take an acknowledgement from the host: every device message numbered up to it is released. -/
def State.acknowledge (s : State) (sess ack : Nat) : State :=
  drainQueue 256 sess (s.updSession sess (fun x => { x with
    unacked := x.unacked.filter (fun u => decide (ack < u.seq)) }))

/-- A load, adapter, suspension or probe notice (R276); dropped where its session has departed. -/
def State.notice (s : State) (sess opcode origin : Nat) (st : Status) (fields : List Nat) : State :=
  s.originate sess (.notice opcode origin st fields)

/-- A fresh free value of w bits (log 6). -/
def State.freshValue (s : State) (w : Nat) : BitVec w × State :=
  (Config.freeValue w s.fresh, { s with fresh := s.fresh + 1 })

/-! ### Counted errors and fences (R190, R345, R346) -/

/-- Fence a core from the next boundary for a cause, or add the cause to one already fenced. -/
def State.fence (s : State) (c cause : Nat) : State :=
  s.updCore c (fun k =>
    if k.fenced then { k with causes := k.causes ||| 2 ^ cause }
    else { k with due := k.due ||| 2 ^ cause })

/-- Count one error of a kind on a unit of a core and fence the core when the count over any 60 s of
operating time reaches a limit (Table 13-6). -/
def State.countError (s : State) (c kind limit cause : Nat) : State :=
  let now := s.opS
  let s1 := s.updCore c (fun k => { k with
    errors := (k.errors.filter (fun e => decide (now < e.2 + 60))) ++ [(kind, now)] })
  if limit ≤ (((s1.core c).errors.filter (fun e => e.1 == kind)).length) then s1.fence c cause else s1

/-- Stop a core at once (R191): its units halt, its router passes through, CORE_STOPPED is written,
and it is fenced from the next boundary with cause 7 (R345). -/
def State.stopCore (s : State) (c : Nat) (causes : Nat) : State :=
  if (s.core c).stopped then s
  else
    let s1 := s.updCore c (fun k => { k with
      stopped := true, passThrough := true, running := false, walk := none })
    (s1.error sevError 0x0401 (unitCore c) (s1.core c).group none causes).fence c 7

/-! ### Safe state (R302, R372, R412) -/

/-- Safe clock of domain `k` (Table 11-2), from the ring of its die, whose window is 10 µs of its cycles (R301); the
core domains end gated. -/
def State.safeMhz (s : State) (k : Nat) : Nat :=
  let ring := (s.mon (if k < 36 then k / 9 else 0)).window / 10
  if 36 ≤ k then (if k = 37 then ring / 4 else ring)
  else if k % 9 = 0 then 0
  else if k % 9 ≤ 2 then ring / 2
  else ring

/-- The Ethernet link goes down with the clocks. -/
def State.portLost (s : State) : State :=
  let s1 := { s with port := { s.port with
    linkUp := false, fecLock := false, anDone := false, macsecUp := false, disc := 1 } }
  if s.port.linkUp then (s1.bump (Blk.port.at Reg.LINK_DOWNS) 1).setCause causeLink else s1

/-- Enter safe state: every domain on its safe clock, every running tick abandoned without frames,
every stack in self-refresh, the link down, and a FATAL record (Table 11-5). A clock fault sets
CLOCK_LOSS too; a second entry changes nothing but the record. -/
def State.enterSafe (s : State) (clockFault : Bool) (unit : Nat) (payload : List Byte) : State :=
  if s.clocks.safe then s.note sevFatal "safe state" unit payload
  else
    let s1 := { s with
      clocks := { s.clocks with
        safe := true
        allGated := true
        doms := (List.range 40).map (fun k => (k, { s.dom k with mhz := s.safeMhz k, onSafe := true, pending := false })) }
      groups := s.groups.map (fun (p : Nat × Group) => (p.1, { p.2 with running := false, overrun := false }))
      cores := s.cores.map (fun (p : Nat × CoreState) => (p.1, { p.2 with running := false, walk := none }))
      stackTbl := (List.range 12).map (fun k => (k, { s.stack k with selfRefresh := true, inService := false }))
      fabric := { s.fabric with linkUp := 0 } }
    let s2 := s1.portLost.setCause causeSafe
    let s3 := if clockFault then s2.setCause causeClockLoss else s2
    s3.note sevFatal "safe state" unit payload

end Sys2Proof.Machine
end

