-- ==== Sys2Proof/Machine/Mesh.lean ====
section
/-!
DEFINITION. The geometry of the fabric: mesh positions, edges, paths in service, routes and distances
(R14, R169 to R175, R184).
-/

namespace Sys2Proof.Machine

open Sys2Proof

/-- Row and column of a cluster in die coordinates: C0 to C3 north, C4 to C7 south (R14). -/
def clusterRow (c : Nat) : Nat := c % 8 / 4
def clusterCol (c : Nat) : Nat := c % 4

/-- The in-die neighbour of a cluster in a direction (1 north, 2 east, 3 south, 4 west), if any. -/
def meshNeighbour (c dir : Nat) : Option Nat :=
  let i := c % 8
  if dir = 1 ∧ 4 ≤ i then some (i - 4)
  else if dir = 3 ∧ i < 4 then some (i + 4)
  else if dir = 2 ∧ i % 4 < 3 then some (i + 1)
  else if dir = 4 ∧ 0 < i % 4 then some (i - 1)
  else none

/-- Index of a mesh direction of a cluster of the package in the fabric's lists. -/
def dirKey (c dir : Nat) : Nat := 4 * c + (dir - 1)

/-- What the port of a router leads to (R14, R171): 0 unused, 1 mesh link, 2 stack edge, 3 port edge,
4 die link, 5 crossbar mesh port, and 6 for the control complex's attachment at D0.C3. -/
def portKind (c port : Nat) : Nat :=
  let i := c % 8
  if port = 0 then 5
  else if 4 < port then 0
  else if (meshNeighbour c port).isSome then 1
  else if (i = 1 ∨ i = 2) ∧ port = 1 then 2
  else if i = 4 ∧ port = 4 then 2
  else if c = 0 ∧ port = 4 then 3
  else if (i = 7 ∧ port = 2) ∨ (i = 6 ∧ port = 3) then 4
  else if c = 3 ∧ port = 1 then 6
  else 0

/-- The edge attachment of a cluster as MR_STATUS names it (Table 7-8). -/
def edgeKind (c : Nat) : Nat :=
  let i := c % 8
  if i = 1 ∨ i = 2 ∨ i = 4 then 1 else if c = 0 then 2 else if i = 6 ∨ i = 7 then 3
  else if c = 3 then 4 else 0

/-- Cluster of a stack's controller on its die (R14). -/
def stackCluster (k : Nat) : Nat := if k % 3 = 0 then 1 else if k % 3 = 1 then 2 else 4

/-- The die and the direction at the far end of a die link: DL-E of a die meets DL-S of the next
(Table 1-2). -/
def linkPeer (d : Nat) (south : Bool) : Nat := if south then (d + 3) % 4 else (d + 1) % 4

/-- Index of a die's link in the fabric's masks. -/
def linkKey (d : Nat) (south : Bool) : Nat := 2 * d + flag south

/-- A die link carries traffic: both of its transmitters are in service. -/
def Fabric.linkWorks (f : Fabric) (d : Nat) (south : Bool) : Bool :=
  f.linkUp.testBit (linkKey d south) && f.linkUp.testBit (linkKey (linkPeer d south) (!south))

/-- A mesh direction's link is in service: neither end is down, nor either router. -/
def Fabric.meshWorks (f : Fabric) (c dir : Nat) : Bool :=
  match meshNeighbour c dir with
  | none => false
  | some n =>
    let far := c / 8 * 8 + n
    let back := if dir = 1 then 3 else if dir = 3 then 1 else if dir = 2 then 4 else 2
    !(f.meshDown.contains (dirKey c dir)) && !(f.meshDown.contains (dirKey far back))
      && !(f.routerDown.contains c) && !(f.routerDown.contains far)

/-- A router port is in service. -/
def State.portUp (s : State) (c port : Nat) : Bool :=
  let f := s.fabric
  if f.routerDown.contains c then false
  else
    let dead := f.stageDead.contains (dirKey c port)
    let kind := portKind c port
    if kind = 5 then true
    else if kind = 1 then f.meshWorks c port
    else if kind = 2 then
      let k := c / 8 * 3 + (if c % 8 = 1 then 0 else if c % 8 = 2 then 1 else 2)
      !dead && !(s.stack k).failed && !(f.lostStacks.contains k)
    else if kind = 4 then !dead && f.linkWorks (c / 8) (decide (c % 8 = 6))
    else if kind = 3 ∨ kind = 6 then !dead
    else false

/-- Reservable capacity in service of a router output, in bytes per NoC clock (Table 7-1). The stack
edge's is its stack's stream at all shares (R141): 7,000,000 / (3 × NoC MHz). -/
def State.portCapacity (s : State) (c port : Nat) : Nat :=
  if !s.portUp c port then 0
  else match portKind c port with
    | 5 => 750
    | 1 => 750
    | 2 =>
      let noc := (s.dom (9 * (c / 8) + 1)).mhz
      if noc = 0 then 0 else 7000000 / (3 * noc)
    | 3 => (s.reg (Blk.usher.at Reg.PORT_RESERVE)).toNat
    | 4 => 300
    | _ => 0

/-- Hops on a die's mesh between two of its clusters. -/
def meshHops (a b : Nat) : Nat :=
  ((clusterRow a : Int) - clusterRow b).natAbs + ((clusterCol a : Int) - clusterCol b).natAbs

/-- Ring distance of two dies. -/
def dieDist (a b : Nat) : Nat :=
  let d := (b + 4 - a) % 4
  if d = 3 then 1 else d

/-- Segments of the control network: 0 to 31 lead to the clusters of the package, 32 to 35 to the
dies' hubs (R184; log 20). -/
def dieSegment (d : Nat) : Nat := 32 + d

/-- Die of a control segment. -/
def segmentDie (k : Nat) : Nat := if k < 32 then k / 8 else (k - 32) % 4

/-- The unit word of a control segment: its die, with INDEX 0 to 7 for a cluster and 8 for the hub. -/
def segmentUnit (k : Nat) : Nat :=
  if k < 32 then k / 8 + 32768 * (k % 8) + 8 * 0x100000
  else (k - 32) % 4 + 32768 * 8 + 8 * 0x100000

/-- The segment whose lanes lie beside a die's link, by which D1 and D3 hang from D0's hub and D2 from D1's; those between
D2 and D3 are the other way to D2 (R184). -/
def laneSegment (d : Nat) (south : Bool) : Option Nat :=
  match (if south then (d + 3) % 4 else d) with
  | 0 => some 33
  | 1 => some 34
  | 3 => some 35
  | _ => none

/-- Segments on the ways to a die's hub from the root, each enough: D2 can also be reached through D3 (R184). -/
def hubWays (d : Nat) : List (List Nat) :=
  if d = 0 then [[32]] else if d = 2 then [[32, 33, 34], [32, 35, 34]] else [[32, dieSegment d]]

/-- Control messages for a core travel on the data mesh: the network is not trained, or a segment on
the way to the core is bypassed (R185). -/
def State.coreOnMesh (s : State) (c : Nat) : Bool :=
  let down := fun (k : Nat) => (s.fabric.segDown.get? k).isSome
  !s.fabric.segTrained || down (c / 18) || (hubWays (c / 144)).all (fun w => w.any down)

/-- Stage cores of a direction: primary and standby, as cores of the cluster (Table 7-2). -/
def stageCores (dir : Nat) : Nat × Nat :=
  if dir = 1 then (2, 3) else if dir = 2 then (11, 5) else if dir = 3 then (14, 15) else (6, 12)

/-- The direction whose stage a core of a cluster may hold, 0 for none. -/
def stageDir (k : Nat) : Nat :=
  if k = 2 ∨ k = 3 then 1 else if k = 11 ∨ k = 5 then 2 else if k = 14 ∨ k = 15 then 3
  else if k = 6 ∨ k = 12 then 4 else 0

end Sys2Proof.Machine
end

