-- ==== Sys2Proof/Machine/ClockOps.lean ====
section
/-!
DEFINITION. Clock domains: their ranges, what AUTO and FIXED set them to, and when they change (R294 to
R297).
-/

namespace Sys2Proof.Machine

open Sys2Proof

/-- Groups that run a plan and have cores on a die. -/
def State.dieGroups (s : State) (d : Nat) : List Nat :=
  (s.groups.filter (fun p => p.2.current.isSome && !p.2.suspended
    && s.cores.any (fun c => decide (c.1 / 144 = d) && c.2.group == some p.1))).map (·.1)

/-- Range in which a FIXED setting of domain j of a die is held (R297). -/
def domRange (j : Nat) : Nat × Nat :=
  if j = 0 then (100, 2000) else if j = 1 then (500, 2000) else if j = 2 then (250, 500)
  else if j < 6 then (625, 1250) else if j < 8 then (1000, 4000) else (250, 250)

/-- A number held within a range. -/
def holdIn (r : Nat × Nat) (x : Nat) : Nat := max r.1 (min r.2 x)

/-- The FIXED setting of a domain, if its DOM_CTRL asks for one. The monitor domain has none. -/
def State.fixedSetting (s : State) (d : DieIx) (j : Nat) : Option Nat :=
  let w := (s.reg ((Blk.dieClk d).at (16 * j))).toNat
  if w % 2 = 1 ∧ j < 8 then some (holdIn (domRange j) (w / 2 % 4096)) else none

/-- The package throttle clock and the idle core clock (R308). -/
def State.pkgThrottle (s : State) : Nat := (s.reg (Blk.clocks.at Reg.PKG_THROTTLE)).toNat
def State.coreIdle (s : State) : Nat := (s.reg (Blk.clocks.at Reg.CORE_IDLE)).toNat

/-- The core clock AUTO gives a die (R20, R295): outside throttle the highest clock of its running
groups, or CORE_IDLE; in throttle the package throttle clock once every group has switched, until
then the clock it has. -/
def State.autoCore (s : State) (d : Nat) : Nat :=
  let gs := s.dieGroups d
  let top := (gs.map (fun g => (s.grp g).mhz)).foldl max 0
  let want :=
    if (s.therm d).state = 2 then
      if gs.all (fun g => (s.grp g).throttled) then s.pkgThrottle else (s.dom (9 * d)).mhz
    else if gs.isEmpty then s.coreIdle else top
  holdIn (domRange 0) want

/-- What each domain of a die runs at under its setting. -/
def State.domTarget (s : State) (d : DieIx) (j : Nat) : Nat :=
  let core := (s.fixedSetting d 0).getD (s.autoCore d.val)
  let noc := (s.fixedSetting d 1).getD (max 1000 core)
  (s.fixedSetting d j).getD
    (if j = 0 then core else if j = 1 then noc else if j = 2 then 500 else if j < 6 then 1250
     else if j < 8 then 2 * noc else 250)

/-- Channels of stacks lost to a fault are marked failed (Table 7-6). -/
def State.failLost (s : State) : State :=
  let s1 := s.fabric.lostStacks.foldl (fun (s : State) k =>
    s.updStack k (fun x => { x with failed := true, inService := false })) s
  { s1 with fabric := { s1.fabric with lostStacks := [] } }

/-- What a clock that breaks a ratio limit takes out of service (Table 11-3): a die link that does not run at twice its die's
NoC clock, at both its ends, and a stack whose controller does not run at an eighth of its pin rate. -/
def State.breakRatios (s : State) (d : Nat) : State :=
  let mhz := fun (j : Nat) => (s.dom (9 * d + j)).mhz
  let gone := ([false, true].filter (fun south => s.fabric.linkUp.testBit (linkKey d south)
    && decide (mhz (if south then 7 else 6) ≠ 2 * mhz 1))).flatMap (fun south => [linkKey d south, linkKey (linkPeer d south) (!south)])
  let off := ([0, 1, 2].filter (fun j => decide (mhz (3 + j) ≠ 1250))).map (· + 3 * d)
  let lost := off.filter (fun k => !(s.stack k).failed && !(s.fabric.lostStacks.contains k))
  let s1 := { s with fabric := { s.fabric with
    linkUp := maskOf 8 (fun i => s.fabric.linkUp.testBit i && !(gone.contains i)), broken := s.fabric.broken || !gone.isEmpty
    lostStacks := s.fabric.lostStacks ++ lost } }
  if s1.groups.any (fun p => p.2.ticking) then s1 else s1.failLost

/-- The control clock of a die is above half its NoC clock: its hubs' inputs overrun (Table 11-3). -/
def State.hubsOverrun (s : State) (d : Nat) : Bool := decide ((s.dom (9 * d + 1)).mhz < 2 * (s.dom (9 * d + 2)).mhz)

/-- Set every domain of a die to its target, with what a breach of the ratio limits does; nothing changes in safe state. -/
def State.applyDie (s : State) (d : DieIx) : State :=
  if s.clocks.safe then s
  else ((List.range 9).foldl (fun acc j =>
    acc.updDom (9 * d.val + j) (fun x => { x with mhz := s.domTarget d j, pending := false })) s).breakRatios d.val

/-- After a setting changed: a die without running groups changes at once, another shows the change
as pending until a boundary (R297). -/
def State.touchDie (s : State) (d : DieIx) : State :=
  if (s.dieGroups d.val).isEmpty then s.applyDie d
  else (List.range 9).foldl (fun acc j =>
    acc.updDom (9 * d.val + j) (fun x => { x with pending := decide (x.mhz ≠ s.domTarget d j) })) s

/-- Each die (R8). -/
def allDies : List DieIx := [0, 1, 2, 3]

end Sys2Proof.Machine
end

