-- ==== Sys2Proof/Machine/Calib.lean ====
section
/-!
DEFINITION. Drift tracking and calibration as computations on one array: the tracker (R103), reference
masks (R104), the sampler (R115 to R117), sweeps and targets (R120 to R122), the outcome and commit of
a run (R123, R124), the choice of targets (R125 to R128) and the gradual step (R129).
-/

namespace Sys2Proof.Machine

/-- Integer square root by bits, for values below 4^n. -/
def isqrtAux : Nat → Nat → Nat → Nat
  | 0, _, r => r
  | n + 1, x, r => if (r + 2 ^ n) ^ 2 ≤ x then isqrtAux n x (r + 2 ^ n) else isqrtAux n x r

def isqrt (x : Nat) : Nat := isqrtAux 64 x 0

/-- Ceiling of 6 × the root of a mean square (R117). -/
def ceilSixRms (s2 n : Nat) : Nat :=
  if n = 0 then 0
  else
    let q := ceilDiv (36 * s2) n
    let r := isqrt q
    if r * r < q then r + 1 else r

/-- Reference columns used by the tracker: unmasked and other than RC1 (R103). -/
def trackCols (mask : List Nat) : List Nat :=
  [0, 2, 3, 4, 5, 6, 7].filter (fun k => !(mask.contains k))

/-- Account one tested fire to the tracker, the masks' counts and the residual of R128. -/
def Drift.account (d : Drift) (r : FireResult) : Drift :=
  let cols := trackCols d.mask
  let unmasked := (List.range 8).filter (fun k => !(d.mask.contains k))
  { d with
    s1 := d.s1 + sumInts (cols.map (fun k => r.refRes.getD k 0 * r.expect.getD k 0))
    s2 := d.s2 + sumInts (cols.map (fun k => r.expect.getD k 0 * r.expect.getD k 0))
    s3 := if d.mask.contains 1 then d.s3 else d.s3 + r.rc1
    n := d.n + 1
    fails := (List.range 8).foldl (fun t k =>
      if r.refFails.contains k then t.upd k 0 (· + 1) else t) d.fails
    others := (List.range 8).foldl (fun t k =>
      if r.refFails.any (· != k) then t.upd k 0 (· + 1) else t) d.others
    rss := d.rss + (unmasked.map (fun k => (r.refRes.getD k 0).natAbs ^ 2)).foldl (· + ·) 0
    rn := d.rn + unmasked.length }

/-- A signed quotient in fixed point, saturating at 16 bits (DRIFT_EST). -/
def estimate (num den : Int) (unit : Nat) : Int :=
  if den = 0 then 0
  else clampInt ((Frac.div ⟨num * unit, 1⟩ ⟨den, 1⟩).round) (-32768) 32767

/-- The boundary update of the tracker (R103). -/
def Drift.update (d : Drift) : Drift :=
  if d.n < 64 then { d with stale := true }
  else
    let gAt := d.gA = 0x7852 ∨ d.gA = 0x87AE
    let oAt := d.oA = -48 ∨ d.oA = 48
    let g := if d.s2 ≤ 0 then d.gA
      else if gAt ∧ d.limit then d.gA
      else
        let q := (Frac.div (Frac.ofInt d.s1) (Frac.ofInt d.s2)).clamp ⟨-1, 1024⟩ ⟨1, 1024⟩
        let v := ((Frac.ofInt d.gA).mul ((Frac.ofInt 1).sub q)).round
        (clampInt v 0x7852 0x87AE).toNat
    let o := if oAt ∧ d.limit then d.oA
      else clampInt (d.oA + clampInt ((Frac.div ⟨4 * d.s3, 1⟩ (Frac.ofNat d.n)).round) (-1) 1) (-48) 48
    { d with
      gA := g, oA := o, stale := false
      limit := d.limit || decide (g = 0x7852 ∨ g = 0x87AE ∨ o = -48 ∨ o = 48)
      gamma := if d.s2 ≤ 0 then d.gamma else estimate d.s1 d.s2 (2 ^ 20)
      delta := estimate d.s3 d.n 256 }

/-- Columns newly masked at a boundary (R104), lowest first, at most two masked in all. -/
def Drift.newMasks (d : Drift) : List Nat :=
  if d.n < 64 then []
  else
    let meets := (List.range 8).filter (fun k => !(d.mask.contains k)
      && decide (d.n ≤ 64 * d.fails.getD k 0) && decide (1024 * d.others.getD k 0 < d.n))
    meets.take (2 - d.mask.length)

/-- The sums of a tick reset for the next. -/
def Drift.resetTick (d : Drift) : Drift :=
  { d with s1 := 0, s2 := 0, s3 := 0, n := 0, fails := [], others := [], rss := 0, rn := 0 }

/-- RMS reference residual above a bound in quarter counts (R128). -/
def Drift.above (d : Drift) (bound : Nat) : Bool :=
  decide (bound * bound * d.rn < 16 * d.rss)

/-- Add one captured fire to a column's sums (R116). -/
def ColSums.add (c : ColSums) (e d : Int) : ColSums :=
  ⟨c.n + 1, c.e + e, c.e2 + e * e, c.d + d, c.de + d * e, c.d2 + d * d⟩

def ColSums.zero : ColSums := ⟨0, 0, 0, 0, 0, 0⟩

def ResSums.add (r : ResSums) (x : Int) : ResSums := ⟨r.s + x, r.s2 + x.natAbs ^ 2, r.n + 1⟩

/-- Expected reading of a column for an entry: the signed sum over the rows whose cell is 1 (R115). -/
def expectedReading (a : ArrayState) (act : List (Nat × Elem)) (c : Nat) : Int :=
  let pn := chains a act c
  (pn.1 : Int) - (pn.2 : Int)

/-- A captured fire enters the column sums of a run (R115, R116). -/
def CalRun.sample (run : CalRun) (a : ArrayState) (act : List (Nat × Elem)) (r : FireResult) : CalRun :=
  { run with
    sums := (List.range 530).foldl (fun t c =>
      t.upd c ColSums.zero (fun s => s.add (expectedReading a act c) (r.readings.getD c 0))) run.sums }

/-- The residuals of a tested fire enter the statistics of a run: the checksum's, and those of the unmasked reference
columns (R47, R117). -/
def CalRun.observe (run : CalRun) (mask : List Nat) (r : FireResult) : CalRun :=
  { run with
    cs := run.cs.add r.csRes
    refs := (List.range 8).foldl (fun t k =>
      if mask.contains k then t
      else t.upd k ⟨0, 0, 0⟩ (fun s => s.add (r.refRes.getD k 0))) run.refs }

/-- The least-squares fit of a span: gain, offset and variance of the residual; none where the fit is
not valid (R116). -/
def ColSums.fit (c : ColSums) : Option (Frac × Frac × Frac) :=
  let n : Int := c.n
  let vd := n * c.e2 - c.e * c.e
  if 1024 ≤ c.n ∧ 100 * n * n ≤ vd then
    let g := Frac.div ⟨n * c.de - c.d * c.e, 1⟩ ⟨vd, 1⟩
    let o := ((Frac.ofInt c.d).sub (g.mul (Frac.ofInt c.e))).div (Frac.ofInt n)
    let v := (((Frac.ofInt c.d2).sub (g.mul (Frac.ofInt c.de))).sub (o.mul (Frac.ofInt c.d))).div
      (Frac.ofInt n)
    some (g, o, v)
  else none

/-- Expected readings of V0 to V7 (R118). -/
def sweepExpected : List Int := [896, 640, 256, 0, 0, -256, -640, -896]

/-- A sweep from a column's 56 readings (R118, R120): eight at the taps in force, then at P_TRIM −1
and +1, N_TRIM −1 and +1, CONV_TAP −1 and +1. A tap at an end of its range is measured against its
one neighbour. -/
def sweepOf (v : ColVal) (rs : List Int) : Sweep :=
  let at_ := fun (s i : Nat) => rs.getD (8 * s + i) 0
  let r0 := (List.range 8).map (at_ 0)
  let sums := (List.zip sweepExpected r0).foldl (fun (c : ColSums) p => c.add p.1 p.2) ColSums.zero
  let vd := 8 * sums.e2 - sums.e * sums.e
  let slope := Frac.div ⟨8 * sums.de - sums.d * sums.e, 1⟩ ⟨vd, 1⟩
  let icept := ((Frac.ofInt sums.d).sub (slope.mul (Frac.ofInt sums.e))).div (Frac.ofInt 8)
  let var := (((Frac.ofInt sums.d2).sub (slope.mul (Frac.ofInt sums.de))).sub
    (icept.mul (Frac.ofInt sums.d))).div (Frac.ofInt 8)
  let mid := fun (s : Nat) => at_ s 3 + at_ s 4
  let trim := fun (tap top lo hi : Nat) =>
    if tap = 0 then (⟨mid hi - mid 0, 2⟩ : Frac)
    else if tap = top then ⟨mid 0 - mid lo, 2⟩
    else ⟨mid hi - mid lo, 4⟩
  let mag := fun (s : Nat) => ((at_ s 0).natAbs : Int) + ((at_ s 7).natAbs : Int)
  let conv : Frac :=
    if mag 0 = 0 then ⟨0, 1⟩
    else if v.convTap = 0 then Frac.div ⟨mag 0 - mag 6, 1⟩ ⟨mag 0, 1⟩
    else if v.convTap = 15 then Frac.div ⟨mag 5 - mag 0, 1⟩ ⟨mag 0, 1⟩
    else Frac.div ⟨mag 5 - mag 6, 1⟩ ⟨2 * mag 0, 1⟩
  let upto := fun (tap top : Nat) (lo now hi : Int) => (decide (tap = 0) || decide (lo ≤ now)) && (decide (tap = top) || decide (now ≤ hi))
  { slope := slope, icept := icept
    pResp := trim v.pTrim 31 1 2
    nResp := (trim v.nTrim 31 3 4).neg
    convStep := (conv.mul (Frac.ofInt 10000)).round
    var := var
    mono := upto v.pTrim 31 (mid 1) (mid 0) (mid 2) && upto v.nTrim 31 (-(mid 3)) (-(mid 0)) (-(mid 4))
      && upto v.convTap 15 (-(mag 5)) (-(mag 0)) (-(mag 6)) }

/-- A sweep whose readings are sums of some number of repeats, as their average (R132). -/
def Sweep.averaged (sw : Sweep) (n : Nat) : Sweep :=
  let m : Frac := ⟨1, n⟩
  { sw with
    slope := sw.slope.mul m, icept := sw.icept.mul m, pResp := sw.pResp.mul m, nResp := sw.nResp.mul m
    var := (sw.var.mul m).mul m }

/-- The sweep of a column that reads exactly what its nominal elements would give (Table 2-3). -/
def Sweep.nominal : Sweep := ⟨⟨1, 1⟩, ⟨0, 1⟩, ⟨3, 4⟩, ⟨3, 4⟩, 100, ⟨0, 1⟩, true⟩

/-- k = 1 + CONV_STEP / 10,000 (R121, R129). -/
def convK (step : Int) : Frac := ⟨10000 + step, 10000⟩

/-- Converter-tap moves of R121 step 2. -/
def tapMoves (k : Frac) : Nat → Frac → Nat → Frac × Nat
  | 0, g, tap => (g, tap)
  | n + 1, g, tap =>
    let dist := fun (x : Frac) => (x.sub (Frac.ofInt 0x8000)).abs
    if (Frac.ofInt 0x7F5C).le g && g.le (Frac.ofInt 0x80A4) then (g, tap)
    else if (Frac.ofInt 0x8000).lt g then
      let g' := g.div k
      if tap < 15 && (dist g').lt (dist g) then tapMoves k n g' (tap + 1) else (g, tap)
    else
      let g' := g.mul k
      if 0 < tap && (dist g').lt (dist g) then tapMoves k n g' (tap - 1) else (g, tap)

/-- Trim moves of R121 step 3: offset in quarter counts, P_TRIM and N_TRIM. -/
def trimMoves : Nat → Frac → Nat → Nat → Frac × Nat × Nat
  | 0, o, p, q => (o, p, q)
  | n + 1, o, p, q =>
    if o.abs.lt (Frac.ofInt 2) then (o, p, q)
    else if 0 < o.num then
      if q < 31 then trimMoves n (o.sub (Frac.ofInt 3)) p (q + 1)
      else if 0 < p then trimMoves n (o.sub (Frac.ofInt 3)) (p - 1) q
      else (o, p, q)
    else
      if p < 31 then trimMoves n (o.add (Frac.ofInt 3)) (p + 1) q
      else if 0 < q then trimMoves n (o.add (Frac.ofInt 3)) p (q - 1)
      else (o, p, q)

/-- Target values of a column (R121) from the values in force and the measured gain and offset. -/
def columnTarget (v : ColVal) (drift : Drift) (g o : Frac) (convStep : Int) : ColVal :=
  let gTot := ((Frac.ofInt ((v.g : Int) * drift.gA)).div (Frac.ofInt 32768)).div g
  let oTot := (Frac.ofInt (v.o + drift.oA)).add
    ((o.mul (Frac.ofInt (4 * 32768))).div (Frac.ofInt v.g))
  let c := tapMoves (convK convStep) 16 gTot v.convTap
  let t := trimMoves 64 oTot v.pTrim v.nTrim
  { pTrim := t.2.1, nTrim := t.2.2, convTap := c.2
    g := (clampInt c.1.round 0 65535).toNat, o := clampInt t.1.round (-128) 127 }

/-- Raw gain error of target values (R121). -/
def rawGain (v : ColVal) (convStep : Int) : Frac :=
  ((Frac.div (Frac.ofInt v.g) (Frac.ofInt 32768)).mul
    ⟨10000 + convStep * ((v.convTap : Int) - 8), 10000⟩).sub (Frac.ofInt 1)

/-- Raw offset of target values in counts (R121). -/
def rawOffset (v : ColVal) : Frac :=
  (⟨v.o, 4⟩ : Frac).add ⟨3 * ((v.pTrim : Int) - v.nTrim), 4⟩

/-- First condition of R122 a column fails, as the REASON of LAST_BAD: 0 gain, 1 offset, 2 tap
response, 3 residual. -/
def columnFails (target : ColVal) (sw : Sweep) (var : Frac) (resBound : Nat) : Option Nat :=
  if (⟨6, 100⟩ : Frac).lt (rawGain target sw.convStep).abs then some 0
  else if (Frac.ofInt 12).lt (rawOffset target).abs then some 1
  else if !(sw.mono && (⟨1, 2⟩ : Frac).le sw.pResp && sw.pResp.le ⟨1, 1⟩ && (⟨1, 2⟩ : Frac).le sw.nResp
      && sw.nResp.le ⟨1, 1⟩ && decide (50 ≤ sw.convStep) && decide (sw.convStep ≤ 150)) then some 2
  else if (⟨(resBound * resBound : Nat), 16⟩ : Frac).lt var then some 3
  else none

/-- Gain, offset and residual variance of a column for a run: the span's fit when valid, else the
sweep (R116, R121). -/
def CalRun.measured (run : CalRun) (c : Nat) : Frac × Frac × Frac :=
  match (run.sums.getD c ColSums.zero).fit with
  | some f => f
  | none => let sw := run.sweeps.getD c Sweep.nominal; (sw.slope, sw.icept, sw.var)

/-- Target of a column under a run. -/
def CalRun.target (run : CalRun) (cal : ArrayCal) (c : Nat) : ColVal :=
  let m := run.measured c
  columnTarget (colVal cal c) cal.drift m.1 m.2.1 (run.sweeps.getD c Sweep.nominal).convStep

/-- Columns of the array that fail under a run (R122). -/
def CalRun.failures (run : CalRun) (cal : ArrayCal) (resBound : Nat) : List (Nat × Nat) :=
  (List.range 530).filterMap (fun c =>
    (columnFails (run.target cal c) (run.sweeps.getD c Sweep.nominal) (run.measured c).2.2
      resBound).map (fun r => (c, r)))

/-- Mean checksum residual within CS_TOL / 8 (R122). -/
def CalRun.csOk (run : CalRun) (cal : ArrayCal) : Bool :=
  decide (8 * run.cs.s.natAbs ≤ cal.csTol * run.cs.n) || decide (run.cs.n = 0)

/-- Every unmasked reference column has a mean residual within REF_TOL / 4 (R122). -/
def CalRun.refsOk (run : CalRun) (cal : ArrayCal) : Bool :=
  (List.range 8).all (fun k =>
    cal.drift.mask.contains k ||
    (let r := run.refs.getD k ⟨0, 0, 0⟩
     decide (4 * r.s.natAbs ≤ cal.refTol * r.n) || decide (r.n = 0)))

/-- Reason a run is bad (R123 step 1): more than 8 failing columns, or an array-wide condition. -/
def CalRun.badReason (run : CalRun) (cal : ArrayCal) (resBound : Nat) : Option Nat :=
  if 8 < (run.failures cal resBound).length then some 4
  else if !(run.csOk cal) then some 5
  else if !(run.refsOk cal) then some 6
  else none

/-- Unused spare columns, lowest first: not mapped, not defective (R123). -/
def freeSpareCols (cal : ArrayCal) : List Nat :=
  (List.range 16).filter (fun s => (cal.colMap.get? s).isNone && !(cal.badSpares.contains s))

/-- Unused spare rows, lowest first. -/
def freeSpareRows (cal : ArrayCal) : List Nat :=
  (List.range 8).filter (fun s => (cal.rowMap.get? s).isNone)

/-- Row named by a row test (R123 step 4): from the sums over the 530 columns of reading minus
expected reading, for the vector of all rows and for T0 to T7. None where no deficit or excess of at
least 0.5 count shows; some none where the pattern does not fit one row. The sums are of a number of repeats. -/
def rowNamed (repeats : Nat) (sums : List Int) : Option (Option Nat) :=
  let d0 := sums.getD 0 0
  let least := 265 * repeats
  if (List.range 9).all (fun v => decide ((sums.getD v 0).natAbs < least)) then none
  else if d0.natAbs < least then some none
  else
    let bits := (List.range 8).map (fun b =>
      let d := sums.getD (b + 1) 0
      if d.natAbs < least then some false
      else if (d - d0).natAbs < least then some true
      else none)
    if bits.any Option.isNone then some none
    else some (some (natOfBits (bits.map (fun b => b.getD false))))

/-- Tolerances a run sets (R117); those in force where the run holds no residuals. -/
def CalRun.tolerances (run : CalRun) (cal : ArrayCal) : Nat × Nat :=
  let cs := if run.cs.n = 0 then cal.csTol
    else min 65535 (max 256 (ceilSixRms run.cs.s2 run.cs.n))
  let worst := (List.range 8).foldl (fun m k =>
    if cal.drift.mask.contains k then m
    else let r := run.refs.getD k ⟨0, 0, 0⟩; max m (ceilSixRms r.s2 r.n)) 0
  let any := (List.range 8).any (fun k => decide (0 < (run.refs.getD k ⟨0, 0, 0⟩).n))
  (cs, if any then min 255 (max 4 worst) else cal.refTol)

/-- Slot of a capture temperature in units of 0.125 °C: the nearest of 45, 65, 85 and 105 °C, ties to
the higher (R125). -/
def setSlot (t : Int) : Nat :=
  if t < 440 then 0 else if t < 600 then 1 else if t < 760 then 2 else 3

/-- Commit of a run at a boundary, in the order of R124. A failing column keeps its values in force, drift folded in
(log 119). -/
def commitRun (cal : ArrayCal) (run : CalRun) (temp : Int) (load time : Nat) : ArrayCal :=
  let failing := run.failing
  let keep := fun (c : Nat) => failing.contains c && !(run.repairs.any (fun p => p.1 == c))
  let tol := run.tolerances cal
  let folded := (List.range 546).map (fun p =>
    let v := cal.inForce.getD p ColVal.nominal
    (p, { v with
      g := ((Frac.ofInt ((v.g : Int) * cal.drift.gA)).div (Frac.ofInt 32768)).round.toNat
      o := v.o + cal.drift.oA }))
  let colMap := run.repairs.foldl (fun m p =>
    Tbl.put (m.filter (fun q => q.2 != p.1)) p.2 p.1) cal.colMap
  let after := { cal with colMap := colMap }
  let kept := { cal with inForce := folded }
  let targets := (List.range 530).map (fun c => (c, if keep c then colVal kept c else run.target after c))
  let mapped := run.rowFound.filter (fun r => cal.suspectRows.contains r)
  let rowMap := mapped.foldl (fun m r =>
    match (List.range 8).find? (fun s => (m.get? s).isNone) with
    | some s => m.put s r
    | none => m) cal.rowMap
  let suspects := failing.filter (fun c => !(run.repairs.any (fun p => p.1 == c)))
  let newSet : CalSet := ⟨temp, load, time, targets, suspects, tol.1, tol.2⟩
  let others := cal.sets.map (fun p => (p.1, { p.2 with
    cols := run.repairs.foldl (fun t q =>
      t.put q.1 ((targets.find? (fun x => x.1 == q.1)).map (·.2) |>.getD ColVal.nominal)) p.2.cols }))
  { cal with
    inForce := folded
    drift := { cal.drift with
      gA := 0x8000, oA := 0, limit := false
      mask := cal.drift.mask.filter (fun k => !(run.repairs.any (fun p => p.1 == 522 + k))) }
    colMap := colMap, rowMap := rowMap
    convStep := (List.range 530).foldl (fun t c =>
      if keep c then t
      else match run.sweeps.get? c with
        | some sw => t.put c (clampInt sw.convStep 50 150).toNat
        | none => t) cal.convStep
    suspectCols := suspects
    suspectRows := (run.rowFound.filter (fun r => !(mapped.contains r)))
      ++ mapped.filter (fun r => !(rowMap.any (fun p => p.2 == r)))
    sets := Tbl.put others (setSlot temp) newSet
    csTol := tol.1, refTol := tol.2
    aboveBound := false, badStreak := 0, lastCommit := time, run := none
    exhausted := cal.exhausted
      || decide (rowMap.length < cal.rowMap.length + mapped.length) }

/-- The set whose test score is least, if any; ties keep the earlier one. -/
def bestSet (l : List (Nat × CalSet)) (better : CalSet → CalSet → Bool) : Option (Nat × CalSet) :=
  l.foldl (fun acc p => match acc with
    | none => some p
    | some q => if better p.2 q.2 then some p else some q) none

/-- What the targets of a tick are taken from (R127). -/
inductive TargetPick where
  | none
  | interp (lo hi : Nat × CalSet)
  | one (s : Nat × CalSet) (extrap : Bool)
  deriving DecidableEq, Repr

/-- Choice of sets for a temperature and load index (R127). -/
def pickSets (sets : Tbl CalSet) (t : Int) (load : Nat) : TargetPick :=
  let far := fun (s : CalSet) => ((s.load : Int) - load).natAbs
  let elig := sets.filter (fun p => decide (far p.2 ≤ 40))
  let lo := bestSet (elig.filter (fun p => decide (p.2.temp ≤ t))) (fun a b => decide (b.temp < a.temp))
  let hi := bestSet (elig.filter (fun p => decide (t < p.2.temp))) (fun a b => decide (a.temp < b.temp))
  let dist := fun (s : CalSet) => (s.temp - t).natAbs
  let near := bestSet elig (fun a b => decide (dist a < dist b)
    || (decide (dist a = dist b) && decide (b.temp < a.temp)))
  let anyNear := bestSet sets (fun a b => decide (dist a < dist b)
    || (decide (dist a = dist b) && decide (far a < far b)))
  let fallback : TargetPick := match near with
    | some s => if dist s.2 ≤ 80 then .one s false
        else (match anyNear with | some a => .one a true | none => .none)
    | none => (match anyNear with | some a => .one a true | none => .none)
  let below := bestSet (elig.filter (fun p => decide (p.2.temp < t))) (fun a b => decide (b.temp < a.temp))
  let wide := fun (l h : Option (Nat × CalSet)) => match l, h with
    | some a, some b => if 40 ≤ b.2.temp - a.2.temp then some (a, b) else none
    | _, _ => none
  let exact := lo.filter (fun p => decide (p.2.temp = t))
  match (wide lo hi).orElse (fun _ => wide below exact) with
  | some p => .interp p.1 p.2
  | none => fallback

/-- Interpolated value of R127, rounded to the nearest step. -/
def interpVal (lo hi : Int) (tLo tHi t : Int) : Int :=
  ((Frac.ofInt lo).add ((Frac.ofInt ((hi - lo) * (t - tLo))).div (Frac.ofInt (tHi - tLo)))).round

/-- The targets, tolerances and marks of an array for a tick (R127). -/
def chooseTargets (cal : ArrayCal) (t : Int) (load : Nat) : ArrayCal :=
  match pickSets cal.sets t load with
  | .none => { cal with interp := false }
  | .one s ex =>
    { cal with
      targets := s.2.cols, csTol := s.2.csTol, refTol := s.2.refTol, interp := false, extrap := ex
      slotLo := s.1, slotHi := s.1 }
  | .interp l h =>
    let iv := fun (x y : Int) => interpVal x y l.2.temp h.2.temp t
    { cal with
      targets := (List.range 530).map (fun c =>
        let a := l.2.cols.getD c ColVal.nominal
        let b := h.2.cols.getD c ColVal.nominal
        (c, { pTrim := (iv a.pTrim b.pTrim).toNat, nTrim := (iv a.nTrim b.nTrim).toNat
              convTap := (iv a.convTap b.convTap).toNat, g := (iv a.g b.g).toNat, o := iv a.o b.o }))
      csTol := max l.2.csTol h.2.csTol, refTol := max l.2.refTol h.2.refTol
      interp := true, extrap := false, slotLo := l.1, slotHi := h.1 }

/-- One step of a tap toward its target. -/
def tapStep (x target : Nat) : Nat :=
  if x < target then x + 1 else if target < x then x - 1 else x

/-- One boundary's movement of a column toward its target, with compensation (R129). -/
def gradual (v target : ColVal) (convStep : Nat) : ColVal :=
  let p := tapStep v.pTrim target.pTrim
  let q := tapStep v.nTrim target.nTrim
  let c := tapStep v.convTap target.convTap
  let o1 := v.o + 3 * ((p : Int) - v.pTrim) - 3 * ((q : Int) - v.nTrim)
  let k := convK convStep
  let g1 : Int :=
    if v.convTap < c then ((Frac.ofInt v.g).mul k).round
    else if c < v.convTap then ((Frac.ofInt v.g).div k).round
    else v.g
  let g2 := g1 + clampInt ((target.g : Int) - g1) (-32) 32
  let o2 := o1 + clampInt (target.o - o1) (-1) 1
  ⟨p, q, c, g2.toNat, o2⟩

/-- The gradual step of every column with a target (R129). -/
def slewAll (cal : ArrayCal) : ArrayCal :=
  { cal with
    inForce := cal.targets.foldl (fun t p =>
      let ph := physCol cal p.1
      t.put ph (gradual (t.getD ph ColVal.nominal) p.2 (cal.convStep.getD p.1 100))) cal.inForce }

/-- Load index of a die after a tick of an activity (R126). -/
def loadIndexNext (l : Nat) (activity : Frac) : Nat :=
  (clampInt ((Frac.ofInt l).add ((activity.sub (Frac.ofInt l)).mul ⟨1, 8⟩)).round 0 100).toNat

end Sys2Proof.Machine
end

