-- ==== Sys2Proof/Machine/Cascade.lean ====
section
/-!
DEFINITION. The Cascade and the Rill: the alignment of a contribution, groups, saturation, drains,
exports and merges (R82 to R91), and the exact outlier vector of a fire (R100).
-/

namespace Sys2Proof.Machine

/-- One term I × 2^p of a lane. -/
structure Term where
  i : Int
  p : Int
  deriving DecidableEq, Repr

/-- A term aligned to a window: its value, whether it was dropped below the window, and whether its
aligned magnitude is 2^95 or more (R84). -/
def Term.align (t : Term) (w : Int) : Int × Bool × Bool :=
  if t.i = 0 then (0, false, false)
  else if t.p < w then (0, true, false)
  else
    let v := t.i * (2 ^ (t.p - w).toNat : Nat)
    (v, false, decide (2 ^ 95 ≤ v.natAbs))

/-- One lane of a member: the exact sum of its aligned terms, with the drop and over-window marks. -/
def alignLane (ts : List Term) (w : Int) : Int × Bool × Bool :=
  ts.foldl (fun acc t =>
    let a := t.align w
    (acc.1 + a.1, acc.2.1 || a.2.1, acc.2.2 || a.2.2)) (0, false, false)

/-- A contribution vector directed to one tile: a list of terms for each of the 64 lanes. -/
abbrev Contribution := List (List Term)

/-- The member a contribution makes of itself in a window, and whether a lane was dropped. -/
def memberOf (idx : Nat) (c : Contribution) (w : Int) : Member × Bool :=
  let al := (List.range 64).map (fun l => alignLane (c.getD l []) w)
  (⟨idx, al.map (·.1),
     (al.zipIdx.filter (fun p => p.1.2.2)).map (fun p => (p.2, decide (p.1.1 < 0)))⟩,
   al.any (fun p => p.2.1))

/-- A member arrives at its tile (R84, R85). A drop sets UFL. -/
def CasTile.arrive (t : CasTile) (m : Member) (dropped : Bool) : CasTile :=
  { t with members := t.members ++ [m], ufl := t.ufl || dropped }

/-- Members of group n that have arrived. -/
def CasTile.groupMembers (t : CasTile) (n : Nat) : List Member :=
  t.members.filter (fun m => m.idx / t.g == n)

/-- Group n has all its members (R85). -/
def CasTile.groupFull (t : CasTile) (n : Nat) : Bool :=
  decide (t.g ≤ (t.groupMembers n).length)

/-- Bounds of a lane (R82). -/
def laneMax : Int := 2 ^ 95 - 1
def laneMin : Int := -(2 ^ 95)

/-- Exact lane sums of some members. -/
def sumLanes (ms : List Member) (l : Nat) : Int := sumInts (ms.map (fun m => m.lanes.getD l 0))

/-- Add a group to the lanes (R86): a lane whose result leaves the range, or with a member above the
window, is set to the bound of the sum's sign and stays there until the next clear; a lane with a member above the window
whose sum is 0 takes the upper bound (DESIGN CHOICE: R86 gives 0 no sign; log 129). Answers the tile and the lanes that
saturated. -/
def CasTile.addGroup (t : CasTile) (ms : List Member) : CasTile × Nat :=
  let step := (List.range 64).map (fun l =>
    let old := t.lanes.getD l 0
    if t.bound.contains l then (old, false)
    else
      let s := sumLanes ms l
      let r := old + s
      let beyond := ms.any (fun m => m.beyond.any (fun o => o.1 == l))
      if beyond || decide (r < laneMin) || decide (laneMax < r) then
        ((if s < 0 then laneMin else laneMax), true)
      else (r, false))
  let newly := (step.zipIdx.filter (fun p => p.1.2)).map (·.2)
  ({ t with lanes := step.map (·.1), bound := t.bound ++ newly
            sat := t.sat || !newly.isEmpty }, newly.length)

/-- Group numbers of the members still open, ascending. -/
def CasTile.openGroups (t : CasTile) : List Nat :=
  sortBy (fun a b => decide (a < b)) ((t.members.map (fun m => m.idx / t.g)).eraseDups)

/-- Add one full group, taking its members out (R85). Answers members added and lanes saturated. -/
def CasTile.sumGroup (t : CasTile) (n : Nat) : CasTile × Nat × Nat :=
  let ms := t.groupMembers n
  let r := t.addGroup ms
  ({ r.1 with members := t.members.filter (fun m => m.idx / t.g != n), added := t.added ++ [n], formed := t.formed + 1 },
    ms.length, r.2)

/-- Close every open group, in order, and start the numbering again (R85). Answers members added and
lanes saturated. -/
def CasTile.close (t : CasTile) : CasTile × Nat × Nat :=
  let r := t.openGroups.foldl (fun acc n =>
    let s := acc.1.sumGroup n
    (s.1, acc.2.1 + s.2.1, acc.2.2 + s.2.2)) (t, 0, 0)
  ({ r.1 with members := [], added := [] }, r.2)

/-- CLEAR (Table 3-8): lanes to 0, flags reset, window and group size set, a new step begun. -/
def CasTile.clear (w : Int) (g : Nat) : CasTile :=
  { CasTile.init with w := w, g := g, cleared := true }

/-- EXPORT (Table 3-8): the raw lanes, W and the flags, after the open group is closed. -/
def CasTile.toExport (t : CasTile) : Export := ⟨t.lanes, t.w, t.sat, t.ufl⟩

/-- MERGE (Table 3-8): the open group is closed, the arriving lanes are added as one group of one,
and the arriving flags are ORed in. Answers members added and lanes saturated. -/
def CasTile.merge (t : CasTile) (e : Export) : CasTile × Nat × Nat :=
  let c := t.close
  let r := c.1.addGroup [⟨0, e.lanes, []⟩]
  ({ r.1 with
      sat := r.1.sat || e.sat, ufl := r.1.ufl || e.ufl, merged := c.1.merged ++ [e]
      formed := c.1.formed + 1 },
    c.2.1 + 1, c.2.2 + r.2)

/-- Largest finite FP32 and BF16 magnitudes, as FP32 patterns. -/
def largestFinite (bf16 : Bool) : Nat := if bf16 then 0x7F7F0000 else 0x7F7FFFFF

/-- One drained lane (R90): A × 2^W × g rounded once; an overflow becomes the largest finite value
and is counted; a saturated lane drains as the largest finite value of its sign. -/
def drainLane (a : Int) (w : Int) (factor : Option Word) (stuck bf16 : Bool) : Word × Bool :=
  let v := Frac.dyadic a w
  let v := match factor with
    | some g => v.mul (fpValue g)
    | none => v
  let signed := fun (m : Nat) (neg : Bool) => BitVec.ofNat 32 (m + (if neg then 0x80000000 else 0))
  if stuck then (signed (largestFinite bf16) (decide (a < 0)), false)
  else
    let m := if bf16 then roundMag 7 v * 2 ^ 16 else roundMag 23 v
    if 0x7F800000 ≤ m then (signed (largestFinite bf16) (decide (v.num < 0)), true)
    else (signed m (decide (v.num < 0)), false)

/-- DRAIN (Table 3-8): the 64 values, after the open group is closed, and the overflows counted. -/
def CasTile.drain (t : CasTile) (factors : List Word) (bf16 : Bool) : List Word × Nat :=
  let v := (List.range 64).map (fun l =>
    drainLane (t.lanes.getD l 0) t.w (if factors.isEmpty then none else some (factors.getD l 0x3F800000))
      (t.bound.contains l) bf16)
  (v.map (·.1), (v.filter (·.2)).length)

/-- Exponent of a scale code. -/
def e8Exp (e : Nat) : Int := (e : Int) - 127

/-- The signed value presented on a row by a whole fire, or by the two halves of a nibble pair. -/
def rowVal (hi lo : List Elem) (pair : Bool) (r : Nat) : Int :=
  let l := (lo.getD r (false, 0)).val
  if pair then 16 * (hi.getD r (false, 0)).val + l else l

/-- What a fire needs of its tile and entry to form its contribution. -/
structure FireInput where
  tile : Tile
  /-- Cell code of output j on row r, or the full 8-bit weight of an MV8 pair (R100). -/
  codes : List (List Int)
  /-- Signed input by row. -/
  xs : List Int
  e8 : Nat
  extracted : List (Nat × Word)
  deriving DecidableEq, Repr

/-- Rill terms of one output (R100). -/
def rillTerms (f : FireInput) (j : Nat) : List Term :=
  let fe : Int := match f.tile.half with
    | .none => fmtExp f.tile.fmt .none
    | _ => 0
  let eo := e8Exp f.tile.listE8
  let ew := e8Exp (f.tile.scales.getD j 0)
  let wts := (f.tile.list.filter (fun e => e.out == j)).map (fun e =>
    (⟨f.xs.getD e.row 0 * e.code, e8Exp f.e8 + eo⟩ : Term))
  let ins := (f.extracted.map (fun x =>
    let p := fpParts x.2
    let q := (f.codes.getD x.1 []).getD j 0
    let cell : Term := ⟨if f.tile.scales.getD j 0 = 0 then 0 else p.1 * q, (p.2 - 23) + ew + fe⟩
    let lst := (f.tile.list.filter (fun e => e.out == j && e.row == x.1)).map (fun e =>
      (⟨p.1 * e.code, (p.2 - 23) + eo⟩ : Term))
    cell :: lst)).flatten
  wts ++ (match f.tile.half with
    | .low => []
    | _ => ins)

/-- Term of a combined count (R83). A scale of 0x00 on either side makes it an exact 0. -/
def countTerm (f : FireInput) (c : Int) (j : Nat) : Term :=
  let ew := f.tile.scales.getD j 0
  if ew = 0 || f.e8 = 0 then ⟨0, 0⟩
  else ⟨c, e8Exp ew + e8Exp f.e8 + fmtExp f.tile.fmt f.tile.half⟩

/-- Contributions of a fire, one for each tile of 64 outputs (R43, R100). -/
def fireContributions (f : FireInput) (counts : List Int) : List Contribution :=
  (List.range (f.tile.fmt.outs / 64)).map (fun t =>
    (List.range 64).map (fun l =>
      let j := 64 * t + l
      countTerm f (counts.getD j 0) j :: rillTerms f j))

/-- List entries applied with a non-zero input (RILL_WENTRIES, R113). -/
def listApplied (f : FireInput) : Nat :=
  (f.tile.list.filter (fun e => decide (f.xs.getD e.row 0 ≠ 0))).length

/-- Rill occupancy of a fire at the declared budget B with n outputs (R101). -/
def rillOccupancy (budget n : Nat) : Nat := max (ceilDiv budget 192) (ceilDiv (8 * n) 1024)

end Sys2Proof.Machine
end

