-- ==== Sys2Proof/Machine/Views.lean ====
section
/-!
DEFINITION. What registers read whose value the block keeps as structured state: each view gives the
word of a register of a block, or none where the register bank holds it.
-/

namespace Sys2Proof.Machine

open Sys2Proof

/-- A field of a register word. -/
def fld (v lo width : Nat) : Nat := v % 2 ^ width * 2 ^ lo

/-- A word from its fields. -/
def fields (l : List Nat) : Option Word := some (word (l.foldl (· + ·) 0))

/-- A core exists for register access once the map is valid (R26, R29). -/
def State.enabled (s : State) (c : Nat) : Bool := s.boot.goodValid && s.good c

/-- Table 1-6. -/
def viewIdentity (s : State) (o : Nat) : Option Word :=
  if o = Reg.GRADE then some (word (if s.boot.goodValid then s.goodCount else 0))
  else if o = Reg.FW_VERSION then some (word s.boot.fwVersion)
  else if Reg.SERIAL0 ≤ o ∧ o < 0x30 then some (word (s.nvm.serial / 2 ^ (8 * (o - Reg.SERIAL0))))
  else if Reg.GOOD_CORE_MAP0 ≤ o ∧ o < 0x148 then
    some (word (if s.boot.goodValid then s.nvm.goodMap / 2 ^ (8 * (o - Reg.GOOD_CORE_MAP0)) else 0))
  else none

/-- Table 11-8. MONITOR_ARMED is 1 while every die's monitor is armed. -/
def viewClocks (s : State) (o : Nat) : Option Word :=
  let k := s.clocks
  let domStatus := fun (d : Nat) => let x := s.dom d; fields [fld x.mhz 0 16, fld (flag x.locked) 16 1, fld (flag x.onSafe) 17 1]
  if o = Reg.CLK_STATUS then
    fields [flag ((List.range 4).all (fun d => (s.mon d).armed)), fld (flag k.safe) 1 1
      , fld (flag ((List.range 4).any (fun d => (s.mon d).ringFault))) 2 1
      , fld (flag k.hrefFault) 3 1, fld (flag k.pllFault) 4 1
      , fld k.faultDomain 5 6, fld k.faultDie 11 2]
  else if o = Reg.HREF_COUNT then fields [fld (s.mon 0).last 0 11, fld (s.mon 0).worst 16 11]
  else if o = Reg.RING_CAL then fields [fld (s.mon 0).window 0 16, fld (s.mon 0).start 16 16]
  else if o = Reg.RESET_CAUSE then fields [fld s.resetCause 0 5]
  else if o = Reg.PKG_GATE then fields [flag k.gates.pkg, fld k.gates.dies 1 4]
  else if o = Reg.DOM36_STATUS then domStatus 36
  else if o = Reg.DOM36_STATUS + 4 then domStatus 37
  else if o = Reg.DOM36_STATUS + 8 then domStatus 38
  else if o = Reg.DOM36_STATUS + 12 then domStatus 39
  else none

/-- Hottest die with its temperature, and hottest stack with its temperature, lowest index first. -/
def hottestOf (l : List (Nat × Int)) : Option (Nat × Int) :=
  l.foldl (fun m x => match m with
    | none => some x
    | some y => if y.2 < x.2 then some x else some y) none

/-- SHA-256 of the identity's public key, as a number (R399). -/
def Nvm.idHash (n : Nvm) : Nat := Crypto.natBE (Crypto.sha256 n.idPub)

/-- A trip slot is erased: it reads as all ones (R366). -/
def slotErased (b : List Byte) : Bool := b.all (fun x => x == 0xFF)
/-- A trip slot holds a completed record (R366). -/
def slotComplete (b : List Byte) : Bool := b.getD 62 0 == 0xA5
/-- A completed record not consumed. -/
def slotUnconsumed (b : List Byte) : Bool := slotComplete b && b.getD 63 0 == 0xFF

/-- Table 14-7. -/
def viewThermal (s : State) (o : Nat) : Option Word :=
  let dies := List.range 4
  if o = Reg.TH_STATUS then
    fields [maskOf 4 (fun d => decide (1 ≤ (s.therm d).state)), fld (maskOf 4 (fun d => decide (2 ≤ (s.therm d).state))) 4 4
      , fld (flag (dies.all (fun d => (s.therm d).calValid))) 8 1
      , fld (flag (dies.any (fun d => (s.therm d).calBusy))) 9 1
      , fld (flag (dies.any (fun d => !(s.therm d).railWarn.isEmpty))) 10 1
      , fld (flag (dies.any (fun d => !(s.therm d).failed.isEmpty) || (List.range 12).any (fun k => (s.stack k).sensorFail))) 11 1]
  else if o = Reg.STACK_STATE then
    fields [maskOf 12 (fun k => decide (1 ≤ (s.stack k).state)), fld (maskOf 12 (fun k => decide (2 ≤ (s.stack k).state))) 16 12]
  else if o = Reg.HOTTEST then
    let hd := hottestOf (dies.filterMap (fun d => (s.therm d).hottest.map (fun t => (d, t))))
    let hs := hottestOf ((List.range 12).filterMap (fun k => (s.stackTemp k).map (fun t => (k, t))))
    fields [fld ((hd.map (fun p => fieldOfInt 10 p.2)).getD 0) 0 10, fld ((hd.map (·.1)).getD 0) 10 2
      , fld ((hs.map (fun p => fieldOfInt 10 p.2)).getD 0) 16 10, fld ((hs.map (·.1)).getD 0) 26 4]
  else if o = Reg.TRIG_COUNT then some (word s.thermal.trigCount)
  else if o = Reg.MON_CAL then some 0
  else if o = Reg.TRIP_SLOTS then
    fields [maskOf 8 (fun i => slotErased (s.nvm.trips.getD i [])), fld (maskOf 8 (fun i => slotUnconsumed (s.nvm.trips.getD i []))) 8 8
      , fld s.nvm.tripCount 16 16]
  else if o = Reg.TRIP_DATA then
    let sel := (s.reg (Blk.thermal.at Reg.TRIP_SEL)).toNat
    some (word (Crypto.natLE (Crypto.slice (s.nvm.trips.getD (sel % 8) []) (4 * (sel / 8 % 16)) 4)))
  else none

/-- The drift bound of R306 in ns after t ns of holdover, rounded up. -/
def holdoverBound (t : Nat) : Nat :=
  50 + ceilDiv (2 * 10 ^ 10 * t + t * t) (2 * 10 ^ 18)

/-- A count saturating at 32 bits. -/
def sat32 (n : Nat) : Nat := min n 0xFFFFFFFF

/-- The boundary that NEXT_BOUNDARY shows: 0 for a group with no running plan (R310). -/
def State.selBoundary (s : State) : Nat :=
  let g := s.grp ((s.reg (Blk.time.at Reg.TICK_SEL)).toNat % 16)
  if g.current.isSome then g.next else 0

/-- Table 11-10. -/
def viewTime (s : State) (o : Nat) : Option Word :=
  let t := s.time
  let held := if t.ptp = 3 then t.ns - t.holdStart else 0
  if o = Reg.TIME_STATUS then fields [fld t.ptp 0 2, fld (flag t.slewing) 2 1, fld (flag t.offsetWarn) 3 1]
  else if o = Reg.TIME_NS_LO then some (word t.ns)
  else if o = Reg.EPOCH_LO then some (word t.epoch)
  else if o = Reg.RATE_ADJ then some (word (fieldOfInt 32 t.rateAdj))
  else if o = Reg.OFFSET_NS then some (word (fieldOfInt 32 (clampInt t.offset (-(2 ^ 31)) (2 ^ 31 - 1))))
  else if o = Reg.PATH_DELAY_NS then some (word (fieldOfInt 32 (clampInt t.delay (-(2 ^ 31)) (2 ^ 31 - 1))))
  else if o = Reg.MASTER_ID_LO then some (word ((t.master.map (·.identity)).getD 0))
  else if o = Reg.MASTER_ID_HI then some (word ((t.master.map (·.identity)).getD 0 / 2 ^ 32))
  else if o = Reg.HOLDOVER_S then some (word (held / 1000000000))
  else if o = Reg.HOLDOVER_BOUND_NS then some (word (if t.ptp = 3 then sat32 (holdoverBound held) else 0))
  else if o = Reg.NEXT_BOUNDARY_LO then some (word s.selBoundary)
  else none

/-- Table 10-16. -/
def viewPort (s : State) (o : Nat) : Option Word :=
  let p := s.port
  if o = Reg.PORT_STATUS then
    fields [flag p.linkUp, fld (flag p.fecLock) 1 1, fld (flag p.anDone) 2 1, fld (flag p.macsecUp) 3 1
      , fld s.time.ptp 4 2, fld (flag (p.addr4 != 0)) 6 1, fld (flag (p.addr6 != 0)) 7 1
      , fld (flag p.neighbour.isSome) 8 1, fld p.disc 9 3, fld (flag p.announced) 12 1]
  else if o = Reg.RBSY_STATUS then
    fields [flag s.rbsy, fld (flag (!s.counting || (!s.boot.isDone && decide (s.boot.phase ≤ 1)))) 1 1, fld (flag s.clocks.safe) 2 1
      , fld (flag s.switching) 3 1, fld (flag (decide (s.placesFree < 256))) 4 1, fld (flag (!s.boot.isDone)) 5 1]
  else if o = Reg.MCT_STATUS then
    fields [fld ((s.sessions.filter (·.isOpen)).length) 0 7, fld s.placesFree 8 13]
  else if o = Reg.TARGETS then fields [fld p.connected 0 16, fld p.failed 16 16]
  else none

/-- Bytes of plan store in use: current plans and staged uploads (R167). -/
def State.planBytes (s : State) : Nat :=
  (s.groups.map (fun p => ((p.2.current.map (·.bytes)).getD 0) + ((p.2.staged.map (·.upload.len)).getD 0))).foldl (· + ·) 0

/-- Table 6-10, package part. -/
def viewCar (s : State) (o : Nat) : Option Word :=
  if o = Reg.CAR_STATUS then
    fields [maskOf 12 (fun g => (s.grp g).current.isSome), fld (maskOf 12 (fun g => (s.grp g).suspended)) 12 12
      , fld (flag (s.groups.any (fun p => match p.2.current with
          | some c => decide (c.plan.format = 2)
          | none => false))) 24 1]
  else if o = Reg.PLAN_STORE then fields [fld (ceilDiv s.planBytes 1048576) 0 16, fld 6144 16 16]
  else if o = Reg.VERIFY_STATUS then
    match s.groups.find? (fun p => match p.2.staged with
        | some st => decide (st.phase = .verifying)
        | none => false) with
    | some p =>
      let all := ((p.2.staged.map (fun st => st.upload.len)).getD 0) / 32
      fields [fld p.1 0 4, 16, fld ((Config.freeValue 24 s.fresh).toNat % (all / 65536 + 1)) 8 24]
    | none => some 0
  else none

/-- Stride of a group's plan, and the phase of its running tick: k mod s (R164). -/
def Group.stride (g : Group) : Nat := ((g.current.map (·.plan.stride)).getD 1)
def Group.phase (g : Group) : Nat := (g.started - 1) % g.stride

/-- Table 6-10, group part. -/
def viewGrp (s : State) (i : Nat) (o : Nat) : Option Word :=
  let g := s.grp i
  let plan := g.current.map (·.plan)
  let v := g.variant
  if o = Reg.GRP_STATUS then
    fields [fld g.channels 0 12, fld g.kind 12 2, fld (flag g.current.isSome) 14 1
      , fld (flag (match g.staged with
          | some st => decide (st.phase = .verified)
          | none => false)) 15 1
      , fld (flag g.forced.isSome) 16 1, fld (flag g.suspended) 17 1
      , fld (flag (match plan with
          | some p => decide (p.format = 2)
          | none => false)) 18 1
      , fld ((plan.map (fun p => p.stride - 1)).getD 0) 19 3, fld g.phase 22 3, fld (flag g.refused) 25 1]
  else if o = Reg.PLAN_ID_LO then some (word ((plan.map (·.planId)).getD 0))
  else if o = Reg.PLAN_ID_HI then some (word ((plan.map (·.planId)).getD 0 / 2 ^ 32))
  else if o = Reg.PERIOD then fields [fld ((v.map (·.period)).getD 0) 0 17]
  else if o = Reg.CLOCK then fields [fld (if g.current.isSome then g.mhz else 0) 0 11]
  else if o = Reg.TICK_LO then some (word g.tick)
  else if o = Reg.RESERVE then some (word g.rres)
  else if o = Reg.CLEAN_COUNT then fields [fld g.clean 0 7]
  else none

/-- Core bound to a logical core of a group. -/
def Group.bound (g : Group) (l : Nat) : Option Nat := g.bind.get? l

/-- The fabric has been brought up: until its links have trained (R316), its registers show their reset values. -/
def State.fabricUp (s : State) : Bool := decide (3 < s.boot.phase)

/-- Table 7-7. -/
def viewUsher (s : State) (o : Nat) : Option Word :=
  let u := s.usher
  let f := s.fabric
  let sel := (s.reg (Blk.usher.at Reg.BIND_SEL)).toNat
  let rsel := (s.reg (Blk.usher.at Reg.RES_SEL)).toNat
  if o = Reg.USHER_STATUS then
    fields [flag u.computing.isSome, fld (flag (!u.ready.isEmpty)) 1 1, fld (flag f.detour) 2 1
      , fld (flag (!f.segDown.isEmpty)) 3 1]
  else if o = Reg.FENCE_COUNT then
    fields [fld ((s.cores.filter (fun p => p.2.fenced)).length) 0 10
      , fld ((s.cores.filter (fun p => p.2.group.isSome && p.2.lcore.isNone && s.good p.1)).length) 16 10]
  else if o = Reg.LAST_COMPUTE then fields [fld u.lastMicros 0 16, fld u.lastGroup 16 4, fld u.lastReason 20 3]
  else if o = Reg.CN_DIE_BYPASS then some (word (maskOf 4 (fun d => (f.segDown.get? (dieSegment d)).isSome)))
  else if o = Reg.CN_CLUSTER_BYPASS then some (word (maskOf 32 (fun c => (f.segDown.get? c).isSome)))
  else if o = Reg.BIND_INFO then
    let g := s.grp (sel % 16)
    let l := sel / 16 % 1024
    let b := g.bound l
    let st := g.standby.get? l
    fields [fld (b.getD 0x3FF) 0 10, fld (flag b.isSome) 10 1, fld (flag st.isSome) 11 1, fld (st.getD 0x3FF) 12 10]
  else if o = Reg.RES_INFO then
    let c := rsel % 4 * 8 + rsel / 4 % 8
    let port := rsel / 32 % 8
    let kind := portKind c port
    if !s.fabricUp then some 0
    else fields [fld (f.reserved.getD (c * 8 + port) 0) 0 11, fld (s.portCapacity c port) 11 11
      , fld (if kind = 6 then 0 else kind) 22 3]
  else none

/-- Fields of a calibration column. -/
def colWord (v : ColVal) : List Nat := [fld v.pTrim 0 5, fld v.nTrim 5 5, fld v.convTap 10 4]
def gainWord (v : ColVal) : List Nat := [fld v.g 0 16, fld (fieldOfInt 8 v.o) 16 8]

def State.arrays' (s : State) : List ArrayState := s.arrays.map (·.2)

/-- Table 5-5. A column above 529 or a core above 575 shows 0 (log 21). -/
def viewCal (s : State) (o : Nat) : Option Word :=
  let sel := (s.reg (Blk.cal.at Reg.CAL_SEL)).toNat
  let core := sel % 1024
  let k := (core * 16 + sel / 1024 % 16) * 2 + sel / 16384 % 2
  let a := (s.arr k).cal
  let col := sel / 131072 % 1024
  let ok := decide (core < 576 ∧ col < 530) && s.enabled core && !(s.core core).fenced
  let slot := a.sets.get? (sel / 32768 % 4)
  let count := fun (p : ArrayCal → Bool) => (s.arrays'.filter (fun x => p x.cal)).length
  let queued := fun (c : ArrayCal) => match c.run with
    | some r => decide (r.phase = .queued)
    | none => false
  let running := fun (c : ArrayCal) => match c.run with
    | some r => !decide (r.phase = .queued)
    | none => false
  if o = Reg.CAL_QUEUE then
    fields [fld (count queued) 0 15, fld (count running) 16 15, fld (flag s.startupDone) 31 1]
  else if o = Reg.CAL_EXTRAP then fields [fld (count (·.extrap)) 0 15, fld (count (fun a => a.extrap && a.aboveBound)) 16 15]
  else if o = Reg.LOAD_INDEX then
    fields ((List.range 4).map (fun d => fld (s.loadIndex.getD d 0) (8 * d) 7))
  else if Reg.ARRAY_STATE ≤ o ∧ o ≤ Reg.TARGET_GAIN ∧ ok = false then some 0
  else if o = Reg.ARRAY_STATE then
      fields [maskOf 4 (fun i => (a.sets.get? i).isSome), fld (flag a.interp) 4 1, fld (flag a.extrap) 5 1
        , fld (flag a.aboveBound) 6 1, fld (flag (queued a)) 7 1, fld (flag (running a)) 8 1, fld a.badStreak 9 2
        , fld a.slotLo 11 2, fld a.slotHi 13 2, fld (min 255 (a.suspectCols.length + a.suspectRows.length)) 15 8]
  else if o = Reg.SET_INFO then
    match slot with
    | some x => fields [fld (fieldOfInt 10 x.temp) 0 10, fld x.load 10 7, fld 1 17 1]
    | none => some 0
  else if o = Reg.SET_TIME then some (word ((slot.map (·.time)).getD 0))
  else if o = Reg.SET_COL then
    match slot with
    | some x => fields (colWord (x.cols.getD col ColVal.nominal) ++ [fld (flag (x.suspects.contains col)) 14 1])
    | none => some 0
  else if o = Reg.SET_GAIN then
    match slot with
    | some x => fields (gainWord (x.cols.getD col ColVal.nominal))
    | none => some 0
  else if o = Reg.SET_TOL then
    match slot with
    | some x => fields [fld x.csTol 0 16, fld x.refTol 16 8]
    | none => some 0
  else if o = Reg.TARGET_COL then
    match a.targets.get? col with
    | some v => fields (colWord v)
    | none => some 0
  else if o = Reg.TARGET_GAIN then
    match a.targets.get? col with
    | some v => fields (gainWord v)
    | none => some 0
  else none

/-- State of PROBE_STATUS: none, loading, sweeping, between sweeps. -/
def Probe.stateCode (p : Probe) : Nat :=
  if p.loading.isSome then 1 else if p.held.isNone then 0 else if p.sweeping then 2 else 3

/-- SPARES_LOW of a stack: fewer than 16 spare blocks left (R336). -/
def StackState.sparesLow (k : StackState) : Bool := decide (256 - k.retired < 16)

/-- Granules of one stack (R5); a scrub pass reads them all. -/
def stackGranules : Nat := 2500000000

/-- Table 13-10. -/
def viewErr (s : State) (o : Nat) : Option Word :=
  let stk := (s.reg (Blk.err.at Reg.STACK_SEL)).toNat % 16
  let core := (s.reg (Blk.err.at Reg.FENCE_SEL)).toNat % 1024
  let p := s.probe
  let packId := (p.held.map (·.id)).getD 0
  if o = Reg.ERR_STATUS then
    fields [flag ((List.range 12).any (fun k => decide (0 < (s.stack k).scrubPos)))
      , fld (flag (!s.poison.isEmpty)) 1 1
      , fld (flag ((List.range 12).any (fun k => (s.stack k).sparesLow))) 2 1
      , fld (flag p.sweeping) 3 1, fld (maskOf 12 (fun g => (s.grp g).redundant)) 4 12]
  else if o = Reg.POISONED then some (word s.poison.length)
  else if o = Reg.STACK_INFO then
    if stk < 12 then
      fields [fld (s.stack stk).retired 0 9, fld (flag (s.stack stk).sparesLow) 9 1
        , fld ((s.stack stk).scrubPos * 1000 / stackGranules) 16 10]
    else some 0
  else if o = Reg.FENCE_INFO then
    if core < 576 ∧ s.enabled core then
      let k := s.core core
      fields [fld (k.causes) 0 11, fld (flag k.fenced) 11 1, fld (flag k.testing) 12 1, fld (flag k.permanent) 13 1]
    else some 0
  else if o = Reg.PROBE_STATUS then fields [fld p.stateCode 0 2, fld p.sweeps 16 16]
  else if o = Reg.PROBE_ID_LO then some (word packId)
  else if o = Reg.PROBE_ID_HI then some (word (packId / 2 ^ 32))
  else if o = Reg.PROBE_SWEEP then fields [fld p.ran.length 0 10, fld p.failedCores.length 16 10]
  else none

/-- Slots that a stored record takes (R393). -/
def EvRec.slotCount (r : EvRec) : Nat := payloadSlots r.payload.length

/-- Slots committed. -/
def State.slotsHeld (s : State) : Nat := (s.nvm.records.map EvRec.slotCount).foldl (· + ·) 0

/-- Slots of the recorder (R391). -/
def recorderSlots : Nat := 65536

/-- Table 15-5. -/
def viewRecorder (s : State) (o : Nat) : Option Word :=
  let oldest := (s.nvm.records.head?.map (·.seq)).getD s.recorder.nextSeq
  if o = Reg.REC_STATUS then
    fields [flag (decide (recorderSlots ≤ s.slotsHeld)), fld (flag (!s.recorder.staging.isEmpty)) 1 1]
  else if o = Reg.NEXT_SEQ_LO then some (word s.recorder.nextSeq)
  else if o = Reg.OLDEST_SEQ_LO then some (word oldest)
  else if o = Reg.HELD then fields [fld s.slotsHeld 0 17]
  else if o = Reg.DROPPED then some (word (sat32 s.nvm.dropped))
  else if o = Reg.REPLACED then some (word (sat32 s.nvm.replaced))
  else if o = Reg.OPERATING_S_LO then some (word s.opS)
  else if o = Reg.REC_QUEUE then fields [fld s.recorder.staging.length 0 9, fld s.recorder.peak 16 9]
  else none

/-- Keys that hold ADMIN. -/
def Nvm.admins (n : Nvm) : Nat := (n.keys.filter (fun p => (p.2.roles).testBit 2)).length

/-- The signing-state copy in force: the valid one of higher sequence (R380). -/
def Nvm.signCopy (n : Nvm) : SignCopy :=
  if !n.signA.valid then n.signB
  else if !n.signB.valid then n.signA
  else if n.signB.seq > n.signA.seq then n.signB else n.signA

/-- Leaves of one tree (R375). -/
def treeLeaves : Nat := 2 ^ 20

/-- A leaf is available to sign with: one of the reserved block, of a block still to reserve, or of a
bottom tree that waits to take over (R379 to R381). -/
def State.idReady (s : State) : Bool :=
  s.sec.pufOk && !s.sec.reserving
  && (decide (s.sec.leaf < s.sec.blockEnd) || decide (s.nvm.signCopy.bottomEnd < treeLeaves) || s.sec.built)

/-- Table 15-6. -/
def viewSec (s : State) (o : Nat) : Option Word :=
  let n := s.nvm
  let slot := n.keys.get? ((s.reg (Blk.sec.at Reg.KEY_SEL)).toNat % 32)
  if o = Reg.SEC_STATUS then
    fields [flag s.sec.pufOk, fld (flag s.idReady) 1 1, fld (flag s.sec.reserving) 2 1, fld (flag s.sec.building) 3 1
      , fld (flag (s.boot.released && n.keys.all (fun p => p.2.custody))) 4 1]
  else if o = Reg.KEY_COUNT then fields [fld n.keys.length 0 6, fld n.admins 8 6]
  else if o = Reg.ID_TREE then fields [fld n.signCopy.bottomTree 0 20]
  else if o = Reg.ID_LEAF then fields [fld s.sec.leaf 0 21]
  else if o = Reg.ID_RESERVED then fields [fld n.signCopy.bottomEnd 0 21]
  else if o = Reg.SKIPPED then some (word n.skipped)
  else if Reg.ID_HASH0 ≤ o ∧ o < 0x40 then some (word (n.idHash / 2 ^ (8 * (o - Reg.ID_HASH0))))
  else if o = Reg.KEY_ID then some (word ((slot.map (·.id)).getD 0))
  else if o = Reg.KEY_INFO then
    match slot with
    | some k => fields [fld k.roles 0 3, fld k.levels 3 2, fld 1 5 1, fld (flag k.custody) 6 1]
    | none => some 0
  else none

/-- Table 1-9. -/
def viewDie (s : State) (d : Nat) (o : Nat) : Option Word :=
  let t := s.therm d
  if o = Reg.DIE_INFO then
    let good := if s.boot.goodValid then ((List.range 144).filter (fun i => s.good (d * 144 + i))).length else 0
    fields [fld d 0 2, fld d 2 2, fld d 4 2, fld (flag (d == 0)) 6 1, fld good 8 8]
  else if o = Reg.DIE_STATE then
    fields [flag s.clocks.safe, fld (flag (decide (1 ≤ t.state))) 1 1, fld (flag (decide (2 ≤ t.state))) 2 1
      , fld (flag (!s.fabric.linkWorks d false && !s.fabric.linkWorks d true && decide (3 < s.boot.phase))) 3 1
      , fld (maskOf 3 (fun j => (s.stack (3 * d + j)).failed)) 4 3]
  else none

/-- Table 12-6. -/
def viewBoot (s : State) (o : Nat) : Option Word :=
  let b := s.boot
  if o = Reg.BOOT_STATUS then
    fields [fld (if b.isDone then 15 else b.phase) 0 4, fld (flag b.inRom) 4 1, fld (flag b.fwValid) 5 1
      , fld (flag b.hold) 6 1, fld (flag b.waiting) 7 1, fld (flag b.isDone) 8 1]
  else if o = Reg.BOOT_COUNT then some (word s.nvm.bootCount)
  else if o = Reg.FW_FLOOR then some (word s.nvm.floor)
  else if o = Reg.HOLD_TEMP then fields [fld b.holdTemp 0 10]
  else if Reg.PHASE_END1 ≤ o ∧ o < 0x7C then some (word (b.ends.getD ((o - Reg.PHASE_END1) / 4 + 1) 0))
  else none

/-- Layers of the active instance of a group. -/
def State.layersOf (s : State) (g : Nat) : Nat :=
  ((s.inst g).active.map (fun x => x.load.manifest.layers)).getD 0

/-- Channels of a group, and those on a die. -/
def Group.chans (g : Group) : List Nat := maskBits 12 g.channels
def Group.dieChans (g : Group) (d : Nat) : List Nat := g.chans.filter (fun k => k / 3 == d)

/-- Attention entries of a group's active generation. -/
def State.attnOf (s : State) (g : Nat) : List AttnEnt :=
  match (s.inst g).active with
  | some x => x.load.manifest.attn
  | none => []

/-- Records of the phase that a group's tick runs (R164), with their indexes. -/
def Group.records (x : Group) : List (Nat × OpRec) :=
  match x.variant with
  | some v => if x.running then (phasesOf v.ops).getD x.phase [] else []
  | none => []

/-- Attention layers whose walks the running phase makes, in plan order (R204): those whose pages it streams. -/
def State.walkLayers (s : State) (g : Nat) : List AttnEnt :=
  (s.attnOf g).filter (fun a => (s.grp g).records.any (fun r =>
    r.2.args.layer == a.layer && (r.2.cls == clsAttn || (r.2.cls == clsMemRead && r.2.args.kv))))

/-- Walks of a walker in a group's tick, in order: layer, context, whether prefill, and slot (R204). -/
def State.walkList (s : State) (g w : Nat) : List (Nat × Nat × Bool × Nat) :=
  let x := s.grp g
  (s.walkLayers g).flatMap (fun a =>
    (x.walkSlots.filter (fun p => p.1 % 8 == w)).map (fun p => (a.layer, p.2, false, p.1))
    ++ (x.walkPre.filter (fun c => c % 8 == w)).map (fun c => (a.layer, c, true, 0)))

/-- A walker has walks of a running tick left. -/
def State.walkerBusy (s : State) (w : Nat) : Bool :=
  s.groups.any (fun p => p.2.running && decide (p.2.walked.getD w 0 < (s.walkList p.1 w).length))

/-- What CTX_INFO and CTX_LENGTH show of a context: the state of the last boundary, of a group that has boundaries
(R225). -/
def Ctx.view (c : Ctx) : CtxView :=
  ⟨c.group, c.budget, c.homeDie, c.policy, c.shift, c.length, c.tables.map (fun t => (t.1, t.2.length))⟩
def State.ctxShown (s : State) (i : Nat) : Option CtxView :=
  match s.ctxView.get? i, s.ctx? i with
  | some v, live => if (s.grp v.group).ticking then some v else live.map Ctx.view
  | none, some c => if (s.grp c.group).ticking then none else some c.view
  | none, none => none

/-- Table 8-10. -/
def viewWalk (s : State) (o : Nat) : Option Word :=
  let sel := (s.reg (Blk.walk.at Reg.CTX_SEL)).toNat
  let layer := sel / 4096 % 1024
  let ctx := (s.ctxShown (sel % 4096)).bind (fun c => if layer < s.layersOf c.group then some c else none)
  if o = Reg.WALK_STATUS then
    fields [fld (maskOf 8 s.walkerBusy) 0 8, fld (flag (s.groups.any (fun p => !p.2.lateWalks.isEmpty))) 8 1]
  else if o = Reg.SPILL_POOL then
    fields [fld ((8388608 - s.spill.lentGranules) * 32 / 1048576) 0 16, fld 256 16 16]
  else if o = Reg.CTX_INFO then
    match ctx with
    | some c => fields [fld (c.resident.getD layer 0) 0 10, fld c.budget 10 10, fld c.homeDie 20 2
        , fld c.policy 22 1, fld 1 23 1, fld c.shift 24 4]
    | none => some 0
  else if o = Reg.CTX_LENGTH then some (word ((ctx.map (·.length)).getD 0))
  else none

/-- The gate word of a core: bits for a disabled core read as 1 (R300). -/
def State.gateWord (s : State) (c : Nat) : Nat :=
  if !s.good c then 0x1FFFF
  else flag (s.clocks.gates.cores.testBit c) + 2 * (s.clocks.gates.engines.getD c 0 % 65536)

/-- Table 11-9. -/
def viewDieClk (s : State) (d : Nat) (o : Nat) : Option Word :=
  if o < 0x90 ∧ o % 16 = 4 then
    let x := s.dom (9 * d + o / 16)
    fields [fld x.mhz 0 12, fld (flag x.locked) 12 1, fld (flag x.onSafe) 13 1, fld (flag x.pending) 14 1]
  else if o = Reg.DIE_GATE then
    fields [flag (s.clocks.gates.dies.testBit d), fld (s.clocks.gates.clusters / 2 ^ (8 * d)) 8 8]
  else if o = Reg.GATE_CORE then
    let sel := (s.reg ((Blk.base (.dieClk ⟨d % 4, Nat.mod_lt _ (by decide)⟩)) + Reg.GATE_SEL)).toNat % 256
    some (word (if sel < 144 then s.gateWord (d * 144 + sel) else 0))
  else none

/-- Table 14-8. -/
def viewMon (s : State) (d : Nat) (base : Nat) (o : Nat) : Option Word :=
  let t := s.therm d
  if o = Reg.MON_STATUS then
    fields [flag t.calValid, fld (flag t.calBusy) 1 1, fld (flag (decide (1 ≤ t.state))) 2 1
      , fld (flag (decide (2 ≤ t.state))) 3 1, fld t.clusterWarn 4 8, fld (maskOf 12 t.failed.contains) 12 12]
  else if 0x140 ≤ o ∧ o < 0x300 ∧ 0x40 ≤ (o - 0x100) % 0x80 then
    let n := (o - 0x100) / 0x80
    let e := ((o - 0x100) % 0x80 - 0x40) / 4
    match t.results.get? (16 * n + e) with
    | some r => fields [fld r.value 0 12, fld r.code 12 12, fld (flag r.valid) 24 1, fld r.passSince 25 3, fld r.pass 28 4]
    | none => some 0
  else if o = Reg.PIPE0_MIN1US then fields [fld t.min1us 0 12]
  else if o = Reg.PIPE_SNAP then
    match t.snap with
    | some (v, p) => fields [fld v 0 12, fld p 16 12, fld 1 28 1]
    | none => some 0
  else if o = Reg.DROOP_LAST then fields [fld t.droop.1 0 12, fld t.droop.2 12 20]
  else if o = Reg.CAP_DATA then
    let sel := (s.reg (base + Reg.CAP_SEL)).toNat % 1024
    let full := fld (flag (decide (1024 ≤ t.capture.length))) 28 1
    match t.capture[sel]? with
    | some (v, p) => fields [fld v 0 12, fld p 16 12, full]
    | none => fields [full]
  else if 0x380 ≤ o ∧ o < 0x398 then
    let f := t.factors.getD ((o - 0x380) / 4) (0x8000, 0)
    fields [fld f.1 0 16, fld f.2 16 12]
  else none

/-- Table 1-10. -/
def viewMc (s : State) (k : Nat) (o : Nat) : Option Word :=
  let x := s.stack k
  if o = Reg.MC_STATUS then
    fields [flag x.trained, fld (flag x.inService) 1 1, fld (flag x.selfRefresh) 2 1, fld (flag x.failed) 3 1
      , fld (flag (match x.temp with
          | some t => decide (680 < t)
          | none => false)) 4 1
      , fld k 5 4, fld x.attempts 9 2]
  else if o = Reg.MC_TEMP then
    fields [fld ((x.temp.map (fieldOfInt 10)).getD 0) 0 10, fld (flag x.temp.isSome) 10 1, fld (flag x.sensorFail) 11 1]
  else if o = Reg.MC_SHARE then fields [fld x.weightShare 0 9, fld x.kvShare 16 9]
  else if o = Reg.MC_SPARES then fields [fld (256 - x.retired) 0 9, fld x.retired 16 9]
  else if o = Reg.MC_SCRUB_PASSES then some (word x.scrubPasses)
  else none

/-- Table 8-9. Restorations are read by the stacks of the group of a restoring context. -/
def viewSluice (s : State) (k : Nat) (o : Nat) : Option Word :=
  let x := s.stack k
  let onStack := fun (c : Ctx) => ((s.grp c.group).dieChans c.homeDie).contains k
  if o = Reg.SL_STATUS then
    fields [flag (!x.descs.isEmpty)
      , fld (flag (s.spill.queue.any (fun q => q.writing && ((s.ctx? q.ctx).map onStack).getD false)
          || s.contexts.any (fun p => decide (p.2.state = .suspending) && onStack p.2))) 1 1
      , fld (flag (s.contexts.any (fun p => decide (p.2.state = .restoring) && onStack p.2))) 2 1
      , fld x.descs.length 4 13]
  else none

/-- Table 7-9. -/
def viewDlink (s : State) (d : Nat) (south : Bool) (o : Nat) : Option Word :=
  let f := s.fabric
  let peer := linkPeer d south
  if o = Reg.DL_STATUS then
    fields [flag (f.linkTrained.testBit (linkKey d south)), fld (flag (f.linkWorks d south)) 1 1
      , fld (flag (f.segTrained && (laneSegment d south).all (fun k => (f.segDown.get? k).isNone))) 2 1
      , fld (if s.fabricUp then peer else 0) 4 2]
  else if o = Reg.DL_RESERVED then
    fields [fld (f.linkReserved.getD (linkKey d south) 0) 0 10
      , fld (f.linkReserved.getD (linkKey peer (!south)) 0) 16 10]
  else none

/-- Table 7-8. -/
def viewXbar (s : State) (c : Nat) (base : Nat) (o : Nat) : Option Word :=
  let f := s.fabric
  if o = Reg.MR_STATUS then
    if !s.fabricUp then some 0
    else fields [maskOf 5 (s.portUp c), fld (maskOf 4 (fun i => f.onStandby.contains (4 * c + i))) 5 4
      , fld (maskOf 4 (fun i => f.stageDead.contains (4 * c + i))) 9 4, fld (edgeKind c) 13 3]
  else if o = Reg.PORT_UTIL then
    let port := (s.reg (base + Reg.PORT_SEL)).toNat % 8
    let used := if f.utilSeed = 0 then 0 else (Config.freeValue 10 (256 * f.utilSeed + c * 8 + port)).toNat % 1001
    fields [fld used 0 10, fld (f.reserved.getD (c * 8 + port) 0) 16 11]
  else none

/-- Table 6-11. -/
def viewCarq (s : State) (c : Nat) (o : Nat) : Option Word :=
  let k := s.core c
  if o = Reg.CORE_STATUS then
    fields [fld (k.group.getD 0xF) 0 4, fld (flag k.fenced) 4 1, fld (flag k.running) 5 1, fld (flag k.maint) 6 1
      , fld (flag k.waiting) 7 1, fld (k.lcore.getD 0x3FF) 8 10]
  else if o = Reg.OP_INDEX then some (word k.opIndex)
  else if o = Reg.LAST_SLIP then some (word k.slip)
  else if o = Reg.CREDIT then some (word (fieldOfInt 32 k.credit))
  else none

/-- The group of a core runs a v2 plan. -/
def State.compat (s : State) (c : Nat) : Bool :=
  match (s.core c).group with
  | some g => match (s.grp g).current with
    | some p => decide (p.plan.format = 2)
    | none => false
  | none => false

def ArrPhase.code : ArrPhase → Nat
  | .empty => 0 | .loading => 1 | .loaded => 2 | .firing => 3

/-- Kind of a column in COL_INFO. -/
def colKind (p : Nat) : Nat := if p < 512 then 0 else if p < 522 then 1 else if p < 530 then 2 else 3

/-- State of an array in ENG_STATUS: it fires while a fire of it is split or replayed. -/
def EngState.showPhase (x : EngState) (a : ArrayState) (k : Nat) : Nat :=
  if x.split.any (fun p => arrKey p.op.core p.op.eng p.op.arrB == k)
    || x.replays.any (fun p => arrKey p.op.core p.op.eng p.op.arrB == k) then ArrPhase.firing.code
  else a.phase.code

/-- A dense step that the engine fires for is open on some tile of its core (R55). -/
def State.denseOpen (s : State) (c : CoreIx) (e : EngIx) : Bool :=
  (s.core c.val).tiles.any (fun t => t.2.step.any (fun op => op.dense && op.eng == e))

/-- Table 2-10. ROW_INFO shows the row's own number for a home row that a spare has replaced (DESIGN CHOICE: Table 2-10
names none for it; log 131). -/
def viewEng (s : State) (c : CoreIx) (e : EngIx) (base : Nat) (o : Nat) : Option Word :=
  let x := s.eng (engKey c e)
  let ar := fun (b : Bool) => s.arr (arrKey c e b)
  let tol := fun (b : Bool) => fields [fld (ar b).cal.csTol 0 16, fld (ar b).cal.refTol 16 8]
  if o = Reg.ENG_STATUS then
    fields [fld (x.showPhase (ar false) (arrKey c e false)) 0 2, fld (x.showPhase (ar true) (arrKey c e true)) 2 2
      , fld (flag (s.compat c.val)) 4 1, fld (flag x.splitActive) 5 1, fld (flag (s.denseOpen c e)) 6 1
      , fld (flag (s.core c.val).fenced) 7 1]
  else if o = Reg.TOL_A then tol false
  else if o = Reg.TOL_B then tol true
  else if o = Reg.REPAIR_SUMMARY then
    let a := (ar false).cal
    let b := (ar true).cal
    fields [fld a.colMap.length 0 5, fld a.rowMap.length 5 4, fld b.colMap.length 9 5, fld b.rowMap.length 14 4
      , fld (flag a.exhausted) 18 1, fld (flag b.exhausted) 19 1]
  else if o = Reg.COL_INFO then
    let sel := (s.reg (base + Reg.COL_SEL)).toNat
    let p := sel % 1024
    let a := (ar (decide (sel / 1024 % 2 = 1))).cal
    if 545 < p then some 0
    else
      let gone := if p < 530 then (spareOf a.colMap p).isSome else a.badSpares.contains (p - 530)
      let serves := if p < 530 then (if gone then none else some p) else a.colMap.get? (p - 530)
      let v := a.inForce.getD p ColVal.nominal
      fields [fld (serves.getD 0x3FF) 0 10, fld (colKind p) 10 2, fld (flag gone) 12 1
        , fld v.pTrim 13 5, fld v.nTrim 18 5, fld v.convTap 23 4]
  else if o = Reg.ROW_INFO then
    let sel := (s.reg (base + Reg.ROW_SEL)).toNat
    let p := sel % 512
    let a := (ar (decide (sel / 512 % 2 = 1))).cal
    if 263 < p then some 0
    else if p < 256 then fields [fld p 0 8, fld (flag (spareOf a.rowMap p).isSome) 9 1]
    else
      match a.rowMap.get? (p - 256) with
      | some r => fields [fld r 0 8, fld 1 10 1]
      | none => fields [fld 1 8 1, fld 1 10 1]
  else none

/-- Table 3-10. A tile's open group is the lowest-numbered group with members. -/
def viewCas (s : State) (c : Nat) (base : Nat) (o : Nat) : Option Word :=
  let k := s.core c
  let sel := (s.reg (base + Reg.TILE_SEL)).toNat
  let tile := k.tiles.getD (sel % 64) CasTile.init
  if o = Reg.CAS_STATUS then
    fields [flag (k.tiles.any (fun t => !t.2.members.isEmpty)), fld (flag (k.tiles.any (fun t => t.2.sat))) 1 1
      , fld (flag (k.tiles.any (fun t => t.2.ufl))) 2 1, fld (flag (s.compat c)) 3 1]
  else if o = Reg.TICK_SAT_LO then some (word k.snap.sat)
  else if o = Reg.TICK_SAT_HI then some (word (k.snap.sat / 2 ^ 32))
  else if o = Reg.TICK_UFL_LO then some (word k.snap.ufl)
  else if o = Reg.TICK_UFL_HI then some (word (k.snap.ufl / 2 ^ 32))
  else if o = Reg.TILE_INFO then
    let n := match tile.openGroups with
      | [] => 0
      | g :: _ => (tile.groupMembers g).length
    fields [fld (fieldOfInt 12 tile.w) 0 12, fld (if tile.g = 16 then 2 else if tile.g = 8 then 1 else 0) 12 2
      , fld (flag tile.sat) 14 1, fld (flag tile.ufl) 15 1, fld (flag tile.cleared) 16 1, fld n 17 4]
  else if o = Reg.LANE_SNAP0 then some (word (fieldOfInt 96 k.snap.lane))
  else if o = Reg.LANE_SNAP1 then some (word (fieldOfInt 96 k.snap.lane / 2 ^ 32))
  else if o = Reg.LANE_SNAP2 then some (word (fieldOfInt 96 k.snap.lane / 2 ^ 64))
  else none

/-- Table 4-6. -/
def viewCor (s : State) (c : CoreIx) (base : Nat) (o : Nat) : Option Word :=
  let k := s.core c.val
  let sel := (s.reg (base + Reg.DRIFT_SEL)).toNat
  let e : Nat := sel % 16
  let a := s.arr ((c.val * 16 + e) * 2 + sel / 16 % 2)
  let col := sel / 32 % 1024
  let d := a.cal.drift
  let kind := (k.group.map (fun g => (s.grp g).kind)).getD 0
  let plan := k.group.bind (fun g => (s.grp g).current)
  if o = Reg.COR_STATUS then
    fields [flag (decide (0 < k.rillClocks))
      , fld (flag ((List.range 16).any (fun i => !(s.eng (c.val * 16 + i)).replays.isEmpty
          || !(s.eng (c.val * 16 + i)).split.isEmpty) || k.tiles.any (fun t => t.2.pending.isSome))) 1 1
      , fld (flag (decide (kind = 1 ∧ plan.isSome))) 2 1, fld (flag ((k.group.map (fun g => (s.grp g).refused)).getD false)) 3 1, fld (flag (s.compat c.val)) 4 1
      , fld (flag ((List.range 32).any (fun i => (s.arr (c.val * 32 + i)).cal.drift.limit))) 5 1]
  else if o = Reg.LAST_REPLAY then some (word k.lastReplay)
  else if o = Reg.DRIFT_ARRAY then
    fields [fld d.gA 0 16, fld (fieldOfInt 8 d.oA) 16 8, fld (flag d.limit) 24 1, fld (flag d.stale) 25 1]
  else if o = Reg.DRIFT_COLUMN then
    if col < 530 then
      let v := colVal a.cal col
      fields (gainWord v ++ [fld (a.cal.convStep.getD col 100) 24 8])
    else some 0
  else if o = Reg.DRIFT_EST then fields [fld (fieldOfInt 16 d.gamma) 0 16, fld (fieldOfInt 16 d.delta) 16 16]
  else if o = Reg.REF_MASK then some (word (maskOf 8 d.mask.contains))
  else none

/-- Records that a core's Carousel issues in the running tick: those of the logical core it carries. -/
def State.coreRecords (s : State) (c : Nat) : List (Nat × OpRec) :=
  let k := s.core c
  match k.group, k.lcore with
  | some g, some l => if k.running then (s.grp g).records.filter (fun r => r.2.lcore == l) else []
  | _, _ => []

/-- The core performs ASSIGN for some layer of the running phase (R32, R146). -/
def State.isRouter (s : State) (c : Nat) : Bool := (s.coreRecords c).any (fun r => r.2.cls == clsAssign)

/-- Table 1-11. The unit is busy, or samples, from the issue of its record to the core's next (log 130). -/
def viewVec (s : State) (c : Nat) (o : Nat) : Option Word :=
  let k := s.core c
  if o = Reg.VU_STATUS then
    fields [flag (k.running && decide (clsVecElem ≤ k.opClass) && decide (k.opClass ≤ clsAssign))
      , fld (flag (k.running && decide (k.opClass = clsSample))) 1 1, fld (flag (s.isRouter c)) 2 1]
  else none

/-- Table 8-8. -/
def viewSe (s : State) (c : Nat) (o : Nat) : Option Word :=
  if o = Reg.SE_STATUS then
    match (s.core c).walk with
    | some w => fields [1, fld w.slot 1 11, fld w.layer 12 10
        , fld (flag (!((s.core c).nextPage.any PageIn.complete))) 22 1]
    | none => some 0
  else none

/-- Table 13-11. -/
def viewLm (s : State) (c : Nat) (o : Nat) : Option Word :=
  if o = Reg.PROBE_CORE then fields [fld (s.core c).probeResult 0 2, fld (s.core c).probeFirst 16 16]
  else none

/-- Table 7-10. The router of a disabled core is in pass-through (R13). -/
def viewCrt (s : State) (c : Nat) (o : Nat) : Option Word :=
  let k := s.core c
  let dir := stageDir (c % 18)
  let st := stageCores dir
  let key := dirKey (c / 18) dir
  if o = Reg.CR_STATUS then
    let moved := s.fabric.onStandby.contains key
    let dead := s.fabric.stageDead.contains key
    if !s.fabricUp then some 0
    else fields [flag (k.passThrough || k.fenced || !s.good c), fld (flag k.stopped) 1 1
      , fld (flag (decide (dir ≠ 0 ∧ c % 18 = st.1) && !moved && !dead)) 2 1
      , fld (flag (decide (dir ≠ 0 ∧ c % 18 = st.2) && moved && !dead)) 3 1, fld (flag k.stageFault) 4 1
      , fld dir 5 3]
  else none

/-- The structured view of a register of a block. -/
def State.view (s : State) (b : Blk) (o : Nat) : Option Word :=
  match b with
  | .identity => viewIdentity s o
  | .clocks => viewClocks s o
  | .thermal => viewThermal s o
  | .time => viewTime s o
  | .port => viewPort s o
  | .car => viewCar s o
  | .usher => viewUsher s o
  | .cal => viewCal s o
  | .err => viewErr s o
  | .recorder => viewRecorder s o
  | .sec => viewSec s o
  | .grp g => viewGrp s g.val o
  | .die d => viewDie s d.val o
  | .boot => viewBoot s o
  | .walk => viewWalk s o
  | .dieClk d => viewDieClk s d.val o
  | .mon d => viewMon s d.val b.base o
  | .mc k => viewMc s k.val o
  | .sluice k => viewSluice s k.val o
  | .dlink d south => viewDlink s d.val south o
  | .xbar c => viewXbar s c.val b.base o
  | .carq c => viewCarq s c.val o
  | .eng c e => viewEng s c e b.base o
  | .cas c => viewCas s c.val b.base o
  | .cor c => viewCor s c b.base o
  | .vec c => viewVec s c.val o
  | .se c => viewSe s c.val o
  | .lm c => viewLm s c.val o
  | .crt c => viewCrt s c.val o

end Sys2Proof.Machine
end

