-- ==== Sys2Proof/Machine/Regs.lean ====
section
/-!
DEFINITION. Register access (R9, R10, R29): what a read returns and clears, what a write changes, and the
writes that the spec refuses, clamps or defers.
-/

namespace Sys2Proof.Machine

open Sys2Proof

/-! ### Reads -/

/-- The live 64-bit value behind a low half whose reading latches the high half. -/
def State.live64 (s : State) (b : Blk) (o : Nat) : Option Nat :=
  let w := some (s.wide.getD (b.at o) 0)
  match b with
  | .mc _ => if o = Reg.MC_READS_LO ∨ o = Reg.MC_WRITES_LO then w else none
  | .vec _ => if o = Reg.VU_RECORDS_LO then w else none
  | .eng _ _ => if o = Reg.FIRES_LO then w else none
  | .cas _ => if o = Reg.CONTRIB_LO then w else none
  | .se _ => if o = Reg.SE_PAGES_LO then w else none
  | .sluice _ => if o = Reg.SL_GRANULES_LO then w else none
  | .port => if o = Reg.RX_FRAMES_LO ∨ o = Reg.TX_FRAMES_LO then w else none
  | .mon _ => if o = Reg.DROOP_TIME_LO then w else none
  | .grp g => if o = Reg.TICK_LO then some (s.grp g.val).tick else none
  | .time =>
    if o = Reg.TIME_NS_LO then some s.time.ns
    else if o = Reg.EPOCH_LO then some s.time.epoch
    else if o = Reg.NEXT_BOUNDARY_LO then some s.selBoundary
    else none
  | .recorder =>
    if o = Reg.NEXT_SEQ_LO then some s.recorder.nextSeq
    else if o = Reg.OLDEST_SEQ_LO then some ((s.nvm.records.head?.map (·.seq)).getD s.recorder.nextSeq)
    else if o = Reg.OPERATING_S_LO then some s.opS
    else none
  | _ => none

/-- The value a register shows. -/
def State.regValue (s : State) (b : Blk) (o : Nat) (r : RegDesc) : Word :=
  let v := match s.live64 b o with
    | some n => word n
    | none => (s.view b o).getD (s.reg (b.at o))
  if r.acc = .wo then 0 else v

/-- The per-core block of a core that is not enabled (R29). -/
def State.blkDisabled (s : State) (b : Blk) : Bool :=
  match b.core? with
  | some c => !s.enabled c.val
  | none => false

/-- Word read from an address: 0 for an unassigned offset and for a disabled core (R29). -/
def State.readReg (s : State) (a : Nat) : Word :=
  match locate a with
  | none => 0
  | some (b, o) =>
    if s.blkDisabled b then 0
    else match b.find o with
      | some r => s.regValue b o r
      | none => 0

/-- What reading an address changes: an RC register clears to its reset value (R10), and a low half
latches its high half (with the fraction, for device time: R310). -/
def State.readEffect (s : State) (a : Nat) : State :=
  match locate a with
  | none => s
  | some (b, o) =>
    if s.blkDisabled b then s
    else match b.find o with
      | none => s
      | some r =>
        let s1 := if r.acc = .rc then { s with regs := s.regs.del a } else s
        match s.live64 b o with
        | none => s1
        | some n =>
          let s2 := s1.setReg (a + 4) (word (n / 2 ^ 32))
          if b = .time ∧ o = Reg.TIME_NS_LO then
            s2.setReg (Blk.time.at Reg.TIME_FRAC) (word (s.time.frac / 2 ^ 32))
          else s2

/-- Read words from an address upwards, each with its effect. -/
def State.readWords : Nat → Nat → State → List Nat × State
  | 0, _, s => ([], s)
  | n + 1, a, s =>
    let r := State.readWords n (a + 4) (s.readEffect a)
    ((s.readReg a).toNat :: r.1, r.2)

/-! ### Writes -/

/-- The value a masked write leaves in the writable fields of a register. -/
def mergeWrite (old value mask fieldMask : Word) : Word :=
  let m := mask &&& fieldMask
  (old &&& ~~~m) ||| (value &&& m)

/-- Hold a field of a word within a range. -/
def holdField (w : Word) (lo width : Nat) (r : Nat × Nat) : Word :=
  let v := w.toNat / 2 ^ lo % 2 ^ width
  word (w.toNat - v * 2 ^ lo + holdIn r v * 2 ^ lo)

/-- The gate state and the group of each core judged as R300 does. -/
def State.gatesOk (s : State) (g : Gates) : Bool :=
  let coreOff := fun (c : Nat) => !s.good c || g.cores.testBit c
  let clusterOff := fun (c : Nat) => g.clusters.testBit c
  let dieOff := fun (d : Nat) => g.dies.testBit d
  (!g.pkg || (List.range 4).all dieOff)
  && (List.range 4).all (fun d => !dieOff d || (List.range 8).all (fun i => clusterOff (8 * d + i)))
  && (List.range 32).all (fun c => !clusterOff c || (List.range 18).all (fun i => coreOff (18 * c + i)))
  && (List.range 576).all (fun c => !s.good c || !g.cores.testBit c || decide (g.engines.getD c 0 % 65536 = 65535))
  && s.cores.all (fun p => p.2.group.isNone
      || (!g.pkg && !dieOff (p.1 / 144) && !clusterOff (p.1 / 18) && !g.cores.testBit p.1
          && decide (g.engines.getD p.1 0 % 65536 = 0)))

/-- Take a gate state if R300 allows it, otherwise ST_CONFLICT. -/
def State.tryGates (s : State) (g : Gates) : State × Status :=
  if s.gatesOk g then ({ s with clocks := { s.clocks with gates := g } }, .ok) else (s, .conflict)

/-- Set bits of a mask from the low bits of a value. -/
def setBits (m lo width v : Nat) : Nat :=
  m - m / 2 ^ lo % 2 ^ width * 2 ^ lo + v % 2 ^ width * 2 ^ lo

/-- Sequence entries of a die: the enabled inputs of each converter, in order (R368). -/
def State.seqInputs (s : State) (d : DieIx) (n : Nat) : List Nat :=
  ((List.range 16).map (fun e => (s.reg ((Blk.mon d).at (0x100 + n * 0x80 + 4 * e))).toNat)).filterMap
    (fun w => if w / 32 % 2 = 1 then some (w % 32) else none)

/-- Every die diode is in an enabled entry and converted at least once every 100 µs: a pass lasts at
most 16 µs, so an enabled entry is enough (R368). -/
def State.seqOk (s : State) (d : DieIx) : Bool :=
  (List.range 12).all (fun i => (List.range 4).any (fun n => (s.seqInputs d n).contains i))

/-- A throttled variant of a current or staged plan that was verified above a clock (R308). -/
def State.throttleInUse (s : State) (mhz : Nat) : Bool :=
  let bad := fun (p : PlacedPlan) => (p.plan.variant 2).isSome && decide (mhz < p.throttle)
  s.groups.any (fun p => (match p.2.current with
      | some c => bad c
      | none => false)
    || (match p.2.staged.bind (·.plan) with
      | some c => bad c
      | none => false))

/-- The thresholds after a write (R357): each entry value held at its default, and the write ignored
where THROTTLE would stand within 5 °C of WARN. -/
def threshWrite (old new : Word) (warnMax throttleMax : Nat) : Word :=
  let w := min warnMax (new.toNat % 256)
  let t := min throttleMax (new.toNat / 256 % 256)
  if t < w + 5 then old else word (old.toNat / 65536 * 65536 + t * 256 + w)

/-- Defer a write to a boundary of a group, or of any group; where no such group runs it is made at
once. -/
def State.deferWrite (s : State) (a : Nat) (v : Word) (group : Option Nat) (later : Bool) : State :=
  if later then { s with deferred := s.deferred ++ [⟨a, v, group⟩] } else s.setReg a v

/-- The value a masked write starts from: the latest deferred value, or the value in force. -/
def State.writeBase (s : State) (a : Nat) : Word :=
  match (s.deferred.filter (fun d => d.addr == a)).getLast? with
  | some d => d.value
  | none => s.reg a

/-- Writes to the clocks block. -/
def writeClocks (s : State) (o : Nat) (value mask : Word) : Option (State × Status) :=
  let a := Blk.clocks.at o
  let new := mergeWrite (s.reg a) value mask 0x7FF
  if o = Reg.PKG_THROTTLE then
    if new.toNat < (s.reg a).toNat ∧ s.throttleInUse new.toNat = true then some (s, .conflict)
    else some (s.setReg a new, .ok)
  else if o = Reg.CORE_IDLE then
    let s1 := s.setReg a new
    some (allDies.foldl (fun acc d => if (s1.dieGroups d.val).isEmpty then acc.applyDie d else acc) s1, .ok)
  else if o = Reg.RINGMASTER_MHZ then
    let v := holdIn (400, 1200) new.toNat
    let s1 := s.setReg a (word v)
    some (if s1.clocks.safe then s1 else s1.updDom 39 (fun x => { x with mhz := v }), .ok)
  else if o = Reg.PKG_GATE then
    let g := s.clocks.gates
    let m := mergeWrite (word (flag g.pkg + 2 * (g.dies % 16))) value mask 0x1F
    some (s.tryGates { g with pkg := decide (m.toNat % 2 = 1), dies := m.toNat / 2 % 16 })
  else none

/-- Writes to a die's clock block. -/
def writeDieClk (s : State) (d : DieIx) (o : Nat) (value mask : Word) : Option (State × Status) :=
  let b := Blk.dieClk d
  let a := b.at o
  let g := s.clocks.gates
  if o < 0x90 ∧ o % 16 = 0 then
    let fm : Word := if o / 16 = 8 then 1 else 0x1FFF
    some ((s.setReg a (mergeWrite (s.reg a) value mask fm)).touchDie d, .ok)
  else if o = 0x8 ∨ o = 0x18 then
    let new := mergeWrite (s.writeBase a) value mask 0x7FF
    let new := holdField (holdField new 1 4 (0, 10)) 5 6 (30, 63)
    some (s.deferWrite a new none (!(s.dieGroups d.val).isEmpty), .ok)
  else if o = Reg.DIE_GATE then
    let old := flag (g.dies.testBit d.val) + 256 * (g.clusters / 2 ^ (8 * d.val) % 256)
    let m := (mergeWrite (word old) value mask 0xFF01).toNat
    some (s.tryGates { g with dies := setBits g.dies d.val 1 m, clusters := setBits g.clusters (8 * d.val) 8 (m / 256) })
  else if o = Reg.GATE_CORE then
    let sel := (s.reg (b.at Reg.GATE_SEL)).toNat % 256
    let c := d.val * 144 + sel
    if 144 ≤ sel ∨ s.good c = false then some (s, .ok)
    else
      let m := (mergeWrite (word (s.gateWord c)) value mask 0x1FFFF).toNat
      some (s.tryGates { g with cores := setBits g.cores c 1 m, engines := g.engines.put c (m / 2 % 65536) })
  else none

/-- Writes to the thermal block. -/
def writeThermal (s : State) (o : Nat) (value mask : Word) : Option (State × Status) :=
  let a := Blk.thermal.at o
  if o = Reg.THRESH_DIE then
    some (s.setReg a (threshWrite (s.reg a) (mergeWrite (s.reg a) value mask 0xFFFF) 95 105), .ok)
  else if o = Reg.THRESH_STACK then
    some (s.setReg a (threshWrite (s.reg a) (mergeWrite (s.reg a) value mask 0xFFFF) 85 95), .ok)
  else if o = Reg.TRIG_CTRL then
    let new := mergeWrite (s.reg a) value mask 0xFFFF803F
    some (s.setReg a (if new.toNat % 4 = 3 then word (new.toNat - 3) else new), .ok)
  else if o = Reg.TRIG_TIME_HI then
    let new := mergeWrite (s.reg a) value mask 0xFFFFFFFF
    let t := new.toNat * 2 ^ 32 + (s.reg (Blk.thermal.at Reg.TRIG_TIME_LO)).toNat
    let s1 := s.setReg a new
    some ({ s1 with thermal := { s1.thermal with armed := some (max t (s.time.ns + 10000)) } }, .ok)
  else if o = Reg.MON_CAL then
    let m := value &&& mask
    some (allDies.foldl (fun acc d =>
      if m.getLsbD d.val then acc.updTherm d.val (fun t => { t with calBusy := true }) else acc) s, .ok)
  else none

/-- Writes to a die's monitor block. -/
def writeMon (s : State) (d : DieIx) (o : Nat) (value mask : Word) : Option (State × Status) :=
  let a := (Blk.mon d).at o
  if 0x100 ≤ o ∧ o < 0x300 ∧ (o - 0x100) % 0x80 < 0x40 then
    let s1 := s.setReg a (mergeWrite (s.reg a) value mask 0x3F)
    if s1.seqOk d then some (s1, .ok) else some (s, .conflict)
  else if o = Reg.PIPE_CTRL then
    let new := mergeWrite (s.reg a) value mask 0x1FFF
    let s1 := s.setReg a new
    some (if mask.getLsbD 12 then
        s1.updTherm d.val (fun t => { t with capArmed := new.getLsbD 12, capture := [] })
      else s1, .ok)
  else none

/-- Write a register under a mask (R10, R29): the new state and the status of the access. -/
def State.writeReg (s : State) (a : Nat) (value mask : Word) : State × Status :=
  match locate a with
  | none => (s, .ok)
  | some (b, o) =>
    if s.blkDisabled b then (s, .noResource)
    else match b.find o with
      | none => (s, .ok)
      | some r =>
        if r.acc = .ro ∨ r.acc = .rc then (s, .ok)
        else
          let plain := (s.setReg a (mergeWrite (s.reg a) value mask r.mask), Status.ok)
          match b with
          | .clocks => (writeClocks s o value mask).getD plain
          | .dieClk d => (writeDieClk s d o value mask).getD plain
          | .thermal => (writeThermal s o value mask).getD plain
          | .mon d => (writeMon s d o value mask).getD plain
          | .port =>
            if o = Reg.EVT_CAUSE then (s.clearCauses (value &&& mask), .ok) else plain
          | .cal =>
            let new := mergeWrite (s.writeBase a) value mask r.mask
            if o = Reg.CAL_CTRL then
              (s.deferWrite a (holdField new 1 4 (4, 12)) none s.anyRuns, .ok)
            else if o = Reg.CAL_BOUNDS then (s.deferWrite a new none s.anyRuns, .ok)
            else plain
          | .err =>
            if o = Reg.SCRUB_CTRL then
              (s.setReg a (holdField (mergeWrite (s.reg a) value mask r.mask) 0 8 (1, 168)), .ok)
            else plain
          | .eng c _ =>
            if o = Reg.ENG_CTRL then
              let g := (s.core c.val).group
              (s.deferWrite a (mergeWrite (s.writeBase a) value mask r.mask) g
                (match g with
                  | some i => (s.grp i).current.isSome
                  | none => false), .ok)
            else plain
          | _ => plain

/-- Make the deferred writes that a boundary of a group brings into force: those of the group, and
those of any group, but for a die's clock block only where the group has cores on the die. -/
def State.applyDeferred (s : State) (g : Nat) : State :=
  let due := fun (d : Deferred) => match d.group with
    | some i => decide (i = g)
    | none => match locate d.addr with
      | some (.dieClk die, _) => (s.dieGroups die.val).contains g
      | _ => true
  (s.deferred.filter due).foldl (fun acc d => acc.setReg d.addr d.value)
    { s with deferred := s.deferred.filter (fun d => !due d) }

end Sys2Proof.Machine
end

