-- ==== Sys2Proof/Machine/HostBase.lean ====
section
/-!
DEFINITION. Host commands in common (R268 to R281): the answer a command leaves, the opcodes with their
versions, roles and timing, and the group a command concerns.
-/

namespace Sys2Proof.Machine

open Sys2Proof

/-- First point of a grid from an epoch, of a period in ns, that is not earlier than a time (R19). -/
def gridAt (epoch period t : Nat) : Nat := epoch + ceilDiv (t - epoch) period * period

/-- Period of a variant in ns. -/
def Variant.ns (v : Variant) : Nat := v.period * 1000

/-- Nominal period of a plan in ns. -/
def PlacedPlan.nominalNs (p : PlacedPlan) : Nat := ((p.plan.variant 0).map Variant.ns).getD 0

/-- The next boundary: the first on the grid of the running variant that leaves the tick its period (R162);
a suspended group keeps the nominal grid. -/
def State.nextBoundary (s : State) (g b : Nat) : Nat :=
  let x := s.grp g
  match x.current, x.variant with
  | some p, some v =>
    let per := if x.suspended then p.nominalNs else v.ns
    gridAt s.time.epoch per (b + per)
  | _, _ => 0

/-- End of the tick that a boundary starts: the group's next boundary after it under the variant that runs (log 142). -/
def State.tickEnd (s : State) (g : Nat) : Nat := s.nextBoundary g (s.grp g).boundary

/-- What processing a command leaves: the state, the reply's status, DETAIL and results, whether the
reply waits for work the command started, and what happens once the reply has been sent. -/
structure Ans where
  s : State
  st : Status
  detail : Nat := 0
  body : List Nat := []
  waits : Bool := false
  after : State → State := id

/-- A refusal: nothing changes. -/
def Ans.fail (s : State) (st : Status) : Ans := { s := s, st := st }

/-- Success with results. -/
def Ans.ok (s : State) (body : List Nat := []) : Ans := { s := s, st := .ok, body := body }

/-- A command that has its effect. -/
def Ans.done (a : Ans) : Bool := decide (a.st = .ok) || decide (a.st = .accepted)

abbrev roleServe : Nat := 0
abbrev roleLoad : Nat := 1
abbrev roleAdmin : Nat := 2

/-- The header, opcode, first MCT version, role and timing of a host command (Tables 10-5 and 10-7);
boundary is false for a command processed on receipt. -/
structure OpInfo where
  h : Hdr
  opcode : Nat
  version : Nat
  role : Option Nat
  boundary : Bool

/-- A register write row (0x11). -/
def writeOp (h : Hdr) : Option OpInfo := some ⟨h, 0x11, 1, some roleAdmin, false⟩

/-- Tables 10-5, 10-7, 9-13, 6-9 and 5-4. Events of the block have none. -/
def opInfo : Instr → Option OpInfo
  | .sessionConfirm h => some ⟨h, 0x01, 1, none, false⟩
  | .keepalive h => some ⟨h, 0x02, 1, none, false⟩
  | .sessionClose h => some ⟨h, 0x03, 1, none, false⟩
  | .versionQuery h => some ⟨h, 0x04, 1, none, false⟩
  | .sessionQuery h => some ⟨h, 0x05, 1, none, false⟩
  | .regRead h _ _ => some ⟨h, 0x10, 1, some roleServe, false⟩
  | .rcRegisterRead h _ => some ⟨h, 0x10, 1, some roleServe, false⟩
  | .latchingLowHalfRead h _ => some ⟨h, 0x10, 1, some roleServe, false⟩
  | .regWrite h _ _ _ => writeOp h
  | .engCtrlWrite h _ _ _ _ => writeOp h
  | .tileSelWrite h _ _ _ => writeOp h
  | .calCtrlWrite h _ _ => writeOp h
  | .calBoundsWrite h _ _ => writeOp h
  | .portReserveWrite h _ _ => writeOp h
  | .evtCauseWrite h _ _ => writeOp h
  | .evtMaskWrite h _ _ => writeOp h
  | .pkgThrottleWrite h _ _ => writeOp h
  | .coreIdleWrite h _ _ => writeOp h
  | .ringmasterMhzWrite h _ _ => writeOp h
  | .pkgGateWrite h _ _ => writeOp h
  | .dieGateWrite h _ _ _ => writeOp h
  | .gateCoreWrite h _ _ _ => writeOp h
  | .domCtrlWrite h _ _ _ _ => writeOp h
  | .domSscWrite h _ _ _ _ => writeOp h
  | .scrubCtrlWrite h _ _ => writeOp h
  | .threshDieWrite h _ _ => writeOp h
  | .threshStackWrite h _ _ => writeOp h
  | .trigCtrlWrite h _ _ => writeOp h
  | .trigTimeHiWrite h _ _ => writeOp h
  | .monCalWrite h _ _ => writeOp h
  | .seqWrite h _ _ _ _ _ => writeOp h
  | .pipeCtrlWrite h _ _ _ => writeOp h
  | .cfgRead h _ => some ⟨h, 0x12, 1, some roleAdmin, false⟩
  | .cfgWrite h _ => some ⟨h, 0x13, 1, some roleAdmin, false⟩
  | .deviceQuery h => some ⟨h, 0x14, 1, some roleServe, false⟩
  | .deviceReset h _ => some ⟨h, 0x15, 1, some roleAdmin, false⟩
  | .fwBegin h _ _ => some ⟨h, 0x16, 1, some roleAdmin, false⟩
  | .fwData h _ _ => some ⟨h, 0x17, 1, some roleAdmin, false⟩
  | .fwCommit h => some ⟨h, 0x18, 1, some roleAdmin, false⟩
  | .attestQuote h _ _ => some ⟨h, 0x19, 3, some roleServe, false⟩
  | .keyEnrol h _ => some ⟨h, 0x1A, 3, some roleAdmin, false⟩
  | .keyRevoke h _ => some ⟨h, 0x1B, 3, some roleAdmin, false⟩
  | .groupForm h _ _ => some ⟨h, 0x20, 1, some roleAdmin, true⟩
  | .groupDissolve h _ => some ⟨h, 0x21, 1, some roleAdmin, true⟩
  | .modelLoad h _ _ _ => some ⟨h, 0x22, 1, some roleLoad, false⟩
  | .modelAbort h _ => some ⟨h, 0x23, 1, some roleLoad, false⟩
  | .instanceQuery h _ => some ⟨h, 0x24, 1, some roleServe, false⟩
  | .instanceUnload h _ _ => some ⟨h, 0x25, 1, some roleLoad, true⟩
  | .loadReport h _ _ => some ⟨h, 0x26, 1, some roleServe, false⟩
  | .adapterLoad h _ _ _ _ _ => some ⟨h, 0x30, 2, some roleLoad, true⟩
  | .adapterUnload h _ _ => some ⟨h, 0x31, 2, some roleLoad, true⟩
  | .adapterQuery h _ _ => some ⟨h, 0x32, 2, some roleServe, false⟩
  | .ctxCreate h _ => some ⟨h, 0x40, 1, some roleServe, true⟩
  | .ctxDelete h _ _ => some ⟨h, 0x41, 1, some roleServe, true⟩
  | .ctxSet h _ _ _ _ _ => some ⟨h, 0x42, 1, some roleServe, true⟩
  | .ctxTruncate h _ _ _ => some ⟨h, 0x43, 1, some roleServe, true⟩
  | .ctxSuspend h _ _ => some ⟨h, 0x44, 3, some roleServe, true⟩
  | .ctxRestore h _ _ _ _ => some ⟨h, 0x45, 3, some roleServe, true⟩
  | .ctxQuery h _ _ => some ⟨h, 0x46, 1, some roleServe, false⟩
  | .reqSubmit h _ => some ⟨h, 0x50, 1, some roleServe, true⟩
  | .reqTokens h _ _ _ => some ⟨h, 0x51, 1, some roleServe, false⟩
  | .reqCancel h _ => some ⟨h, 0x52, 1, some roleServe, true⟩
  | .reqQuery h _ => some ⟨h, 0x53, 1, some roleServe, false⟩
  | .planBegin h _ _ _ => some ⟨h, 0x60, 1, some roleLoad, false⟩
  | .planData h _ _ _ => some ⟨h, 0x61, 1, some roleLoad, false⟩
  | .planCommit h _ => some ⟨h, 0x62, 1, some roleLoad, false⟩
  | .planAbort h _ => some ⟨h, 0x63, 1, some roleLoad, false⟩
  | .planQuery h _ => some ⟨h, 0x64, 1, some roleServe, false⟩
  | .variantForce h _ _ => some ⟨h, 0x65, 1, some roleLoad, true⟩
  | .planRetire h _ => some ⟨h, 0x66, 1, some roleLoad, true⟩
  | .balanceSet h _ _ => some ⟨h, 0x68, 2, some roleLoad, true⟩
  | .balanceQuery h _ => some ⟨h, 0x69, 2, some roleServe, false⟩
  | .coreFence h _ => some ⟨h, 0x70, 2, some roleAdmin, true⟩
  | .coreUnfence h _ => some ⟨h, 0x71, 2, some roleAdmin, true⟩
  | .probeLoad h _ => some ⟨h, 0x72, 2, some roleAdmin, false⟩
  | .probeResults h _ => some ⟨h, 0x73, 2, some roleServe, false⟩
  | .calRequest h _ => some ⟨h, 0x74, 2, some roleAdmin, true⟩
  | .calCancel h _ => some ⟨h, 0x75, 2, some roleAdmin, true⟩
  | .calDiscard h _ _ => some ⟨h, 0x76, 2, some roleAdmin, true⟩
  | .redundancySet h _ _ => some ⟨h, 0x77, 2, some roleAdmin, true⟩
  | .telemetrySet h _ _ => some ⟨h, 0x80, 1, some roleServe, true⟩
  | .telemetryQuery h _ => some ⟨h, 0x81, 1, some roleServe, false⟩
  | .eventRead h _ _ => some ⟨h, 0x82, 1, some roleServe, false⟩
  | .eventNotify h _ => some ⟨h, 0x83, 1, some roleServe, false⟩
  | .evtAck h _ => some ⟨h, 0x84, 1, some roleAdmin, false⟩
  | .timeQuery h => some ⟨h, 0x90, 2, some roleServe, false⟩
  | .epochSet h _ => some ⟨h, 0x91, 2, some roleAdmin, false⟩
  | .hostSentDeviceOnlyOpcode h op => some ⟨h, op, 1, none, false⟩
  | .unlistedOpcode h op => some ⟨h, op, 1, none, false⟩
  | _ => none

/-- Group of a context. -/
def State.ctxGroup (s : State) (c : Nat) : Option Nat := (s.ctx? c).map (·.group)

/-- A request in flight of a session. -/
def State.req? (s : State) (sess req : Nat) : Option Req :=
  s.reqs.find? (fun r => r.sess == sess && r.f.id == req)

/-- The group a command names, itself or through its context or request (R279). -/
def State.concerns (s : State) : Instr → Option Nat
  | .groupForm _ g _ => some g
  | .groupDissolve _ g => some g
  | .instanceUnload _ g _ => some g
  | .adapterLoad _ g _ _ _ _ => some g
  | .adapterUnload _ g _ => some g
  | .ctxCreate _ f => some f.group
  | .ctxDelete _ c _ => s.ctxGroup c
  | .ctxSet _ c _ _ _ _ => s.ctxGroup c
  | .ctxTruncate _ c _ _ => s.ctxGroup c
  | .ctxSuspend _ c _ => s.ctxGroup c
  | .ctxRestore _ g _ _ _ => some g
  | .reqSubmit _ r => s.ctxGroup r.ctx
  | .reqCancel h r => (s.req? h.sess r).map (·.group)
  | .variantForce _ g _ => some g
  | .planRetire _ g => some g
  | .balanceSet _ g _ => some g
  | .redundancySet _ g _ => some g
  | _ => none

/-- Opcodes that only the block sends (Table 10-7). -/
def deviceOnly (op : Nat) : Bool := [0x0F, 0x5F, 0x6E, 0x8E, 0x8F].contains op

/-- Opcodes of Table 10-7 (with the ranges it gives) that a host may send. -/
def opcodeListed (op : Nat) : Bool :=
  decide (op ≤ 0x05) || (decide (0x10 ≤ op) && decide (op ≤ 0x1B)) || (decide (0x20 ≤ op) && decide (op ≤ 0x26))
  || (decide (0x30 ≤ op) && decide (op ≤ 0x32)) || (decide (0x40 ≤ op) && decide (op ≤ 0x46))
  || (decide (0x50 ≤ op) && decide (op ≤ 0x53)) || (decide (0x60 ≤ op) && decide (op ≤ 0x66))
  || op == 0x68 || op == 0x69 || (decide (0x70 ≤ op) && decide (op ≤ 0x77))
  || (decide (0x80 ≤ op) && decide (op ≤ 0x84)) || op == 0x90 || op == 0x91

/-- Opcodes that a session is served before RBSY first rises (R318, R323). -/
def bootOpcode (op : Nat) : Bool :=
  decide (op ≤ 0x05) || op == 0x10 || op == 0x16 || op == 0x17 || op == 0x18 || op == 0x1A || op == 0x82

/-- An address that a REG_READ may name under the boot ROM (R318). -/
def bootReadable (a : Nat) : Bool :=
  decide (a < 0x20000) || (decide (0x40000 ≤ a) && decide (a < 0x50000))
  || (decide (0x90000 ≤ a) && decide (a < 0xA0000))
  || (decide (0x10004000 ≤ a) && decide (a < 0x10008000))

/-- Words a register read names. -/
def readSpan : Instr → Option (Nat × Nat)
  | .regRead _ a n => some (a, n)
  | .rcRegisterRead _ a => some (a, 1)
  | .latchingLowHalfRead _ a => some (a, 1)
  | _ => none

/-- The boot ROM, or the firmware before RBSY first rises, serves a command (R318, R323). -/
def State.bootServes (s : State) (op : Nat) (i : Instr) : Bool :=
  s.boot.isDone
  || (bootOpcode op && match readSpan i with
    | some (a, n) => !s.boot.inRom
        || (decide (n ≤ 1024) && (List.range n).all (fun k => bootReadable (a + 4 * k)))
    | none => true)

/-- Roles of a session's key, none once the key is revoked. -/
def State.keyOf (s : State) (id : Nat) : Option OpKey :=
  (s.nvm.keys.find? (fun p => p.2.id == id)).map (·.2)

/-- The role test of R270. -/
def State.holdsRole (s : State) (x : Session) (role : Option Nat) : Bool :=
  match role with
  | none => true
  | some r => match s.keyOf x.key with
    | some k => k.roles.testBit r
    | none => false

/-- The tick-tag test of R277: none where the tag is admitted. A tag other than 0 is outside MCT 1
(Table 10-5, log 22). -/
def State.tagTest (s : State) (version tag : Nat) (boundary : Bool) (g : Option Nat) : Option Status :=
  if tag = 0 then none
  else if version < 2 then some .version
  else match g with
    | none => some .conflict
    | some i =>
      if !boundary then some .conflict
      else if tag ≤ (s.grp i).tick then some .stale
      else if (s.grp i).tick + 65536 < tag then some .conflict
      else none

/-- A flag of the command that the session's version lacks: FULL_HISTORY before MCT 3 (R272). -/
def flagsLack (version : Nat) : Instr → Bool
  | .reqSubmit _ f => f.fullHistory && decide (version < 3)
  | _ => false

/-- A context that a session may name with a tenant tag (R227). -/
def State.named? (s : State) (h : Hdr) (c tenant : Nat) : Option Ctx :=
  match s.ctx? c, s.session? h.sess with
  | some x, some y => if x.key = y.key ∧ x.tenant = tenant then some x else none
  | _, _ => none

/-- Context and tenant tag that a command names. -/
def ctxNamed : Instr → Option (Nat × Nat)
  | .ctxDelete _ c t => some (c, t)
  | .ctxSet _ c t _ _ _ => some (c, t)
  | .ctxTruncate _ c t _ => some (c, t)
  | .ctxSuspend _ c t => some (c, t)
  | .ctxQuery _ c t => some (c, t)
  | .reqSubmit _ f => some (f.ctx, f.tenant)
  | _ => none

/-- A command names a context that its session may not name (R227, R261); one that does not exist yet may still be made by a
command before it at its boundary (R280). -/
def State.misnames (s : State) (i : Instr) (o : OpInfo) : Bool :=
  match ctxNamed i with
  | none => false
  | some (c, t) => (s.named? o.h c t).isNone && ((s.ctx? c).isSome || !o.boundary || decide (o.h.tag ≠ 0))

/-- What is decided before a command is processed: none where it is to be processed. A boundary command
of a suspended group needs a tick and returns ST_BUSY (R154, log 34). -/
def State.preCheck (s : State) (x : Session) (i : Instr) (o : OpInfo) : Option Status :=
  if 0xFFFFFF00 < o.h.seq then some .stale
  else if deviceOnly o.opcode then some .conflict
  else if !opcodeListed o.opcode ∨ x.version < o.version ∨ flagsLack x.version i then some .version
  else if !x.isOpen ∧ o.opcode ≠ 0x01 then some .conflict
  else if !s.bootServes o.opcode i then some .busy
  else if !s.holdsRole x o.role ∨ s.misnames i o then some .notAuthorised
  else
    match s.tagTest x.version o.h.tag o.boundary (s.concerns i) with
    | some st => some st
    | none =>
      if 4096 ≤ s.placesUsed then some .busy
      else if o.boundary && (match s.concerns i with
          | some g => (s.grp g).suspended && (s.grp g).current.isSome
          | none => false) then some .busy
      else none

/-- A boundary command waits for a boundary: of the group it concerns where that group has
boundaries or the tag names a tick, otherwise of any group while one runs a plan (R279, log 16). -/
def State.mustWait (s : State) (i : Instr) (tag : Nat) : Bool :=
  match s.concerns i with
  | some g => (s.grp g).ticking || decide (0 < tag)
  | none => s.groups.any (fun p => p.2.ticking)

end Sys2Proof.Machine
end

