-- ==== Sys2Proof/Machine/HostSession.lean ====
section
/-!
DEFINITION. Sessions, register access, configuration, telemetry, records and time: what the host
commands of these groups do once a command is processed (Chapter 10, R29, R267, R397, R307).
-/

namespace Sys2Proof.Machine

open Sys2Proof

/-! ### Opening a session (R271, R272) -/

/-- Highest version number of a bitmap, below n. -/
def topBit : Nat → Nat → Option Nat
  | 0, _ => none
  | n + 1, m => if m.testBit n then some n else topBit n m

/-- FORMATS (Table 1-6): MCT 1 to 3, plans v2 and v3, manifests v1 and v2. -/
def formatsMct : Nat := 0x0E
def formatsPlan : Nat := 0x0C
def formatsManifest : Nat := 0x06

/-- The open key of a session secret and host nonce. -/
def openKey (secret nonce : List Byte) : List Byte :=
  Crypto.hkdf secret (nonce ++ List.replicate 16 0) (Crypto.ascii "mct-open") 32

/-- The 64 bytes of session keys. -/
def sessionKeys (secret hostNonce devNonce : List Byte) (id version : Nat) : List Byte :=
  Crypto.hkdf secret (hostNonce ++ devNonce)
    (Crypto.bytesLE 4 id ++ Crypto.bytesLE 1 version ++ Crypto.ascii "mct-keys") 64

/-- A session identifier from a free value: not 0 and not in use (R269, R271). -/
def State.pickSession (s : State) (v : Nat) : Nat :=
  let used := fun (x : Nat) => s.sessions.any (fun y => y.id == x)
  if v ≠ 0 ∧ used v = false then v
  else ((List.range (s.sessions.length + 1)).map (· + 1)).find? (fun x => !used x) |>.getD 1

/-- Count a message dropped for its tag. -/
def State.dropBadTag (s : State) : State := s.bumpLo (Blk.port.at Reg.MCT_DROPS) 1
/-- Count a message dropped out of its window. -/
def State.dropWindow (s : State) : State := s.bumpHi (Blk.port.at Reg.MCT_DROPS) 1

/-- SESSION_OPEN (R271, R272, R318); nothing reaches a port that is not open (R2, R265). -/
def runSessionOpen (s : State) (src key : Nat) (nonce : List Byte) (mct plans manifests : Nat)
    (signed tag : List Byte) : State :=
  if !s.portOpen || !s.port.announced then s
  else
  match s.keyOf key with
  | none => s.dropBadTag
  | some k =>
    if (Crypto.hmac (openKey k.secret nonce) signed).take 16 ≠ tag then s.dropBadTag
    else
      let seen := s.nonces.getD key []
      if seen.contains nonce then s
      else
        let s1 := { s with nonces := s.nonces.put key ((nonce :: seen).take 1024) }
        if s.boot.inRom ∧ k.roles.testBit 2 = false then
          s1.sendTo (.openReply key .notAuthorised 0 [] []) (some src) 0
        else match topBit 8 (mct &&& formatsMct) with
          | none => s1.sendTo (.openReply key .version 0 [] []) (some src) 0
          | some v =>
            if s1.cfg.sessionLimit ≤ (s1.sessions.filter (·.isOpen)).length then
              s1.sendTo (.openReply key .noResource 0 [] []) (some src) 0
            else
              let r1 := s1.freshValue 32
              let r2 := r1.2.freshValue 128
              let id := r2.2.pickSession r1.1.toNat
              let dev := Crypto.bytesLE 16 r2.1.toNat
              let ks := sessionKeys k.secret nonce dev id v
              let pf := plans &&& formatsPlan
              let x : Session :=
                { id := id, key := key, version := v
                  plans := if v = 3 then pf else pf &&& 0xF7, manifests := manifests &&& formatsManifest
                  isOpen := false, h2d := ks.take 32, d2h := ks.drop 32, expect := 1, early := []
                  replies := [], dseq := 1, unacked := [], queue := [], notify := none, telPeriod := 0
                  telMask := 0, lastRx := s.time.ns, peer := src, calls := [] }
              let s2 := { r2.2 with sessions := r2.2.sessions ++ [x] }
              s2.sendTo (.openReply key .ok id dev [s.nvm.serial, v, x.plans, x.manifests]) (some src) 0

/-- SESSION_CONFIRM. -/
def runSessionConfirm (s : State) (h : Hdr) : Ans :=
  match s.session? h.sess with
  | none => .fail s .conflict
  | some x => if x.isOpen then .fail s .conflict else .ok (s.updSession h.sess (fun x => { x with isOpen := true }))

/-- KEEPALIVE: device time, and each formed group with its tick number. -/
def runKeepalive (s : State) : Ans :=
  .ok s (s.time.ns :: (s.groups.filter (fun p => p.2.formed)).flatMap (fun p => [p.1, p.2.tick]))

/-- SESSION_CLOSE: the reply, then departure (R274). -/
def runSessionClose (s : State) (h : Hdr) : Ans :=
  { s := s, st := .ok, after := fun t => t.depart h.sess }

/-- VERSION_QUERY. -/
def runVersionQuery (s : State) : Ans :=
  .ok s [(s.readReg Reg.FORMATS).toNat, (s.readReg Reg.FW_VERSION).toNat, (s.readReg Reg.ROM_VERSION).toNat]

/-- SESSION_QUERY. -/
def runSessionQuery (s : State) (h : Hdr) : Ans :=
  match s.session? h.sess with
  | none => .fail s .conflict
  | some x => .ok s [x.expect, x.unacked.length, x.queue.length,
      (x.unacked.head?.map (·.interval)).getD 1000, (s.sessions.filter (·.isOpen)).length]

/-! ### Register access (R10, R29) -/

/-- REG_READ of a run of words. A run that touches the block of a disabled core returns zeros and
changes nothing (log 18). -/
def runRegRead (s : State) (a n : Nat) : Ans :=
  if a % 4 ≠ 0 ∨ n = 0 ∨ 1024 < n ∨ 0xFFFFFFFC < a + 4 * (n - 1) then .fail s .conflict
  else if (List.range n).any (fun i => match locate (a + 4 * i) with
      | some (b, _) => s.blkDisabled b
      | none => false) then
    { s := s, st := .noResource, body := List.replicate n 0 }
  else
    let r := s.readWords n a
    .ok r.2 r.1

/-- REG_WRITE. -/
def runRegWrite (s : State) (a : Nat) (value mask : Word) : Ans :=
  if a % 4 ≠ 0 ∨ 0xFFFFFFFC < a then .fail s .conflict
  else
    let r := s.writeReg a value mask
    { s := r.1, st := r.2 }

/-! ### Configuration (R267) -/

def ipFields : IpCfg → List Nat
  | .off => [0]
  | .dynamic => [1]
  | .fixed a p g => [2, a, p, g]

/-- An item of a configuration record as the fields of a reply; MACSEC without its CAK. -/
def cfgFields (c : Cfg) : CfgKey → List Nat
  | .phyMode => [c.phyMode, c.polarity]
  | .vlan => [c.vlan.getD 0]
  | .priorities => c.priorities.flatMap (fun p => [p.1, p.2])
  | .macsec => c.macPolicy :: c.cakName.map (·.toNat)
  | .ipv4 => ipFields c.ipv4
  | .ipv6 => ipFields c.ipv6
  | .mctPort => [c.mctPort]
  | .announce => [c.group4, c.group6, c.announcePort]
  | .ptp => [c.ptpTransport, flag c.ptpP2p, flag c.ptpOneStep, c.ptpDomain]
  | .storage => c.storage.zipIdx.flatMap (fun (e, i) => match e with
      | some x => [i, x.addr, x.port, flag x.discovery] ++ x.nqn.map (·.toNat)
      | none => [])
  | .sessionLimit => [c.sessionLimit]

/-- CFG_READ: the stored value and the value in force. -/
def runCfgRead (s : State) (item : CfgKey) : Ans :=
  let a := cfgFields s.nvm.cfg item
  let b := cfgFields s.cfg item
  .ok s (a.length :: a ++ (b.length :: b))

/-- The value lies in the range of Table 10-3. -/
def CfgVal.inRange : CfgVal → Bool
  | .phyMode m p => decide (m ≤ 2) && decide (p < 65536)
  | .vlan none => true
  | .vlan (some v) => decide (1 ≤ v) && decide (v ≤ 4094)
  | .priorities ks => decide (ks.length = 3) && ks.all (fun k => decide (k.1 < 8) && decide (k.2 < 64))
  | .macsec p _ nonce cipher tag =>
    decide (p ≤ 2) && decide (nonce.length = 12) && decide (cipher.length = 32) && decide (tag.length = 16)
  | .ipv4 (.fixed a p g) => decide (a < 2 ^ 32) && decide (p ≤ 32) && decide (g < 2 ^ 32)
  | .ipv4 _ => true
  | .ipv6 (.fixed a p _) => decide (a < 2 ^ 128) && decide (p ≤ 128)
  | .ipv6 _ => true
  | .mctPort p => decide (1024 ≤ p) && decide (p ≤ 65535)
  | .announce a b p => decide (a < 2 ^ 32) && decide (b < 2 ^ 128) && decide (p < 65536)
  | .ptp t _ _ d => decide (t ≤ 2) && decide (d ≤ 127)
  | .storage es _ => decide (es.length ≤ 16)
      && es.all (fun e => match e with
        | some x => decide (x.port < 65536)
        | none => true)
  | .sessionLimit n => decide (1 ≤ n) && decide (n ≤ 64)

/-- The record with an item set; MACSEC with the CAK already decrypted. -/
def Cfg.set (c : Cfg) (v : CfgVal) (cak : List Byte) : Cfg :=
  match v with
  | .phyMode m p => { c with phyMode := m, polarity := p }
  | .vlan x => { c with vlan := x }
  | .priorities ks => { c with priorities := ks }
  | .macsec p name _ _ _ => { c with macPolicy := p, cakName := name, cak := cak }
  | .ipv4 x => { c with ipv4 := x }
  | .ipv6 x => { c with ipv6 := x }
  | .mctPort p => { c with mctPort := p }
  | .announce a b p => { c with group4 := a, group6 := b, announcePort := p }
  | .ptp t p o d => { c with ptpTransport := t, ptpP2p := p, ptpOneStep := o, ptpDomain := d }
  | .storage es n => { c with storage := es, hostNqn := n }
  | .sessionLimit n => { c with sessionLimit := n }

/-- Items that take effect at once. -/
def CfgVal.isLive : CfgVal → Bool
  | .priorities _ => true
  | .storage _ _ => true
  | .sessionLimit _ => true
  | _ => false

/-- The package serial as its 16 bytes, SERIAL0 first. -/
def State.serialBytes (s : State) : List Byte := Crypto.bytesLE 16 s.nvm.serial

/-- Entries of a bit mask that a test leaves. -/
def maskKeep (n mask : Nat) (p : Nat → Bool) : Nat := ((maskBits n mask).filter p).foldl (fun m i => m + 2 ^ i) 0

/-- Entries of the storage list that have changed are no longer connected; what they hold now is connected anew (Table
10-3). -/
def State.relist (s : State) (old : Cfg) : State :=
  let same := fun (i : Nat) => s.cfg.storage.getD i none == old.storage.getD i none
  { s with port := { s.port with
      connected := maskKeep 16 s.port.connected same, failed := maskKeep 16 s.port.failed same } }

/-- Store an item, and bring it into force where it is live. -/
def State.storeCfg (s : State) (v : CfgVal) (cak : List Byte) : State :=
  let s1 := { s with nvm := { s.nvm with cfg := s.nvm.cfg.set v cak } }
  if v.isLive then ({ s1 with cfg := s1.cfg.set v cak }).relist s1.cfg else s1

/-- CFG_WRITE. -/
def runCfgWrite (s : State) (h : Hdr) (v : CfgVal) : Ans :=
  if !v.inRange then .fail s .conflict
  else match v with
    | .macsec p name nonce cipher tag =>
      let ikm := ((s.session? h.sess).map (·.h2d)).getD []
      let key := Crypto.hkdf ikm s.serialBytes (Crypto.ascii "mct-cak") 32
      match Crypto.gcmOpen key nonce (Crypto.bytesLE 1 p ++ name) cipher tag with
      | some cak => .ok (s.storeCfg v cak)
      | none => .fail s .badSignature
    | _ => .ok (s.storeCfg v [])

/-! ### Device commands -/

/-- DEVICE_QUERY. -/
def runDeviceQuery (s : State) : Ans :=
  .ok s [(s.readReg (Blk.port.at Reg.PORT_STATUS)).toNat, (s.readReg (Blk.port.at Reg.RBSY_STATUS)).toNat,
    (s.readReg evtCauseAt).toNat, (s.readReg (Blk.car.at Reg.CAR_STATUS)).toNat]

/-- The block enters reset (R312, R313): what is not kept is lost, the leaves reserved and not used are
skipped (R380), EVT_N and THERMTRIP_N are released (R312, R361), and the cause is noted. -/
def State.enterReset (s : State) (cause : Nat) : State :=
  let lost := (s.sec.blockEnd - s.sec.leaf) + (s.sec.topBlockEnd - s.sec.topLeaf)
  let nvm := { s.nvm with skipped := s.nvm.skipped + lost }
  let cause := cause + (if s.clocks.safe then 16 else 0)
  { State.afterReset s.pending { s.pins with thermTrip := false, asyncEvt := false } nvm cause with
    out := s.out, wire := s.wire, fresh := s.fresh }

/-- DEVICE_RESET. -/
def runDeviceReset (s : State) (force : Bool) : Ans :=
  if s.anyRuns && !force then .fail s .conflict
  else { s := s, st := .ok, after := fun t => t.enterReset 4 }

/-! ### Telemetry, records, causes and time -/

/-- The values of the telemetry sets of a mask (log 23). -/
def State.telemetry (s : State) (mask : Nat) : List Nat :=
  let rd := fun (a : Nat) => (s.readReg a).toNat
  let grp := if mask.testBit 0 then
      (s.groups.filter (fun p => p.2.formed)).flatMap (fun p =>
        [p.1, p.2.tick, p.2.kind, (s.reg (Blk.base .car + 0x100 + p.1 * 0x100 + Reg.RESERVE_USED)).toNat, p.2.clean])
    else []
  let th := if mask.testBit 1 then
      [rd (Blk.thermal.at Reg.TH_STATUS), rd (Blk.thermal.at Reg.STACK_STATE), rd (Blk.thermal.at Reg.HOTTEST)]
        ++ allDies.map (fun d => (s.therm d.val).min1us)
    else []
  let port := if mask.testBit 2 then
      [rd (Blk.port.at Reg.PORT_STATUS), rd (Blk.port.at Reg.MCT_STATUS), rd (Blk.port.at Reg.TARGETS)] else []
  let fab := if mask.testBit 3 then
      [rd (Blk.usher.at Reg.USHER_STATUS), rd (Blk.usher.at Reg.FENCE_COUNT)] else []
  grp ++ th ++ port ++ fab

/-- TELEMETRY_SET, at a boundary. -/
def runTelemetrySet (s : State) (h : Hdr) (period mask : Nat) : Ans :=
  if 65535 < period ∨ 16 ≤ mask then .fail s .conflict
  else .ok (s.updSession h.sess (fun x => { x with telPeriod := period, telMask := mask }))

/-- TELEMETRY_QUERY. -/
def runTelemetryQuery (s : State) (mask : Nat) : Ans :=
  if 16 ≤ mask then .fail s .conflict else .ok s (s.telemetry mask)

/-- EVENT_READ (R397): the next sequence number, DROPPED, and the held slots from the first number
asked for, in order. -/
def runEventRead (s : State) (first count : Nat) : Ans :=
  if count = 0 ∨ 128 < count then .fail s .conflict
  else
    let slots := s.nvm.records.flatMap (fun r => (r.slots).zipIdx.map (fun (b, i) => (r.seq + i, b)))
    let got := (slots.filter (fun p => decide (first ≤ p.1))).take count
    let next := match got.getLast? with
      | some p => p.1 + 1
      | none => first
    .ok s (next :: sat32 s.nvm.dropped :: got.flatMap (fun p => p.2.map (·.toNat)))

/-- EVENT_NOTIFY. -/
def runEventNotify (s : State) (h : Hdr) (severity : Option Nat) : Ans :=
  if 3 < severity.getD 0 then .fail s .conflict
  else .ok (s.updSession h.sess (fun x => { x with notify := severity }))

/-- EVT_ACK: causes still held. -/
def runEvtAck (s : State) (mask : Word) : Ans :=
  let s1 := s.clearCauses mask
  .ok s1 [(s1.reg evtCauseAt).toNat]

/-- TIME_QUERY. -/
def runTimeQuery (s : State) : Ans :=
  .ok s [s.time.ns, s.time.ptp, (s.time.master.map (·.identity)).getD 0, fieldOfInt 64 s.time.offset, s.time.epoch]

/-- EPOCH_SET (R307). -/
def runEpochSet (s : State) (epoch : Nat) : Ans :=
  if s.anyRuns ∨ 2 ^ 64 ≤ epoch then .fail s .conflict
  else .ok { s with time := { s.time with epoch := epoch } }

end Sys2Proof.Machine
end

