-- ==== Sys2Proof/Machine/Ecc.lean ====
section
/-!
DEFINITION. The error code over granules (R331): a shortened Reed-Solomon code over GF(2^8), what its decoder
answers for an error, and reads of device memory with re-read and poison (R335 to R337).
-/

namespace Sys2Proof.Machine

open Sys2Proof

/-! ### The code (R331) -/

/-- Multiply by α in GF(2^8) with x^8 + x^4 + x^3 + x^2 + 1. -/
def gfTimesAlpha (x : Nat) : Nat := if 128 ≤ x then (2 * x) ^^^ 0x11D else 2 * x

/-- x times α^n. -/
def gfShift : Nat → Nat → Nat
  | 0, x => x
  | n + 1, x => gfShift n (gfTimesAlpha x)

/-- Product in GF(2^8), over the bits of the first factor. -/
def gfMul (a b : Nat) : Nat :=
  (List.range 8).foldl (fun acc i => if a.testBit i then acc ^^^ gfShift i b else acc) 0

/-- Exponent of symbol i in the codeword polynomial: the first symbol is the highest coefficient, so that
the check bits are the lowest four (log 42). -/
def symbolPower (i : Nat) : Nat := 35 - i

/-- Syndrome j of an error: its value at root α^j. The code is linear, so the data does not enter. -/
def syndrome (e : SymErrs) (j : Nat) : Nat :=
  e.foldl (fun acc p => acc ^^^ gfShift (j * symbolPower (p.1 % 36)) (p.2 % 256)) 0

/-- What the decoder makes of an error. -/
inductive EccResult where
  /-- No error is seen. -/
  | clean
  /-- One symbol is changed back, by this value. -/
  | fixed (symbol value : Nat)
  | uncorrectable
  deriving DecidableEq, Repr

/-- The decoder: a single-symbol error is located and corrected, anything else that shows is
uncorrectable. -/
def eccDecode (e : SymErrs) : EccResult :=
  let s := fun (j : Nat) => syndrome e j
  if s 0 = 0 ∧ s 1 = 0 ∧ s 2 = 0 ∧ s 3 = 0 then .clean
  else
    match (List.range 36).find? (fun i =>
      decide (s 0 ≠ 0) && (List.range 3).all (fun j => gfShift (symbolPower i) (s j) == s (j + 1))) with
    | some i => .fixed i (s 0)
    | none => .uncorrectable

/-- Data of a granule with symbols changed. -/
def flipSymbols (data : Nat) (e : SymErrs) : Nat :=
  e.foldl (fun d p => if p.1 % 36 < 32 then d ^^^ (p.2 % 256 * 2 ^ (8 * (p.1 % 36))) else d) data

/-- A checked read of a word that an error changed: the data used, absent where it is uncorrectable, and
whether an error was corrected. -/
def eccRead (data : Nat) (e : SymErrs) : Option Nat × Bool :=
  match eccDecode e with
  | .clean => (some (flipSymbols data e), false)
  | .fixed i v => (some (flipSymbols (flipSymbols data e) [(i, v)]), true)
  | .uncorrectable => (none, false)

/-! ### Device memory (R335 to R337) -/

/-- The stack that holds a granule: each holds 2,500,000,000 in turn (R5). -/
def stackOf (g : Nat) : Nat := g / 2500000000 % 12

/-- Errors of granule i of a read, at its first reading or at the second. -/
def errsAt (errs : List GranErr) (i : Nat) (again : Bool) : SymErrs :=
  match errs.find? (fun x => x.idx == i) with
  | some x => if again then x.second else x.first
  | none => []

/-- One read of a granule of device memory: a poisoned granule reads as uncorrectable. -/
def State.readOnce (s : State) (g : Nat) (e : SymErrs) : Option Nat × Bool :=
  if s.poison.contains g then (none, false) else eccRead (s.granule g) e

/-- Granules of a block of 4 KiB. -/
def blockOf (g : Nat) : Nat := g % 2500000000 / 128

/-- A granule is found uncorrectable at its second read (R335): it is poisoned, its block is to be
retired (R336), and a record is written. -/
def State.poisonGranule (s : State) (g : Nat) : State :=
  let k := stackOf g
  let s1 := { s with poison := if s.poison.contains g then s.poison else s.poison ++ [g] }
  let s2 := s1.updStack k (fun x => { x with
    toRetire := if x.toRetire.contains (blockOf g) || x.blocks.contains (blockOf g) then x.toRetire
      else x.toRetire ++ [blockOf g] })
  let s3 := (s2.bump ((Blk.mc (stackIx k)).at Reg.MC_UNCORRECTABLE) 1).bump (Blk.err.at Reg.MEM_UNCORRECTABLE) 1
  if s.poison.contains g then s2 else s3.error sevError 0x0201 (unitStack k) none none g

/-- A corrected read of device memory is counted at its stack. -/
def State.countFixed (s : State) (g : Nat) : State :=
  (s.bump ((Blk.mc (stackIx (stackOf g))).at Reg.MC_CORRECTED) 1).bump (Blk.err.at Reg.MEM_CORRECTED) 1

/-- Granules read from a stack are counted (R31). -/
def State.countReads (s : State) (gs : List Nat) : State :=
  gs.foldl (fun (s : State) g => s.bumpWide ((Blk.mc (stackIx (stackOf g))).at Reg.MC_READS_LO) 1) s

/-- Granules written to a stack are counted (R31). -/
def State.countWrites (s : State) (gs : List Nat) : State :=
  gs.foldl (fun (s : State) g => s.bumpWide ((Blk.mc (stackIx (stackOf g))).at Reg.MC_WRITES_LO) 1) s

/-- Tokens of some sequence slots carry DEGRADED in the running tick. -/
def State.degrade (s : State) (slots : List Nat) : State :=
  if slots.isEmpty then s
  else { s with reqs := s.reqs.map (fun r => match r.slot with
      | some k => if slots.contains k then { r with degraded := true } else r
      | none => r) }

/-- Tokens of some sequence slots carry REPLAYED. -/
def State.markReplayed (s : State) (slots : List Nat) : State :=
  if slots.isEmpty then s
  else { s with reqs := s.reqs.map (fun r => match r.slot with
      | some k => if slots.contains k then { r with replayed := true } else r
      | none => r) }

end Sys2Proof.Machine
end

