-- ==== Sys2Proof/Machine/LoadOps.lean ====
section
/-!
DEFINITION. Manifests and loads: the manifest layout and its checks (R197, R198, R232 to R235, R386),
the free memory of a group (R199, R200, R235), the loader's conversion (R73, R74, R80, R95), and the
fetching of shards (R236 to R239).
-/

namespace Sys2Proof.Machine

open Sys2Proof

/-! ### The manifest -/

def manifestMagic : Nat := 0x464E4D4D

def parseShard (bs : List Byte) (o : Nat) : ShardEnt :=
  { len := le bs (o + 4) 4, digest := Crypto.slice bs (o + 8) 32
    targets := le bs (o + 40) 1 :: ((List.range 3).map (fun i => le bs (o + 41 + i) 1)).filter (fun x => x != 255)
    ns := le bs (o + 44) 4, lba := le bs (o + 48) 8 }

def parseTensor (bs : List Byte) (o : Nat) : TensorEnt :=
  { role := le bs (o + 8) 1, source := le bs (o + 9) 1, target := le bs (o + 10) 1
    ratio := le bs (o + 11) 1, flags := le bs (o + 12) 1, rows := le bs (o + 16) 4
    cols := le bs (o + 20) 4, off := le bs (o + 24) 8, bytes := le bs (o + 32) 8 }

def parseAttn (bs : List Byte) (o : Nat) : AttnEnt :=
  { layer := le bs o 2, kvHeads := le bs (o + 2) 1, qPerKv := le bs (o + 3) 1
    keyDim := le bs (o + 4) 2, valueDim := le bs (o + 6) 2, valueOff := le bs (o + 8) 2
    ropeFirst := le bs (o + 10) 2, ropeDims := le bs (o + 12) 2, flags := le bs (o + 14) 1
    scale := word (le bs (o + 16) 4), ropeScale := word (le bs (o + 20) 4)
    window := le bs (o + 24) 4, invFreq := le bs (o + 28) 4 }

/-- Entries of the attention table: it runs to the next table or the signature (log 30). -/
def attnCount (bs : List Byte) : Nat :=
  let o := le bs 0x78 4
  if o = 0 then 0
  else
    let ends := ([le bs 0x70 4, le bs 0x74 4, le bs 0x7C 4].filter (fun x => decide (o ≤ x)))
    ((ends.foldl min 0xFFFFFFFF) - o) / 32

/-- A manifest read from its bytes (Tables 8-1 and 9-3 to 9-5). -/
def parseManifest (bs : List Byte) : Manifest :=
  { format := le bs 4 1, kind := le bs 5 1, modelId := le bs 8 8, shardBytes := le bs 0x10 8
    deviceBytes := le bs 0x18 8, keyId := le bs 0x20 4, vocabulary := le bs 0x24 4
    layers := le bs 0x28 2
    endTokens := (List.range (le bs 0x2A 1)).map (fun i => le bs (0x30 + 4 * i) 4)
    adapterSlots := le bs 0x2B 1, adapterRank := le bs 0x2C 2, baseDigest := Crypto.slice bs 0x50 32
    shards := (List.range (le bs 6 2)).map (fun i => parseShard bs (le bs 0x70 4 + 64 * i))
    tensors := (List.range (le bs 0x80 4)).map (fun i => parseTensor bs (le bs 0x74 4 + 48 * i))
    attn := (List.range (attnCount bs)).map (fun i => parseAttn bs (le bs 0x78 4 + 32 * i))
    digest := Crypto.sha256 bs }

/-- HR of an attention entry (R197). -/
def AttnEnt.headRecord (a : AttnEnt) : Nat := ceilDiv (max a.keyDim (a.valueOff + a.valueDim)) 64 * 64
/-- Blocks nb of one position (R197). -/
def AttnEnt.nb (a : AttnEnt) : Nat := a.kvHeads * (a.headRecord / 64)
def AttnEnt.kv8 (a : AttnEnt) : Bool := a.flags.testBit 0
def AttnEnt.interleaved (a : AttnEnt) : Bool := a.flags.testBit 1
def AttnEnt.cross (a : AttnEnt) : Bool := a.flags.testBit 2
/-- Page size G in granules (R198). -/
def AttnEnt.pageGranules (a : AttnEnt) : Nat := (if a.kv8 then 260 else 132) * a.nb

/-- The ranges of Table 8-1 and the page limit of R198. -/
def AttnEnt.ok (a : AttnEnt) (layers : Nat) : Bool :=
  decide (a.layer < layers) && decide (1 ≤ a.kvHeads) && decide (a.kvHeads ≤ 16)
  && decide (1 ≤ a.qPerKv) && decide (a.qPerKv ≤ 64) && decide (a.kvHeads * a.qPerKv ≤ 128)
  && a.keyDim % 64 == 0 && decide (64 ≤ a.keyDim) && decide (a.keyDim ≤ 1024)
  && a.valueDim % 64 == 0 && decide (64 ≤ a.valueDim) && decide (a.valueDim ≤ 1024)
  && a.ropeDims % 2 == 0 && decide (a.ropeFirst + a.ropeDims ≤ a.keyDim) && decide (a.flags < 8)
  && decide (a.pageGranules ≤ 2048)

/-- Microscaling blocks of a tensor, 32 elements along one axis (R80). -/
def TensorEnt.mxBlocks (t : TensorEnt) : Nat :=
  if t.flags.testBit 1 then ceilDiv t.cols 32 * t.rows else ceilDiv t.rows 32 * t.cols

/-- Bytes of the elements of a tensor with their scale codes (Table 9-5), for the sources that are
converted. -/
def TensorEnt.sourceBytes (t : TensorEnt) : Nat :=
  let n := t.rows * t.cols
  match t.source with
  | 0 => 4 * n
  | 1 => 2 * n
  | 2 => 2 * n
  | 6 => n / 2 + t.mxBlocks
  | 7 => 0
  | _ => n + t.mxBlocks

/-- The ranges of Table 9-5 and the limits of format 1 (R234). -/
def TensorEnt.ok (t : TensorEnt) (format shardBytes : Nat) : Bool :=
  decide (t.role ≤ 4) && decide (t.source ≤ 7) && decide (t.target ≤ 5)
  && (decide (t.ratio = 0) || (decide (2 ≤ t.ratio) && decide (t.ratio ≤ 64)) || format == 1)
  && decide (t.flags < 4) && decide (1 ≤ t.rows) && decide (1 ≤ t.cols)
  && decide (t.off + t.bytes + (if t.flags.testBit 0 then 4 * t.cols else 0) ≤ shardBytes)
  && decide (t.sourceBytes ≤ t.bytes)
  && (format != 1 || (decide (t.source ≤ 2) && [0, 4, 5].contains t.target))

/-- A table of n entries of some size lies after the header and before the signature. -/
def tableFits (bs : List Byte) (off size n : Nat) : Bool :=
  decide (0x88 ≤ off) && decide (off + size * n ≤ le bs 0x7C 4)

/-- Shard i of n: its length, its number, its reserved bytes and, in format 1, no alternates (R233). -/
def shardOk (bs : List Byte) (m : Manifest) (n i : Nat) : Bool :=
  let o := le bs 0x70 4 + 64 * i
  let x := le bs (o + 4) 4
  le bs o 4 == i && decide (1 ≤ x) && decide (x ≤ 2 ^ 30) && (i + 1 == n || x == 2 ^ 30)
  && le bs (o + 56) 8 == 0 && (m.format != 1 || le bs (o + 41) 3 == 0xFFFFFF)

/-- Reserved bytes of tensor entry i and of attention entry i are 0 (Tables 8-1 and 9-5). -/
def tensorReserved (bs : List Byte) (i : Nat) : Bool :=
  let o := le bs 0x74 4 + 48 * i
  le bs (o + 13) 3 == 0 && le bs (o + 40) 8 == 0
def attnReserved (bs : List Byte) (i : Nat) : Bool := le bs (le bs 0x78 4 + 32 * i + 15) 1 == 0

/-- Check 4 of R235: every field and table lies within its range, and no layer has two attention entries (R197). kind is the KIND the command loads
(log 30). -/
def manifestRanges (bs : List Byte) (m : Manifest) (kind : Nat) : Bool :=
  let n := m.shards.length
  decide (0x88 ≤ bs.length) && le bs 0 4 == manifestMagic && m.kind == kind && (m.format != 1 || m.kind == 0)
  && decide (1 ≤ n) && decide (n ≤ 1024)
  && m.shardBytes == (m.shards.map (·.len)).foldl (· + ·) 0
  && decide (m.vocabulary ≤ 1048576) && decide (1 ≤ m.layers) && decide (m.layers ≤ 1024)
  && decide (m.endTokens.length ≤ 8) && decide (m.adapterSlots ≤ (if kind = 0 then 16 else 0))
  && le bs 0x2E 2 == 0 && (kind != 0 || m.baseDigest.all (· == 0))
  && tableFits bs (le bs 0x70 4) 64 n && tableFits bs (le bs 0x74 4) 48 m.tensors.length
  && (if kind = 0 then tableFits bs (le bs 0x78 4) 32 m.attn.length else le bs 0x78 4 == 0)
  && decide (le bs 0x84 4 ≤ 2 ^ 24) && le bs 0x84 4 == bs.length
  && (List.range n).all (shardOk bs m n)
  && m.tensors.all (fun t => t.ok m.format m.shardBytes) && (List.range m.tensors.length).all (tensorReserved bs)
  && m.attn.all (fun a => a.ok m.layers) && (List.range m.attn.length).all (attnReserved bs)
  && decide ((m.attn.map (·.layer)).Nodup)

/-- The signature occupies exactly SIGNATURE to the end and verifies (R386 steps 3 and 4). -/
def signedBy (bs : List Byte) (sigOff : Nat) (k : OpKey) : Bool :=
  decide (sigOff ≤ bs.length)
  && decide (bs.length - sigOff = if k.levels = 2 then 5716 else 2832)
  && Crypto.hssVerify k.pub k.levels (bs.drop sigOff) (bs.take sigOff)

/-- A failed verification counts and writes a WARN record (R386). -/
def State.verifyFailed (s : State) : State :=
  (s.bump (Blk.sec.at Reg.VERIFY_FAILS) 1).note sevWarn "verification failed" unitPackage []

/-! ### Free memory of a group (R199, R200, R235) -/

/-- Granules of a context's reservation (R200). -/
def State.reserveGranules (s : State) (c : Ctx) : Nat :=
  c.budget * ((s.attnOf c.group).map AttnEnt.pageGranules).foldl (· + ·) 0

/-- Bytes the generations and adapters of a group hold. -/
def State.weightBytes (s : State) (g : Nat) : Nat :=
  let i := s.inst g
  let gens := [i.active, i.next].filterMap id
  (gens.map (fun x => x.load.manifest.deviceBytes)).foldl (· + ·) 0
    + (i.adapters.map (fun a => (a.2.gens.map (fun x => x.load.manifest.deviceBytes)).foldl (· + ·) 0)).foldl
        (· + ·) 0

/-- Granules of a stack outside the system region (log 25). -/
def usableGranules (k : Nat) : Nat := 2500000000 - Config.systemGranules k

/-- Granules the reservations of a group's contexts take on a die. -/
def State.ctxGranules (s : State) (g d : Nat) : Nat :=
  ((s.contexts.filter (fun p => p.2.group == g && p.2.homeDie == d)).map
    (fun p => s.reserveGranules p.2)).foldl (· + ·) 0

/-- Free granules of channel k of a group: weights are spread evenly over the group's channels, and
frames evenly over its channels of the home die (log 25). -/
def State.freeGranules (s : State) (g k : Nat) : Nat :=
  let x := s.grp g
  usableGranules k - ceilDiv (ceilDiv (s.weightBytes g) 32) x.chans.length
    - ceilDiv (s.ctxGranules g (k / 3)) (x.dieChans (k / 3)).length
    - ceilDiv (((x.regions.filter (fun r => r.2.kind == 2 && r.2.unit == k / 3)).map (fun r => r.2.size)).foldl (· + ·) 0)
        (x.dieChans (k / 3)).length

/-- Free bytes of a group's stacks. -/
def State.freeBytes (s : State) (g : Nat) : Nat :=
  32 * (((s.grp g).chans.map (s.freeGranules g)).foldl (· + ·) 0)

/-- Home die of a new context (R199): that of the group's channel with the most free memory, the lower
die on a tie. -/
def State.homeDie (s : State) (g : Nat) : Option Nat :=
  ((s.grp g).chans.foldl (fun (best : Option (Nat × Nat)) k => match best with
    | none => some (s.freeGranules g k, k / 3)
    | some b => if b.1 < s.freeGranules g k then some (s.freeGranules g k, k / 3) else some b) none).map (·.2)

/-- Free granules of a group's channels on a die. -/
def State.dieFree (s : State) (g d : Nat) : Nat :=
  (((s.grp g).dieChans d).map (s.freeGranules g)).foldl (· + ·) 0

/-! ### Reading the manifest and the checks of R235 -/

/-- Key of a namespace of a storage target. -/
def nsKey (t ns : Nat) : Nat := t * 2 ^ 32 + ns % 2 ^ 32

/-- A namespace of a storage target that can be used: the target listed and connected, its blocks of 4,096 bytes
(R235, R266). -/
def State.targetUsable (s : State) (t ns : Nat) : Bool :=
  ((s.cfg.storage.getD t none).isSome) && s.port.connected.testBit t && s.port.blocks.get? (nsKey t ns) == some 4096

/-- The manifest's bytes at the first of two attempts that gives them; the reads are what the target
answered. -/
def State.fetchManifest (s : State) (loc : StorageLoc) (reads : Reads) : Option (List Byte) :=
  if s.targetUsable loc.target loc.ns then
    ((reads.take 2).filterMap (fun r => match r with
      | some b => if b.length = loc.len then some b else none
      | none => none)).head?
  else none

/-- Checks 1 to 5 of R235 on a manifest of a KIND, in order: the status of the first that fails. -/
def State.checkManifest (s : State) (x : Session) (g kind : Nat) (bs : List Byte) : Option Status :=
  let m := parseManifest bs
  if (m.format ≠ 1 ∧ m.format ≠ 2) ∨ x.manifests.testBit m.format = false then some .version
  else match s.keyOf m.keyId with
    | none => some .notAuthorised
    | some k =>
      if m.keyId ≠ x.key ∨ k.levels = 0 ∨ k.roles.testBit 1 = false then some .notAuthorised
      else if !signedBy bs (le bs 0x7C 4) k then some .badSignature
      else if !manifestRanges bs m kind then some .planInvalid
      else if s.freeBytes g < m.deviceBytes then some .noResource
      else none

/-- A load begun by a command. -/
def newLoad (bs : List Byte) (x : Session) (origin : Nat) : Load :=
  { manifest := parseManifest bs, key := x.key, sess := x.id, origin := origin, shards := [], data := []
    lostTargets := [], dir := [], places := [], report := [] }

/-- Count a failed check that is a failed verification (R386). -/
def State.countVerify (s : State) (st : Status) : State :=
  if st = .notAuthorised ∨ st = .badSignature then s.verifyFailed else s

/-! ### Conversion (R71 to R74, R80, R95 to R97) -/

def TensorEnt.fmt (t : TensorEnt) : Option TFmt :=
  match t.target with
  | 0 => some .mv4
  | 1 => some .mv2
  | 2 => some .mt
  | 3 => some .mv8
  | _ => none

/-- FP16 value of its 16 bits, or none for infinity and NaN. -/
def fp16Value (x : Nat) : Option Frac := if bitsAt x 10 5 = 31 then none else some (smallFloat x 5 10 15)

/-- The 32-element Microscaling block of an element, by its place along the blocks' axis and across it: the output
dimension under FLAGS[1], else the reduction dimension (R80, R234). -/
def TensorEnt.mxBlockOf (t : TensorEnt) (r c : Nat) : Nat × Nat := if t.flags.testBit 1 then (c / 32, r) else (r / 32, c)

/-- Exact value of one element of a converted tensor; none where R80 or R73 rejects it. -/
def TensorEnt.elem (t : TensorEnt) (bs : List Byte) (r c : Nat) : Option Frac :=
  let i := Config.elemIndex t.flags t.rows t.cols r c % (t.rows * t.cols)
  let n := t.rows * t.cols
  let fin := fun (w : Word) => if fpNonFinite w then none else some (fpValue w)
  let mx := fun (ty : MxType) (x sc : Nat) => (mxBlock ty sc [x]).map (fun l => l.headD ⟨0, 1⟩)
  let scaleAt := fun (base : Nat) =>
    let b := t.mxBlockOf r c
    le bs (base + Config.scaleIndex t.flags t.rows t.cols b.1 b.2 % t.mxBlocks) 1
  match t.source with
  | 0 => fin (word (le bs (4 * i) 4))
  | 1 => fin (fpOfBf16 (le bs (2 * i) 2))
  | 2 => fp16Value (le bs (2 * i) 2)
  | 3 => mx .int8 (le bs i 1) (scaleAt n)
  | 4 => mx .e4m3 (le bs i 1) (scaleAt n)
  | 5 => mx .e5m2 (le bs i 1) (scaleAt n)
  | 6 => mx .e2m1 (bitsAt (le bs (i / 2) 1) (4 * (i % 2)) 4) (scaleAt (n / 2))
  | _ => none

/-- What converting a tensor gives: its parts as the device holds them, each with the granules of its outlier list, the
largest absolute rounding error, and candidates left beyond the budget (R239). -/
structure Converted where
  parts : List (List Nat × Nat)
  error : Frac
  beyond : Nat

/-- A tile with the granules of its outlier list. -/
def tilePart (f : WFmt) (t : FormedTile) : List Nat × Nat :=
  let gs := tileGranules f t
  (gs, gs.length - f.bodyGranules)

/-- Tiles of a formed tile: of MV8 the high tile, then the low tile (R72). -/
def formedParts (f : TFmt) (t : FormedTile) : List (List Nat × Nat) :=
  match f with
  | .mv4 => [tilePart .mv4 t]
  | .mv2 => [tilePart .mv2 t]
  | .mt => [tilePart .mt t]
  | .mv8 =>
    [tilePart .mv4 { t with codes := t.codes.map (fun c => c.map (fun w => (mv8Split w).1)) }
    , tilePart .mv4 { t with codes := t.codes.map (fun c => c.map (fun w => (mv8Split w).2)) }]

/-- Largest |w − code × scale − residual| of a formed tile. -/
def tileError (cols : List (List Frac)) (t : FormedTile) : Frac :=
  maxFrac ((cols.zipIdx.map (fun (col, j) => col.zipIdx.map (fun (w, r) =>
    let e := t.scales.getD j 0
    let q := (t.codes.getD j []).getD r 0
    let base := if e = 0 then ⟨0, 1⟩ else Frac.dyadic q ((e : Int) - 127)
    let res := (t.list.filter (fun x => x.row == r && x.out == j)).map (fun x =>
      Frac.dyadic x.code ((t.listE8 : Int) - 127))
    ((w.sub base).sub (Frac.sum res)).abs))).flatten)

/-- Convert one tensor to array tiles: blocks of 256 rows, tiles of the format's outputs, padded with
zeros (R73, R74). None where the loader rejects the model; a channel factor that is 0, infinite or NaN rejects it
(DESIGN CHOICE for an infinite or NaN one: R74 is silent; log 132). -/
def convertTiles (t : TensorEnt) (f : TFmt) (budget ratio : Nat) (bs factors : List Byte) : Option Converted :=
  let rho := Frac.ofNat ratio
  let tiles := (List.range (ceilDiv t.rows 256)).flatMap (fun a =>
    (List.range (ceilDiv t.cols f.outs)).map (fun b => (a, b)))
  let elem := fun (r c : Nat) =>
    if t.rows ≤ r ∨ t.cols ≤ c then some ⟨0, 1⟩
    else match t.elem bs r c with
      | none => none
      | some v =>
        if t.flags.testBit 0 then
          let g := word (le factors (4 * c) 4)
          if fpNonFinite g ∨ (fpValue g).isZero then none else some (v.div (fpValue g))
        else some v
  let one := fun (p : Nat × Nat) =>
    ((List.range f.outs).mapM (fun j => (List.range 256).mapM (fun r =>
      elem (256 * p.1 + r) (f.outs * p.2 + j)))).bind (fun cols =>
        (formTile f budget rho (cols.map (fun c => c.map Num.fin))).map (fun ft =>
          (formedParts f ft, tileError cols ft, ft.beyond)))
  (tiles.mapM one).map (fun l =>
    { parts := (l.map (·.1)).flatten, error := maxFrac (l.map (·.2.1))
      beyond := (l.map (·.2.2)).foldl (· + ·) 0 })

/-- Bytes as granules. -/
def bytesGranules (bs : List Byte) : List Nat :=
  (chunksOf 32 bs.length bs).map Crypto.natLE

/-- BF16 nearest to a value, ties to even: the FP32 rounding of a mantissa of 8 bits. -/
def bf16OfFrac (a : Frac) : Nat :=
  let w := (fpOfFrac a).toNat
  let lo := w % 65536
  let hi := w / 65536
  if lo > 32768 ∨ (lo = 32768 ∧ hi % 2 = 1) then hi + 1 else hi

/-- Convert a tensor for the vector units: BF16 or FP32 values in the order of the source. -/
def convertPlain (t : TensorEnt) (bs : List Byte) : Option Converted :=
  let n := t.rows * t.cols
  ((List.range n).mapM (fun i => t.elem bs (i / t.cols) (i % t.cols))).map (fun vs =>
    let enc := fun (v : Frac) =>
      if t.target = 4 then Crypto.bytesLE 2 (bf16OfFrac v) else Crypto.bytesLE 4 (fpOfFrac v).toNat
    let back := fun (v : Frac) =>
      if t.target = 4 then fpValue (fpOfBf16 (bf16OfFrac v)) else fpValue (fpOfFrac v)
    { parts := [(bytesGranules ((vs.map enc).flatten), 0)], error := maxFrac (vs.map (fun v => (v.sub (back v)).abs))
      beyond := 0 })

/-- Native tiles with their lists (R234): every E8 is checked against R68, every MT code against R71, every list against
R97; none where one fails. -/
def nativeParts (f : WFmt) (bytes : Nat) (gs : List Nat) : Nat → Nat → Option (List (List Nat × Nat))
  | 0, _ => some []
  | n + 1, k =>
    let l := min 66 (Config.nativeList bytes k)
    let tile := gs.take (f.bodyGranules + l)
    match decodeTile f tile with
    | some (_, 0, _) => (nativeParts f bytes (gs.drop (f.bodyGranules + l)) n (k + 1)).map (fun r => (tile, l) :: r)
    | _ => none

/-- Native tiles are copied as they are. -/
def convertNative (t : TensorEnt) (bs : List Byte) : Option Converted :=
  let gs := bytesGranules bs
  let tiles := ceilDiv t.rows 256 * ceilDiv t.cols ((t.fmt.map TFmt.outs).getD 64) * (if t.target = 3 then 2 else 1)
  let parts := match t.target with
    | 1 => nativeParts .mv2 t.bytes gs tiles 0
    | 2 => nativeParts .mt t.bytes gs tiles 0
    | 0 => nativeParts .mv4 t.bytes gs tiles 0
    | 3 => nativeParts .mv4 t.bytes gs tiles 0
    | _ => some [(gs, 0)]
  parts.map (fun p => { parts := p, error := ⟨0, 1⟩, beyond := 0 })

/-- Outlier ratio of a tensor: as the manifest gives it, by default 8, and 8 always in format 1 (R95, R234). -/
def TensorEnt.rho (t : TensorEnt) (format : Nat) : Nat := if t.ratio = 0 ∨ format = 1 then 8 else t.ratio

/-- The plan that a group holds for a manifest: its staged one, else its current one. -/
def State.planFor (s : State) (g : Nat) (digest : List Byte) : Option Plan :=
  let x := s.grp g
  ([x.staged.bind (·.plan), x.current].filterMap id |>.map (·.plan)).find? (fun p => p.manifest == digest)

/-- Convert tensor i of a load, under the list budget that the group's plan declares for it (R95); a v2 plan's loader
extracts no outliers (R112). -/
def State.convertTensor (s : State) (g i : Nat) (m : Manifest) (t : TensorEnt) (bs factors : List Byte) : Option Converted :=
  let p := s.planFor g m.digest
  if t.source = 7 then convertNative t bs
  else match t.fmt with
    | some f => convertTiles t f (if (p.map (·.format)) = some 2 then 0 else min f.maxBudget (Config.listBudget p i))
        (t.rho m.format) bs factors
    | none => convertPlain t bs

/-! ### Places in device memory (R17, R182, R199) -/

/-- Granule i of data striped over some stacks from a granule on (R17, R182, R199). -/
def stripe (st : List Nat) (a i : Nat) : Nat :=
  if st.contains (a / stackGranules) then
    let v := st.idxOf (a / stackGranules) + i
    stackGranules * st.getD (v % st.length) 0 + (a % stackGranules + v / st.length) % stackGranules
  else a + i

/-- Data of n granules striped from a granule on hold a granule. -/
def stripeHolds (st : List Nat) (a n x : Nat) : Bool :=
  if st.contains (a / stackGranules) then
    let v := st.idxOf (a / stackGranules)
    let i := (x % stackGranules + stackGranules - a % stackGranules) % stackGranules * st.length + st.idxOf (x / stackGranules)
    st.contains (x / stackGranules) && decide (v ≤ i) && decide (i < v + n)
  else decide (a ≤ x) && decide (x < a + n)

/-- Stacks over which the data of a group at a granule are striped: those of its channels on that granule's die. -/
def Group.stripeStacks (x : Group) (a : Nat) : List Nat := x.dieChans (a / stackGranules / 3)

/-- Rows of each stack that n granules take. -/
def stripeRows (st : List Nat) (n : Nat) : Nat := ceilDiv n (max 1 st.length)

/-- Loads of a group: of its generations and its adapters'. -/
def State.loadsOf (s : State) (g : Nat) : List Load :=
  let i := s.inst g
  ([i.active, i.next].filterMap id).map (·.load) ++ i.adapters.flatMap (fun a => a.2.gens.map (·.load))

/-- Frames that a context holds or has reserved, with the rows of each. -/
def State.ctxRows (s : State) (c : Ctx) : List (Nat × Nat) :=
  let st := (s.grp c.group).dieChans c.homeDie
  (s.attnOf c.group).flatMap (fun a =>
    ((c.tables.getD a.layer []).map (·.frame) ++ c.free.getD a.layer []).map (fun f =>
      (f % stackGranules, stripeRows st a.pageGranules)))

/-- Rows of the stacks of a group on a die that are in use, as first row and number: its tensors, the frames of its
contexts, frames lent by the spill pool, and its plan's device regions. -/
def State.usedRows (s : State) (g die : Nat) : List (Nat × Nat) :=
  let st := (s.grp g).dieChans die
  let mine := s.contexts.filter (fun p => p.2.group == g && p.2.homeDie == die)
  (s.loadsOf g).flatMap (fun l => (l.places.filter (fun p => p.1 == die)).map (·.2))
  ++ mine.flatMap (fun p => s.ctxRows p.2)
  ++ (s.spill.queue.filter (fun q => mine.any (fun p => p.1 == q.ctx))).map (fun q =>
      (q.frame % stackGranules, stripeRows st q.granules))
  ++ ((s.grp g).preps.filter (fun q => q.lent && mine.any (fun p => p.1 == q.ctx))).map (fun q =>
      (q.frame % stackGranules, stripeRows st (((s.attnOf g).find? (fun a => a.layer == q.layer)).map AttnEnt.pageGranules |>.getD 0)))
  ++ ((s.grp g).regions.filter (fun r => r.2.kind == 2 && r.2.unit == die)).map (fun r => (r.2.base, stripeRows st r.2.size))

/-- n rows from r meet none that are in use. -/
def rowsFree (used : List (Nat × Nat)) (n r : Nat) : Bool := used.all (fun u => decide (r + n ≤ u.1) || decide (u.1 + u.2 ≤ r))

/-- First row of n free rows below a limit: the first from a hint on, else the first of all; the hint where none are free. -/
def firstFit (used : List (Nat × Nat)) (hint n limit : Nat) : Nat :=
  let ok := sortBy (fun (a b : Nat) => decide (a < b)) ((hint :: 0 :: used.map (fun u => u.1 + u.2)).filter (fun r =>
    decide (r + n ≤ limit) && rowsFree used n r))
  ((ok.find? (fun r => decide (hint ≤ r))).orElse (fun _ => ok.head?)).getD hint

/-- Rows of a group's stacks on a die below the system region. -/
def State.rowLimit (s : State) (g die : Nat) : Nat := (((s.grp g).dieChans die).map usableGranules).foldl min stackGranules

/-- A place of some rows on the stacks of a group on a die, where nothing else of the group is (log 26): its first row. -/
def State.newPlace (s : State) (g die rows : Nat) (taken : List (Nat × Nat)) : Nat :=
  let limit := s.rowLimit g die
  firstFit (s.usedRows g die ++ taken) (Config.frameAddr die s.fresh % max 1 limit) rows limit

/-- First granule of a row of the stacks of a group on a die. -/
def Group.rowAddr (x : Group) (die row : Nat) : Nat := stackGranules * (x.dieChans die).headD 0 + row

/-- Write granules striped over the stacks of a group on a die. -/
def State.putStriped (s : State) (st : List Nat) (a : Nat) (gs : List Nat) : State :=
  let addrs := (List.range gs.length).map (stripe st a)
  ((addrs.zip gs).foldl (fun (s : State) p => s.putGranule p.1 p.2) s).countWrites addrs

/-- A part of a converted tensor takes its place on a die of the group, and the tile directory its list's length (R97,
R182; which die's cores consume it is the Usher's, log 24). -/
def State.placePart (s : State) (g ident i : Nat) (l : Load) (k : Nat) (part : List Nat × Nat) : State × Load :=
  let x := s.grp g
  let dies := (List.range 4).filter (fun d => !(x.dieChans d).isEmpty)
  let die := dies.getD (Config.tileDie g ident i k % max 1 dies.length) 0
  let rows := stripeRows (x.dieChans die) part.1.length
  let r := s.newPlace g die rows []
  ({ s.putStriped (x.dieChans die) (x.rowAddr die r) part.1 with fresh := s.fresh + 1 }
  , { l with dir := l.dir.put (x.rowAddr die r) part.2, places := l.places ++ [(die, r, rows)] })

/-- Bytes off to off + n − 1 of the model's byte stream, from verified shards. -/
def Load.stream (l : Load) (off n : Nat) : List Byte :=
  ((List.range (ceilDiv (off + n) (2 ^ 30) - off / 2 ^ 30)).flatMap (fun k =>
    let i := off / 2 ^ 30 + k
    let d := l.data.getD i []
    Crypto.slice d (off - i * 2 ^ 30) (off + n - max off (i * 2 ^ 30))))

/-- Shards a tensor and its channel factors lie in. -/
def TensorEnt.shardsOf (t : TensorEnt) : List Nat :=
  let last := t.off + t.bytes + (if t.flags.testBit 0 then 4 * t.cols else 0)
  (List.range (ceilDiv last (2 ^ 30))).filter (fun i => decide (t.off / 2 ^ 30 ≤ i))

def Load.verified (l : Load) (i : Nat) : Bool := (l.shards.getD i ShardState.init).verified

/-! ### Loads in progress -/

/-- The load in progress that an event names: the model's, or that of an adapter identifier. -/
def State.loading? (s : State) (g : Nat) (ident : Option Nat) : Option Load :=
  match ident with
  | none => match (s.inst g).next with
    | some x => if x.phase = .loading then some x.load else none
    | none => none
  | some a => ((s.inst g).adapters.get? a).bind (fun ad =>
      (ad.gens.find? (fun x => !x.verified)).map (·.load))

/-- Replace the load in progress. -/
def State.setLoad (s : State) (g : Nat) (ident : Option Nat) (l : Load) : State :=
  match ident with
  | none => s.updInst g (fun i => { i with next := i.next.map (fun x =>
      if x.phase = .loading then { x with load := l } else x) })
  | some a => s.updInst g (fun i => { i with adapters := i.adapters.map (fun p =>
      if p.1 = a then (p.1, { p.2 with gens := p.2.gens.map (fun x =>
        if x.verified then x else { x with load := l }) }) else p) })

/-- Convert the tensors that a newly verified shard completes: the granules are written and the report
kept. None where a tensor is rejected. -/
def State.convertReady (s : State) (g : Nat) (ident : Option Nat) (shard : Nat) (l : Load) : Option (State × Load) :=
  (l.manifest.tensors.zipIdx.filter (fun (t, _) =>
      t.shardsOf.contains shard && t.shardsOf.all l.verified)).foldlM
    (fun (acc : State × Load) (t, i) =>
      let bs := l.stream t.off t.bytes
      let fs := if t.flags.testBit 0 then l.stream (t.off + t.bytes) (4 * t.cols) else []
      (acc.1.convertTensor g i l.manifest t bs fs).map (fun c =>
        let r := c.parts.zipIdx.foldl (fun (r : State × Load) p =>
          let s1 := r.1.placePart g (ident.getD 0) i r.2 p.2 p.1
          ((s1.1.setLoad g ident s1.2), s1.2)) acc
        (r.1, { r.2 with report := r.2.report.put i (fpOfFrac c.error, c.beyond) }))) (s, l)

/-- Discard the load in progress and its memory; an adapter with no generation left is gone. -/
def State.dropLoad (s : State) (g : Nat) (ident : Option Nat) : State :=
  match ident with
  | none => s.updInst g (fun i => { i with next := none })
  | some a => s.updInst g (fun i =>
      let ads := i.adapters.map (fun p =>
        if p.1 = a then (p.1, { p.2 with gens := p.2.gens.filter (·.verified) }) else p)
      { i with adapters := ads.filter (fun p => !p.2.gens.isEmpty) })

/-- Last target an attempt at a shard went to. -/
def ShardState.lastTarget (x : ShardState) : Nat := x.tried.getLastD 0xFF

/-- The outcome notice of a load (Table 10-6). A generation that never became active is reported as 0
(log 31). -/
def State.loadNotice (s : State) (g : Nat) (ident : Option Nat) (l : Load) (st : Status) (shard : Option Nat) :
    State :=
  let x := match shard with
    | some i => l.shards.getD i ShardState.init
    | none => ShardState.init
  let i := shard.getD 0xFFFF
  match ident with
  | none => s.notice l.sess 0x22 l.origin st [g, 0, i, x.attempts, x.lastTarget]
  | some a =>
    let num := ((((s.inst g).adapters.get? a).map (fun ad => ad.gens)).getD []).foldl (fun m y => max m y.num) 0
    s.notice l.sess 0x30 l.origin st [a, num, i, x.attempts]

/-- A load fails or is aborted (R238): its notice, an ERROR record naming the shard, its attempts and
the targets tried, and everything discarded. -/
def State.failLoad (s : State) (g : Nat) (ident : Option Nat) (st : Status) (shard : Option Nat) : State :=
  match s.loading? g ident with
  | none => s
  | some l =>
    let x := match shard with
      | some i => l.shards.getD i ShardState.init
      | none => ShardState.init
    let s1 := (s.loadNotice g ident l st shard).dropLoad g ident
    s1.note sevError "load failed" unitPort
      (Crypto.bytesLE 2 (shard.getD 0xFFFF) ++ Crypto.bytesLE 1 x.attempts ++ x.tried.map (fun t => BitVec.ofNat 8 t))

/-- Place in a shard's list, and target, of its next attempt: the primary, then the alternates in order, then the primary
again, passing over targets given up or unusable (R237). -/
def State.nextTarget (s : State) (l : Load) (i : Nat) : Option (Nat × Nat) :=
  let e := l.manifest.shards.getD i ⟨0, [], [], 0, 0⟩
  let x := l.shards.getD i ShardState.init
  ((List.range e.targets.length).map (fun k =>
    let p := (x.pos + k) % e.targets.length
    (p, e.targets.getD p 0))).find? (fun t => s.targetUsable t.2 e.ns && !(l.lostTargets.contains t.2))

/-- Attempts in progress of a load. -/
def Load.activeShards (l : Load) : List Nat := (l.shards.filter (fun p => p.2.active.isSome)).map (·.1)

/-- Status of a load whose shard can have no further attempt (R238). -/
def ShardState.failure (x : ShardState) : Status := if x.mismatch then .digestMismatch else .shardMissing

/-- A shard of a load that waits for an attempt can have none. -/
def State.hopeless (s : State) (l : Load) (i : Nat) : Bool :=
  let x := l.shards.getD i ShardState.init
  !x.verified && x.active.isNone && (decide (4 ≤ x.attempts) || (s.nextTarget l i).isNone)

/-- A load with such a shard fails at once (R237, R238). -/
def State.failHopeless (s : State) (g : Nat) (ident : Option Nat) : State :=
  match s.loading? g ident with
  | none => s
  | some l => match (List.range l.manifest.shards.length).find? (s.hopeless l) with
    | some i => s.failLoad g ident (l.shards.getD i ShardState.init).failure (some i)
    | none => s

/-- An attempt at a shard fails (R237, R238): the load fails after the fourth attempt or where no
target is left. -/
def State.attemptFails (s : State) (g : Nat) (ident : Option Nat) (i : Nat) (mismatch : Bool) : State :=
  match s.loading? g ident with
  | none => s
  | some l =>
    let x := l.shards.getD i ShardState.init
    (s.setLoad g ident { l with shards := l.shards.put i { x with active := none, mismatch := mismatch } }).failHopeless g ident

/-- Reads of up to 1 MiB that fetch some bytes from a block on (R236). -/
def shardReads (t : Nat) (e : ShardEnt) : List StorageLoc :=
  (List.range (ceilDiv e.len (2 ^ 20))).map (fun k => ⟨t, e.ns, e.lba + 256 * k, min (2 ^ 20) (e.len - 2 ^ 20 * k)⟩)

/-- Begin the next attempt at a shard (R236, R237): one of up to 32 at once, shards started in
ascending order. -/
def State.fetchShard (s : State) (g : Nat) (ident : Option Nat) (i : Nat) : State :=
  match s.loading? g ident with
  | none => s
  | some l =>
    let x := l.shards.getD i ShardState.init
    if l.manifest.shards.length ≤ i ∨ x.verified ∨ x.active.isSome ∨ 32 ≤ l.activeShards.length
        ∨ !((List.range i).all (fun k => decide (0 < (l.shards.getD k ShardState.init).attempts))) then s
    else match s.nextTarget l i with
      | none => s.failLoad g ident x.failure (some i)
      | some (p, t) =>
        let l1 := { l with shards := l.shards.put i { x with
          attempts := x.attempts + 1, active := some t, tried := x.tried ++ [t], pos := p + 1 } }
        (shardReads t (l.manifest.shards.getD i ⟨0, [], [], 0, 0⟩)).foldl (fun (s : State) r => s.send (.nvmeRead r 4))
          ((s.setLoad g ident l1).updInst g (fun n => { n with shardAttempts := n.shardAttempts + 1 }))

/-- Every shard of a load is verified. -/
def Load.complete (l : Load) : Bool := (List.range l.manifest.shards.length).all l.verified

/-- A load completes (R239): the generation is LOADED, or the adapter generation verified, and the
notice carries ST_OK. -/
def State.finishLoad (s : State) (g : Nat) (ident : Option Nat) (l : Load) : State :=
  let s1 := s.loadNotice g ident l .ok none
  match ident with
  | none => s1.updInst g (fun i => { i with next := i.next.map (fun x => { x with phase := .loaded, load := l }) })
  | some a => s1.updInst g (fun i => { i with adapters := i.adapters.map (fun p =>
      if p.1 = a then (p.1, { p.2 with gens := p.2.gens.map (fun x =>
        if x.verified then x else { x with verified := true, load := l }) }) else p) })

/-- The data of an attempt are complete (R236): a digest that matches verifies the shard and converts
what it completes; one that does not fails the attempt. -/
def State.checkShard (s : State) (g : Nat) (ident : Option Nat) (i : Nat) (data : List Byte) : State :=
  match s.loading? g ident with
  | none => s
  | some l =>
    let x := l.shards.getD i ShardState.init
    let e := l.manifest.shards.getD i ⟨0, [], [], 0, 0⟩
    if x.active.isNone then s
    else if data.length ≠ e.len ∨ Crypto.sha256 data ≠ e.digest then s.attemptFails g ident i true
    else
      let l1 := { l with shards := l.shards.put i { x with active := none, verified := true }
                         data := l.data.put i data }
      match s.convertReady g ident i l1 with
      | none => (s.setLoad g ident l1).failLoad g ident .planInvalid (some i)
      | some (s1, l2) =>
        if l2.complete then s1.finishLoad g ident l2 else s1.setLoad g ident l2

/-- A storage target is lost to every load in progress: it is not used again for them, and attempts on
it fail (R237). -/
def State.loseTarget (s : State) (t : Nat) : State :=
  let loads := (List.range 12).flatMap (fun g =>
    (g, none) :: (s.inst g).adapters.map (fun p => (g, some p.1)))
  loads.foldl (fun (s : State) (p : Nat × Option Nat) =>
    match s.loading? p.1 p.2 with
    | none => s
    | some l =>
      let s1 := s.setLoad p.1 p.2 { l with lostTargets := if l.lostTargets.contains t then l.lostTargets else l.lostTargets ++ [t] }
      ((l.activeShards.filter (fun i => (l.shards.getD i ShardState.init).active == some t)).foldl
        (fun (s : State) i => s.attemptFails p.1 p.2 i false) s1).failHopeless p.1 p.2) s

end Sys2Proof.Machine
end

