-- ==== Sys2Proof/Machine/HostBoot.lean ====
section
/-!
DEFINITION. Firmware delivery (R319 to R323), operator keys (R383 to R385), signing state and
attestation quotes (R379 to R381, R387 to R390).
-/

namespace Sys2Proof.Machine

open Sys2Proof

/-! ### Phases -/

/-- Microseconds since RST_N release: the counter less what steps of it have added (R330). -/
def State.sinceReset (s : State) : Nat := (((s.time.ns : Int) - s.time.jumped).toNat) / 1000

/-- A start-up phase ends and the next begins (R315, R330). -/
def State.endPhase (s : State) (p : Nat) : State :=
  { s with boot := { s.boot with ends := s.boot.ends.put p s.sinceReset, phase := p + 1, waiting := false } }

/-! ### Firmware (R319 to R323) -/

/-- Largest image (R319). -/
def imageMax : Nat := 2 ^ 26

/-- The byte at an offset of an upload, from the newest part that covers it. -/
def partByte : List (Nat × List Byte) → Nat → Option Byte
  | [], _ => none
  | (o, bs) :: rest, k => if o ≤ k ∧ k < o + bs.length then bs[k - o]? else partByte rest k

/-- All bytes of an upload; none where some are missing. -/
def Upload.bytes (u : Upload) : Option (List Byte) := (List.range u.len).mapM (partByte u.parts)

/-- FW_BEGIN (Table 12-4). -/
def runFwBegin (s : State) (h : Hdr) (len : Nat) (digest : List Byte) : Ans :=
  if !s.boot.inRom then .fail s .conflict
  else if (match s.boot.upload with
      | some u => decide (u.sess ≠ h.sess)
      | none => false) then .fail s .busy
  else if imageMax < len then .fail s .noResource
  else .ok { s with boot := { s.boot with upload := some ⟨h.sess, len, digest, []⟩ } }

/-- FW_DATA (Table 12-4). -/
def runFwData (s : State) (h : Hdr) (off : Nat) (data : List Byte) : Ans :=
  match s.boot.upload with
  | none => .fail s .conflict
  | some u =>
    if u.sess ≠ h.sess then .fail s .notAuthorised
    else if 8192 < data.length ∨ u.len < off + data.length then .fail s .conflict
    else .ok { s with boot := { s.boot with upload := some { u with parts := (off, data) :: u.parts } } }

/-- The checks of R322 on an image, in order: status and DETAIL of the first that fails. -/
def State.checkImage (s : State) (u : Upload) (bs : List Byte) : Option (Status × Nat) :=
  let sigOff := le bs 0x10 4
  let key := Crypto.slice bs 0x20 56
  if Crypto.sha256 bs ≠ u.digest then some (.digestMismatch, 0)
  else if bs.length < 0x58 + 2828 ∨ le bs 0 4 ≠ 0x3857464D ∨ le bs 0xC 4 ≠ bs.length
      ∨ sigOff + 2828 ≠ bs.length then some (.badSignature, 3)
  else if Crypto.sha256 key ≠ Config.vendorHash 0 ∧ Crypto.sha256 key ≠ Config.vendorHash 1 then
    some (.badSignature, 1)
  else if le bs 8 4 < s.nvm.floor then some (.badSignature, 2)
  else if !Crypto.lmsVerify key (bs.drop sigOff) (bs.take sigOff) then some (.badSignature, 0)
  else none

/-- Hand control to a verified image (R323): phases 10 and 11 end. -/
def handOver (bs : List Byte) (s : State) : State :=
  let s0 := (s.endPhase 10).endPhase 11
  let s1 := match s.boot.tripRecord with
    | some b => s0.note sevFatal "thermal trip" unitPackage (b.take 62)
    | none => s0
  { s1 with boot := { s1.boot with
      tripRecord := none, inRom := false, fwVersion := le bs 4 4, fwDigest := Crypto.sha256 bs, fwSec := le bs 8 4
      entry := le bs 0x14 4, handover := false } }

/-- FW_COMMIT (R320, R322, R323): a failed verification discards the upload, counts, and writes an
ERROR and a WARN record. -/
def runFwCommit (s : State) (h : Hdr) : Ans :=
  match s.boot.upload with
  | none => .fail s .conflict
  | some u =>
    if u.sess ≠ h.sess then .fail s .notAuthorised
    else match u.bytes with
      | none => .fail s .conflict
      | some bs =>
        let s1 := { s with boot := { s.boot with upload := none } }
        match s.checkImage u bs with
        | some (st, detail) =>
          let s2 := s1.setReg (Blk.boot.at Reg.FW_LAST_REJECT) (word (st.code + 256 * detail))
          let s3 := s2.note sevError "firmware rejected" unitPackage (Crypto.bytesLE 1 detail)
          { s := s3.verifyFailed, st := st, detail := detail }
        | none =>
          { s := { s1 with boot := { s1.boot with fwValid := true, handover := true } }, st := .ok
            after := handOver bs }

/-! ### Operator keys (R383 to R385) -/

/-- Lowest free slot of the key store. -/
def Nvm.freeSlot (n : Nvm) : Option Nat := (List.range 32).find? (fun i => (n.keys.get? i).isNone)

/-- The fields of Table 15-2 fit their layout. -/
def enrolFits (r : List Byte) : Bool :=
  (r.length == 0x98 || r.length == 0x98 + 2832 || r.length == 0x98 + 5716)
  && decide (le r 8 1 < 8) && decide (le r 9 1 ≤ 2) && le r 0xA 2 == 0
  && decide (le r 4 4 ≠ 0) && decide (le r 4 4 ≠ 0xFFFFFFFF)

/-- Step 4 of R384. -/
def State.enrolSigned (s : State) (x : Session) (r : List Byte) : Bool :=
  let signer := le r 0xC 4
  if signer = 0 then
    r.length == 0x98 && decide (s.nvm.keys.length = 1) && (match s.keyOf x.key with
      | some k => k.custody
      | none => false)
  else match s.keyOf signer with
    | none => false
    | some k => k.roles.testBit 2 && decide (0 < k.levels)
        && r.length == 0x98 + (if k.levels = 2 then 5716 else 2832)
        && Crypto.hssVerify k.pub k.levels (r.drop 0x98) (r.take 0x98)

/-- KEY_ENROL (R384). -/
def runKeyEnrol (s : State) (h : Hdr) (r : List Byte) : Ans :=
  match s.session? h.sess with
  | none => .fail s .conflict
  | some x =>
    if !enrolFits r ∨ le r 0 4 ≠ 0x4B45384D ∨ Crypto.slice r 0x10 16 ≠ s.serialBytes then .fail s .conflict
    else if (s.keyOf (le r 4 4)).isSome then .fail s .conflict
    else match s.nvm.freeSlot with
      | none => .fail s .noResource
      | some slot =>
        if !s.enrolSigned x r then .fail s.verifyFailed .badSignature
        else
          let key := Crypto.hkdf x.h2d s.serialBytes (Crypto.ascii "mct-enrol") 32
          match Crypto.gcmOpen key (Crypto.slice r 0x5C 12) (r.take 0x5C) (Crypto.slice r 0x68 32)
              (Crypto.slice r 0x88 16) with
          | none => .fail s.verifyFailed .badSignature
          | some secret =>
            let k : OpKey :=
              { id := le r 4 4, secret := secret, roles := le r 8 1, levels := le r 9 1
                pub := Crypto.slice r 0x20 60, custody := false }
            .ok (({ s with nvm := { s.nvm with keys := s.nvm.keys.put slot k } }).note sevInfo "key enrolled"
              unitPackage (Crypto.bytesLE 4 k.id))

/-- Loads and the probe fetch in progress under a key fail (R385). -/
def State.failUnder (s : State) (key : Nat) : State :=
  let loads := (List.range 12).flatMap (fun g =>
    (g, none) :: (s.inst g).adapters.map (fun p => (g, some p.1)))
  let s1 := loads.foldl (fun (s : State) (p : Nat × Option Nat) =>
    match s.loading? p.1 p.2 with
    | none => s
    | some l => if l.key = key then s.failLoad p.1 p.2 .notAuthorised none else s) s
  match s1.probe.loading with
  | some f =>
    if f.key = key then
      ({ s1 with probe := { s1.probe with loading := none } }).notice f.sess 0x72 f.seq .notAuthorised [0, 0, 0]
    else s1
  | none => s1

/-- What follows a revocation (R385): its loads fail, its sessions depart, and its contexts and adapters
are freed once their requests have ended. -/
def revoked (key : Nat) (s : State) : State :=
  let s1 := s.failUnder key
  let s2 := (s1.sessions.filter (fun x => x.key == key)).foldl (fun (s : State) x => s.depart x.id) s1
  { s2 with
    contexts := s2.contexts.map (fun p => if p.2.key = key then (p.1, { p.2 with orphan := true }) else p)
    insts := s2.insts.map (fun p => (p.1, { p.2 with
      adapters := p.2.adapters.map (fun a => if a.2.key = key then (a.1, { a.2 with unloaded := true }) else a) })) }

/-- KEY_REVOKE (R385, Table 10-7). -/
def runKeyRevoke (s : State) (key : Nat) : Ans :=
  match s.keyOf key with
  | none => .fail s .conflict
  | some k =>
    if k.roles.testBit 2 ∧ s.nvm.admins ≤ 1 then .fail s .conflict
    else
      { s := { s with nvm := { s.nvm with keys := s.nvm.keys.filter (fun p => p.2.id != key) } }, st := .ok
        after := revoked key }

/-! ### Signing state (R379 to R381) -/

/-- Write a copy of the signing state over the older copy, with the sequence number raised. -/
def Nvm.putSign (n : Nvm) (c : SignCopy) : Nvm :=
  let c1 := { c with seq := n.signCopy.seq + 1, valid := true }
  if !n.signA.valid then { n with signA := c1 }
  else if !n.signB.valid then { n with signB := c1 }
  else if n.signB.seq > n.signA.seq then { n with signA := c1 } else { n with signB := c1 }

/-- Build the next bottom tree once 768 blocks of the current one are used (R381). -/
def State.buildIfDue (s : State) : State :=
  if 768 * 1024 ≤ s.nvm.signCopy.bottomEnd ∧ !s.sec.built then { s with sec := { s.sec with building := true } }
  else s

/-- Reserve a block of the bottom tree (R380). -/
def State.reserveBottom (s : State) : State :=
  let c := s.nvm.signCopy
  let s1 := { s with
    nvm := s.nvm.putSign { c with bottomEnd := c.bottomEnd + 1024 }
    sec := { s.sec with leaf := c.bottomEnd, blockEnd := c.bottomEnd + 1024 } }
  s1.buildIfDue

/-- Reserve a block of the top tree where none of the block in force is left. -/
def State.reserveTop (s : State) : State :=
  if s.sec.topLeaf < s.sec.topBlockEnd then s
  else
    let c := s.nvm.signCopy
    { s with
      nvm := s.nvm.putSign { c with topEnd := c.topEnd + 1024 }
      sec := { s.sec with topLeaf := c.topEnd, topBlockEnd := c.topEnd + 1024 } }

/-- The built tree takes over (R381): its top-tree leaf is the last one used. -/
def State.takeOver (s : State) : State :=
  let c := s.nvm.signCopy
  { s with
    nvm := s.nvm.putSign { c with bottomTree := s.sec.topLeaf - 1, bottomEnd := 0 }
    sec := { s.sec with leaf := 0, blockEnd := 0, built := false } }

/-- Make a leaf ready: true where one is, reserving a block or taking over as needed. -/
def State.leafReady (s : State) : State × Bool :=
  if s.sec.reserving then (s, false)
  else if s.sec.leaf < s.sec.blockEnd then (s, true)
  else if s.nvm.signCopy.bottomEnd < treeLeaves then (s.reserveBottom, true)
  else if s.sec.built then (s.takeOver.reserveBottom, true)
  else (s.buildIfDue, false)

/-! ### Quotes (R387 to R390) -/

/-- State of a group in a quote. -/
def Group.quoteState (g : Group) : Nat :=
  if !g.formed then 0 else if g.current.isNone then 1 else if g.suspended then 3 else 2

/-- Section 0: the group entries. -/
def State.quoteGroups (s : State) : List Byte :=
  (List.range 12).flatMap (fun i =>
    let g := s.grp i
    if !g.formed then List.replicate 116 0
    else
      let n := s.inst i
      let adapters := (n.adapters.filter (fun a => a.2.gens.any (fun x => x.num == a.2.current && x.verified))).flatMap
        (fun a => Crypto.bytesLE 4 a.1 ++ Crypto.bytesLE 4 a.2.current
          ++ (((a.2.gens.find? (fun x => x.num == a.2.current)).map (fun x => x.load.manifest.digest)).getD []))
      Crypto.bytesLE 2 g.channels ++ Crypto.bytesLE 1 g.kind ++ Crypto.bytesLE 1 g.quoteState
        ++ Crypto.bytesLE 8 ((g.current.map (fun p => p.plan.planId)).getD 0)
        ++ ((g.current.map (·.digest)).getD (List.replicate 32 0))
        ++ Crypto.bytesLE 8 ((n.active.map (·.id)).getD 0)
        ++ ((n.active.map (fun x => x.load.manifest.digest)).getD (List.replicate 32 0))
        ++ Crypto.sha256 adapters)

/-- A column's values as the fields of a digest. -/
def colFields (v : ColVal) : List Nat := [v.pTrim, v.nTrim, v.convTap, v.g, fieldOfInt 8 v.o]

/-- Digest of one array (R390), over the byte encodings the spec does not lay out (log 27). -/
def arrayDigest (a : ArrayCal) : List Byte :=
  let set := fun (i : Nat) => match a.sets.get? i with
    | none => List.replicate 32 (0 : Byte)
    | some x => Config.recordBytes "calibration set"
        ([fieldOfInt 16 x.temp, x.load, x.time, x.csTol, x.refTol]
          ++ (List.range 530).flatMap (fun c => colFields (x.cols.getD c ColVal.nominal) ++ [flag (x.suspects.contains c)]))
  Crypto.sha256 ((List.range 4).flatMap set
    ++ Config.recordBytes "repair maps" ((a.colMap.flatMap (fun p => [p.1, p.2])) ++ [65536]
        ++ (a.rowMap.flatMap (fun p => [p.1, p.2])))
    ++ Config.recordBytes "values in force" ((List.range 546).flatMap (fun c => colFields (a.inForce.getD c ColVal.nominal)))
    ++ Config.recordBytes "tolerances" [a.csTol, a.refTol])

/-- Calibration digest (R390): every array of every good core, ascending. -/
def State.calDigest (s : State) : List Byte :=
  Crypto.sha256 (((List.range 576).filter s.good).flatMap (fun c =>
    (List.range 32).flatMap (fun k => arrayDigest (s.arr (c * 32 + k)).cal)))

/-- Section 1: calibration. -/
def State.quoteCal (s : State) : List Byte :=
  let count := fun (p : ArrayCal → Nat) => (s.arrays.map (fun x => p x.2.cal)).foldl (· + ·) 0
  s.calDigest ++ Crypto.bytesLE 2 (count (fun a => flag a.extrap)) ++ Crypto.bytesLE 2 (count (fun a => flag a.aboveBound))
    ++ Crypto.bytesLE 4 (count (fun a => a.suspectCols.length + a.suspectRows.length))
    ++ Crypto.bytesLE 2 ((s.cores.filter (fun p => p.2.fenced)).length)
    ++ [BitVec.ofNat 8 (flag s.startupDone), 0] ++ Crypto.bytesLE 4 s.sec.committed

/-- The items of Table 10-3. -/
def cfgItems : List CfgKey :=
  [.phyMode, .vlan, .priorities, .macsec, .ipv4, .ipv6, .mctPort, .announce, .ptp, .storage, .sessionLimit]

/-- Section 2: configuration and keys. -/
def State.quoteCfg (s : State) : List Byte :=
  let keys := sortBy (fun (a b : OpKey) => decide (a.id < b.id)) (s.nvm.keys.map (·.2))
  Crypto.sha256 (Config.recordBytes "configuration record" (cfgItems.flatMap (cfgFields s.nvm.cfg)))
    ++ Crypto.sha256 (keys.flatMap (fun k => Crypto.bytesLE 4 k.id ++ Crypto.bytesLE 1 k.roles ++ k.pub))

/-- The three sections now. -/
def State.quoteSections (s : State) : List (List Byte) := [s.quoteGroups, s.quoteCal, s.quoteCfg]

/-- Take the sections at the close of a boundary window (R388). -/
def State.snapQuote (s : State) : State := { s with sec := { s.sec with snap := some s.quoteSections } }

/-- The bytes a quote signs (Table 15-3). -/
def State.quoteBytes (s : State) (nonce : List Byte) (scope : Nat) : List Byte :=
  let rd := fun (a : Nat) => (s.readReg a).toNat
  let secs := match s.sec.snap with
    | some l => if s.anyRuns then l else s.quoteSections
    | none => s.quoteSections
  let body := Crypto.bytesLE 2 scope ++ nonce ++ s.serialBytes ++ Crypto.bytesLE 4 (rd Reg.DEVICE_ID)
    ++ Crypto.bytesLE 4 s.boot.fwVersion ++ s.boot.fwDigest ++ Crypto.bytesLE 4 s.nvm.floor
    ++ Crypto.bytesLE 2 (rd Reg.ROM_VERSION) ++ Crypto.bytesLE 2 s.goodCount ++ Crypto.bytesLE 8 s.time.ns
    ++ Crypto.bytesLE 1 s.time.ptp ++ [0, 0, 0] ++ Crypto.bytesLE 4 s.nvm.bootCount
    ++ (List.range 3).flatMap (fun i => if scope.testBit i then secs.getD i [] else [])
  Crypto.bytesLE 4 0x5154384D ++ Crypto.bytesLE 2 (body.length + 6) ++ body

/-- The device certificate (R389). -/
def State.certificate (s : State) : List Byte :=
  Crypto.bytesLE 4 0x5443384D ++ s.serialBytes ++ Crypto.bytesLE 4 (s.readReg Reg.DEVICE_ID).toNat
    ++ Crypto.bytesLE 4 s.nvm.certDate ++ s.nvm.idPub ++ s.nvm.certKey ++ s.nvm.certSig

/-- The signature of a quote, 5,716 bytes of a free value (log 29). -/
def signatureBytes (tree leaf : Nat) (msg : List Byte) : List Byte :=
  (Config.quoteSignature tree leaf msg ++ List.replicate 5716 0).take 5716

/-- ATTEST_QUOTE (R381, R387). -/
def runAttestQuote (s : State) (nonce : List Byte) (scope : Nat) : Ans :=
  if 8 ≤ scope ∨ nonce.length ≠ 32 then .fail s .conflict
  else if scope = 0 then .ok s (s.certificate.map (·.toNat))
  else
    let r := s.leafReady
    if !r.2 then .fail r.1 .busy
    else
      let s1 := r.1
      let msg := s1.quoteBytes nonce scope
      let sig := signatureBytes s1.nvm.signCopy.bottomTree s1.sec.leaf msg
      .ok (({ s1 with sec := { s1.sec with leaf := s1.sec.leaf + 1 } }).bump (Blk.sec.at Reg.QUOTES) 1)
        ((msg ++ sig).map (·.toNat))

end Sys2Proof.Machine
end

