-- ==== Sys2Proof/Machine/Routes.lean ====
section
/-!
DEFINITION. Routes and reservations (R170 to R175, R181 to R183, R194): the links a flow crosses and the virtual
channels it takes, detours, the paths of Table 7-1, and whether flows hold on them.
-/

namespace Sys2Proof.Machine

open Sys2Proof

def sumNats (l : List Nat) : Nat := l.foldl (· + ·) 0

/-! ### Routes (R174, R175) -/

/-- Virtual channels of a traffic class (R175). -/
abbrev vcX : Nat := 0
abbrev vcY : Nat := 1
abbrev vcTransit : Nat := 2
abbrev vcDetour : Nat := 3

/-- One router output that a route crosses, keyed cluster × 8 + port, and the virtual channel on it. -/
abbrev Hop := Nat × Nat

/-- Moves along X, then along Y, from one cluster of a die to another. -/
def xMoves (a b : Nat) : List Nat :=
  if clusterCol a < clusterCol b then List.replicate (clusterCol b - clusterCol a) 2
  else List.replicate (clusterCol a - clusterCol b) 4
def yMoves (a b : Nat) : List Nat :=
  if clusterRow a < clusterRow b then [3] else if clusterRow b < clusterRow a then [1] else []
def dieMoves (a b : Nat) (xFirst : Bool) : List Nat :=
  if xFirst then xMoves a b ++ yMoves a b else yMoves a b ++ xMoves a b

/-- Router outputs that a sequence of moves crosses on a channel. -/
def moveHops (vc : Nat) : Nat → List Nat → List Hop
  | _, [] => []
  | c, d :: rest => (c * 8 + d, vc) :: (match meshNeighbour c d with
    | some n => moveHops vc (c / 8 * 8 + n) rest
    | none => [])

/-- A route from a cluster to another over the ring: clockwise by DL-E, which leaves at C7 and enters at C6, or
anticlockwise by DL-S, which leaves at C6 and enters at C7. A flit that has crossed a link and is bound for a further one
is in transit (R175). -/
def ringHops (xFirst cw : Bool) : Nat → Nat → Nat → Bool → List Hop
  | 0, _, _, _ => []
  | n + 1, a, b, crossed =>
    let own := if xFirst then vcX else vcY
    if a / 8 = b / 8 then moveHops own a (dieMoves a b xFirst)
    else
      let vc := if crossed then vcTransit else own
      let exit := a / 8 * 8 + (if cw then 7 else 6)
      let enter := linkPeer (a / 8) (!cw) * 8 + (if cw then 6 else 7)
      moveHops vc a (dieMoves a exit xFirst) ++ [(exit * 8 + (if cw then 2 else 3), vc)] ++ ringHops xFirst cw n enter b true

/-- The route of an order and a direction between two clusters. -/
def orderRoute (a b : Nat) (xFirst cw : Bool) : List Hop := ringHops xFirst cw 4 a b false

/-- Clockwise is the way between two dies: the shorter, clockwise between opposite dies. -/
def clockwise (a b : Nat) : Bool := decide ((b + 4 - a) % 4 ≤ 2)

/-- A router output is in service, and so is every one of a route. -/
def State.keyUp (s : State) (k : Nat) : Bool := s.portUp (k / 8) (k % 8)
def State.routeUp (s : State) (r : List Hop) : Bool := r.all (fun h => s.keyUp h.1)

/-- Next clusters over links in service, with the outputs that lead there. -/
def State.nextHops (s : State) (c : Nat) : List (Nat × Nat) :=
  let mesh := [1, 2, 3, 4].filterMap (fun d => (meshNeighbour c d).map (fun n => (c * 8 + d, c / 8 * 8 + n)))
  let ring := if c % 8 = 7 then [(c * 8 + 2, linkPeer (c / 8) false * 8 + 6)]
    else if c % 8 = 6 then [(c * 8 + 3, linkPeer (c / 8) true * 8 + 7)] else []
  (mesh ++ ring).filter (fun p => s.keyUp p.1)

/-! ### Detours (R175, R194) -/

/-- Breadth-first levels of the clusters that links in service connect with the first ones. -/
def State.growTree (s : State) : Nat → List (Nat × Nat) → List (Nat × Nat)
  | 0, found => found
  | n + 1, found =>
    s.growTree n ((found.flatMap (fun p => (s.nextHops p.1).map (fun h => (h.2, p.2 + 1)))).foldl
      (fun acc p => if acc.any (fun q => q.1 == p.1) then acc else acc ++ [p]) found)

/-- The spanning tree of the links in service: each cluster's level under D0.C0, at which its root stands (log 32). -/
def State.spanningTree (s : State) : List (Nat × Nat) := s.growTree 32 [(0, 0)]

/-- The link from a cluster to another leads up: toward the root by level, then by index. -/
def leadsUp (tree : List (Nat × Nat)) (a b : Nat) : Bool :=
  match tree.lookup a, tree.lookup b with
  | some i, some j => decide (j < i) || (i == j && decide (b < a))
  | _, _ => false

/-- Up*/down* routes outward from where some end, one link at a time, the first found to each cluster kept for either way:
no link leads up after one that leads down, so the detour channel's dependencies form no cycle. -/
def State.upDown (s : State) (tree : List (Nat × Nat)) : Nat → List ((Nat × Bool) × List Nat) → List ((Nat × Bool) × List Nat)
  | 0, found => found
  | n + 1, found =>
    let more := found.flatMap (fun p => (s.nextHops p.1.1).filterMap (fun h =>
      let up := leadsUp tree p.1.1 h.2
      if up && p.1.2 then none else some ((h.2, !up), p.2 ++ [h.1])))
    s.upDown tree n (more.foldl (fun acc p => if acc.any (fun q => q.1 == p.1) then acc else acc ++ [p]) found)

/-- Hops of a route in the channels of a flow's order up to its first turn away from it, and in the detour channel from
there on. -/
def detourHops : List Hop → List Nat → List Hop
  | h :: order, k :: rest => if h.1 = k then h :: detourHops order rest else (k :: rest).map (fun k => (k, vcDetour))
  | [], l => l.map (fun k => (k, vcDetour))
  | _, [] => []

/-- The detour between two clusters, if any. -/
def State.detour (s : State) (a b : Nat) : Option (List Hop) :=
  ((s.upDown s.spanningTree 64 [((a, false), [])]).find? (fun p => p.1.1 == b)).map (fun p =>
    detourHops (orderRoute a b true (clockwise (a / 8) (b / 8))) p.2)

/-! ### The routes a flow may take -/

/-- A route passes a stack-edge or port router in which it neither starts nor ends (R183). -/
def passesEdge (a b : Nat) (r : List Hop) : Bool :=
  r.any (fun h =>
    let c := h.1 / 8
    decide (c ≠ a) && decide (c ≠ b) && ([1, 2, 4].contains (c % 8) || c == 0))

/-- The directions over the ring in the order they are tried: the shorter way, then the other; between opposite dies
clockwise, unless that takes a plan flow of more than 64 bytes through an edge router that the other way avoids (R174,
R183). -/
def ringWays (a b : Nat) (big : Bool) : List Bool :=
  let cw := clockwise (a / 8) (b / 8)
  let opposite := decide ((b / 8 + 4 - a / 8) % 4 = 2)
  if opposite && big && passesEdge a b (orderRoute a b true cw) && !(passesEdge a b (orderRoute a b true (!cw))) then [!cw, cw]
  else [cw, !cw]

/-- Routes a flow may take between two clusters, in the order they are tried: X-first, then Y-first; the other way round
the ring between opposite dies, or where faults block both; and a detour where they block every one. -/
def State.routes (s : State) (a b : Nat) (big : Bool) : List (List Hop) :=
  let orders := fun (cw : Bool) => [orderRoute a b true cw, orderRoute a b false cw].filter s.routeUp
  let ways := (ringWays a b big).map orders
  let own := if (b / 8 + 4 - a / 8) % 4 = 2 then ways.flatten else ways.headD []
  if !own.isEmpty then own
  else if !ways.flatten.isEmpty then ways.flatten
  else (s.detour a b).toList

/-! ### Paths (R170, R172, Table 7-1) -/

/-- A direction of a port of a cluster's crossbar: its input, or its output. Cores have the indices 0 to 17, the mesh port
18, and Basin slices 19 to 34 (R172). -/
def xbarKey (c i : Nat) (out : Bool) : Nat := 1000 + (c * 35 + i) * 2 + flag out

/-- The path from a core's local memory to its engines. -/
def localKey (core : Nat) : Nat := 4000 + core

/-- A path's reservable capacity: a router output, a port of a crossbar, or a core's local memory, the last in bytes per
core clock. -/
def State.pathCapacity (s : State) (k : Nat) : Nat :=
  if k < 256 then s.portCapacity (k / 8) (k % 8)
  else if 4000 ≤ k then 500
  else
    let i := (k - 1000) / 2 % 35
    if s.fabric.routerDown.contains ((k - 1000) / 70) then 0 else if i < 18 then 256 else if i = 18 then 750 else 128

/-- What the port reserve takes on a path: PORT_RESERVE on every output of D0.C0 (R183). -/
def State.portKept (s : State) (k : Nat) : Nat :=
  if k < 8 then (s.reg (Blk.usher.at Reg.PORT_RESERVE)).toNat % 256 else 0

/-! ### Flows (R139, R181, R182) -/

/-- How a flow uses the mesh: it stays within its cluster, it enters at a stack edge, or it leaves a crossbar. -/
inductive Way where
  | inside | edge | mesh
  deriving DecidableEq, Repr

/-- A flow to reserve: kind (0 stream, 1 plan), its clusters, its source for the order of R188, its declared rate in bytes
per core clock as a fraction, its rate in bytes per NoC clock, its phase and interval, and the paths within clusters with
their own rates. -/
structure Flow where
  kind : Nat
  way : Way
  src : Nat
  dst : Nat
  srcIx : Nat
  num : Nat
  den : Nat
  rate : Nat
  phase : Nat
  start : Nat
  stop : Nat
  ports : List (Nat × Nat)
  deriving DecidableEq, Repr

/-- A plan flow of more than 64 bytes per core clock (R183). -/
def Flow.big (f : Flow) : Bool := f.kind == 1 && decide (64 * f.den < f.num)

/-- The routes a flow may take from its crossbar or stack edge to the crossbar of its destination. -/
def State.flowRoutes (s : State) (f : Flow) : List (List Hop) :=
  let last := fun (r : List Hop) => (f.dst * 8, ((r.getLast?).map (·.2)).getD vcX)
  let between := if f.src = f.dst then [[]] else s.routes f.src f.dst f.big
  match f.way with
  | .inside => [[]]
  | .edge => between.map (fun r => r ++ [last r])
  | .mesh => between.map (fun r => (xbarKey f.src 18 true, ((r.head?).map (·.2)).getD vcX) :: r ++ [last r])

/-- Clocks at which NoC and core rates meet: bytes per NoC clock of num / den bytes per core clock, rounded up (R181). -/
def perNoc (num den f noc : Nat) : Nat := ceilDiv (num * f) (den * noc)

/-- NoC clock in force on a die, the planned clock where it has none yet. -/
def State.nocClock (s : State) (d f : Nat) : Nat :=
  let m := (s.dom (9 * d + 1)).mhz
  if m = 0 then f else m

/-- The interval of a record (R140). -/
def OpRec.span (op : OpRec) : Nat × Nat :=
  (op.start, op.start + (max 1 op.rep - 1) * opOccupancy op op.cost + op.cost)

/-- Slices of a Basin that a region of some granules at a granule draws on, and what each takes of a flow of num / den: a
sixteenth where the region spans 4,096 bytes, else all of it (R173). -/
def sliceParts (base size num den : Nat) : List (Nat × Nat × Nat) :=
  if 4096 ≤ 32 * size then (List.range 16).map (fun i => (i, num, 16 * den))
  else ((List.range (ceilDiv (32 * size) 256 + 1)).map (fun j => (32 * base / 256 + j) * 256)).filterMap (fun a =>
    if a < 32 * (base + size) then some (a / 256 % 16, num, den) else none)

/-- Paths of a Basin region, read or written (R172, R173). -/
def State.basinPorts (s : State) (r : RegionAt) (write : Bool) (num den f : Nat) : List (Nat × Nat) :=
  (sliceParts r.base r.size num den).map (fun p =>
    (xbarKey r.unit (19 + p.1) write, perNoc p.2.1 p.2.2 f (s.nocClock (r.unit / 8) f)))

/-- Where an operation record's transfer starts or ends: a core, or a Basin's region. -/
inductive FlowEnd where
  | core (c : Nat)
  | basin (r : RegionAt)

def FlowEnd.cluster : FlowEnd → Nat
  | .core c => c / 18
  | .basin r => r.unit

/-- Paths of an end within its cluster. -/
def State.endPorts (s : State) (e : FlowEnd) (into : Bool) (num f : Nat) : List (Nat × Nat) :=
  match e with
  | .core c => [(xbarKey (c / 18) (c % 18) into, perNoc num 1 f (s.nocClock (c / 144) f))]
  | .basin r => s.basinPorts r into num 1 f

/-- An end of a record's transfer: its region where it names one, else its logical core. -/
def flowEnd (bind : Tbl Nat) (regions : Tbl RegionAt) (region : Option Nat) (lcore : Nat) : Option FlowEnd :=
  match region.bind regions.get? with
  | some r => if r.kind = 1 then some (.basin r) else if r.kind = 0 then some (.core r.unit) else none
  | none => (bind.get? lcore).map FlowEnd.core

/-- Stream flows of a record: from each stack to each cluster that draws on it, in the proportion of the cores bound
there; cores on a die without a channel draw on every stack (R181, R182; log 33). Within a cluster each core takes its
part, or the Basin that the record names. -/
def State.streamFlows (s : State) (g f ph : Nat) (p : Plan) (bind : Tbl Nat) (regions : Tbl RegionAt) (op : OpRec) :
    List Flow :=
  let x := s.grp g
  let share := layerShare p op.args.layer op.args.kv
  let clusters := (bind.map (fun b => b.2 / 18)).eraseDups
  let count := fun (c : Nat) => (bind.filter (fun b => b.2 / 18 == c)).length
  x.chans.flatMap (fun k =>
    let mine := clusters.filter (fun c => c / 8 == k / 3 || (x.dieChans (c / 8)).isEmpty)
    let total := max 1 (sumNats (mine.map count))
    let noc := s.nocClock (k / 3) f
    let den := 256 * 3 * f * total
    mine.map (fun c =>
      let cores := (bind.filter (fun b => b.2 / 18 == c)).map (fun b =>
        (xbarKey c (b.2 % 18) true, perNoc (share * 7000000) den f noc))
      let ports := match op.args.dst.bind regions.get? with
        | some r => if r.kind = 1 && r.unit == c then s.basinPorts r true (share * 7000000 * count c) den f else cores
        | none => cores
      { kind := 0, way := .edge, src := k / 3 * 8 + stackCluster k, dst := c, srcIx := k, num := share * 7000000 * count c
        den := den, rate := perNoc (share * 7000000 * count c) den f noc, phase := ph, start := op.span.1, stop := op.span.2
        ports := ports }))

/-- The plan flow of a transfer or export. One within a core takes its local memory's path. -/
def State.planFlow (s : State) (f ph : Nat) (bind : Tbl Nat) (regions : Tbl RegionAt) (op : OpRec) : List Flow :=
  let q := op.args.rate
  match flowEnd bind regions op.args.src op.lcore, flowEnd bind regions op.args.dst op.args.destCore with
  | some a, some b =>
    let ports := match a, b with
      | .core c, .core d => if c = d then [(localKey c, q)] else s.endPorts a false q f ++ s.endPorts b true q f
      | _, _ => s.endPorts a false q f ++ s.endPorts b true q f
    [{ kind := 1, way := if a.cluster = b.cluster then .inside else .mesh, src := a.cluster, dst := b.cluster
       srcIx := (bind.get? op.lcore).getD op.lcore, num := q, den := 1, rate := perNoc q 1 f (s.nocClock (a.cluster / 8) f)
       phase := ph, start := op.span.1, stop := op.span.2, ports := ports }]
  | _, _ => []

/-- Every flow of a variant under a binding. -/
def State.flows (s : State) (g : Nat) (p : Plan) (v : Variant) (bind : Tbl Nat) (regions : Tbl RegionAt) : List Flow :=
  (phasesOf v.ops).zipIdx.flatMap (fun (ops, ph) => ops.flatMap (fun (_, op) =>
    if op.cls = clsMemRead ∨ op.cls = clsMemWrite then s.streamFlows g v.clock ph p bind regions op
    else if op.cls = clsXfer ∨ op.cls = clsExport then s.planFlow v.clock ph bind regions op else []))

/-! ### Reservations (R181, R183, R188) -/

/-- A flow holds its paths, each at its rate. -/
structure Reserved where
  paths : List (Nat × Nat)
  phase : Nat
  start : Nat
  stop : Nat
  deriving DecidableEq, Repr

/-- Rate that a reservation takes of a path. -/
def Reserved.on (r : Reserved) (k : Nat) : Nat := sumNats ((r.paths.filter (fun p => p.1 == k)).map (·.2))

/-- Largest sum on a path while an interval runs. -/
def reservedPeak (rs : List Reserved) (k phase a b : Nat) : Nat :=
  let on := rs.filter (fun r => decide (0 < r.on k) && r.phase == phase && decide (r.start < b) && decide (a < r.stop))
  let at' := fun (t : Nat) => sumNats ((on.filter (fun r => decide (r.start ≤ t) && decide (t < r.stop))).map (fun r => r.on k))
  ((a :: (on.map (·.start)).filter (fun t => decide (a ≤ t))).map at').foldl max 0

/-- Paths of a flow on a route. -/
def Flow.paths (f : Flow) (r : List Hop) : List (Nat × Nat) := r.map (fun h => (h.1, f.rate)) ++ f.ports

/-- A flow holds on a route beside what is reserved (R181): others' peaks count whatever their ticks. -/
def State.fits (s : State) (others : Tbl Nat) (rs : List Reserved) (f : Flow) (r : List Hop) : Bool :=
  let x : Reserved := ⟨f.paths r, f.phase, f.start, f.stop⟩
  x.paths.all (fun p =>
    decide (reservedPeak rs p.1 f.phase f.start f.stop + x.on p.1 + others.getD p.1 0 + s.portKept p.1 ≤ s.pathCapacity p.1))

/-- Reserve flows in order, with the route of each; none where one does not hold. -/
def State.reserveAll (s : State) (others : Tbl Nat) :
    List Flow → List Reserved × List (List Hop) → Option (List Reserved × List (List Hop))
  | [], acc => some acc
  | f :: rest, acc =>
    match (s.flowRoutes f).find? (s.fits others acc.1 f) with
    | none => none
    | some r => s.reserveAll others rest (acc.1 ++ [⟨f.paths r, f.phase, f.start, f.stop⟩], acc.2 ++ [r])

/-- Lexicographic order. -/
def lexLt : List Nat → List Nat → Bool
  | [], _ :: _ => true
  | _, [] => false
  | a :: x, b :: y => decide (a < b) || (a == b && lexLt x y)

/-- A flow has two routes: its X-first and Y-first routes cross other links (R188). -/
def Flow.twoRoutes (f : Flow) : Bool :=
  let cw := clockwise (f.src / 8) (f.dst / 8)
  (orderRoute f.src f.dst true cw).map (·.1) != (orderRoute f.src f.dst false cw).map (·.1)

/-- The order of R188: stream flows first, descending declared rate, one route before two, then source and destination. -/
def flowOrder (fs : List Flow) : List Flow :=
  let key := fun (f : Flow) => [flag f.twoRoutes, f.srcIx, f.dst]
  sortBy (fun (a b : Flow) => decide (a.kind < b.kind) || (a.kind == b.kind
    && (decide (b.num * a.den < a.num * b.den) || (b.num * a.den == a.num * b.den && lexLt (key a) (key b))))) fs

/-- Peaks of reservations by path. -/
def peaksOf (rs : List Reserved) : Tbl Nat :=
  let keys := (rs.flatMap (fun r => r.paths.map (·.1))).eraseDups
  keys.foldl (fun t k =>
    t.put k ((rs.map (fun r => reservedPeak rs k r.phase r.start r.stop)).foldl max 0)) []

/-- Reservations of the other groups. -/
def State.othersReserved (s : State) (g : Nat) : Tbl Nat :=
  s.groups.foldl (fun (t : Tbl Nat) p => if p.1 = g then t else
    p.2.resv.foldl (fun (t : Tbl Nat) q => t.upd q.1 0 (· + q.2)) t) []

end Sys2Proof.Machine
end

