-- ==== Sys2Proof/Machine/UsherOps.lean ====
section
/-!
DEFINITION. The Usher (R18, R138, R149, R186 to R190): the cores of each group, the cost of a core, the places of a
plan's regions, and the binding of a variant.
-/

namespace Sys2Proof.Machine

open Sys2Proof

/-! ### Cores of the groups (R18, R186) -/

/-- Formed groups, in ascending order of their lowest channel. -/
def State.formedGroups (s : State) : List (Nat × Group) :=
  sortBy (fun (a b : Nat × Group) => decide (a.2.chans.headD 12 < b.2.chans.headD 12))
    (s.groups.filter (fun p => p.2.formed))

/-- Shares of the formed groups (R18): floor(G × k / 12), and the cores left over one at a time. -/
def State.shares (s : State) : List (Nat × Nat) :=
  let gs := s.formedGroups
  let n := s.goodCount
  let base := gs.map (fun p => n * p.2.chans.length / 12)
  let left := n * sumNats (gs.map (fun p => p.2.chans.length)) / 12 - sumNats base
  (gs.zip base).zipIdx.map (fun (x, i) => (x.1.1, x.2 + (if i < left then 1 else 0)))

/-- Die distance of a core for a group (R186). -/
def Group.dieDistance (g : Group) (d : Nat) : Nat :=
  let dies := g.chans.map (· / 3)
  if dies.contains d then 0
  else if dies.any (fun e => decide (dieDist d e = 1)) then 1 else 2

/-- Hops of a cluster of the package for a group (R186). -/
def Group.hops (g : Group) (c : Nat) : Nat :=
  match (g.dieChans (c / 8)).map (fun k => meshHops c (c / 8 * 8 + stackCluster k)) with
  | [] => meshHops c (c / 8 * 8)
  | h :: t => t.foldl min h

/-- The order of R186 over the cores. -/
def Group.takeOrder (g : Group) (cores : List Nat) : List Nat :=
  (sortBy (fun (a b : Nat × Nat × Nat) =>
      decide (a.1 < b.1) || (a.1 == b.1 && (decide (a.2.1 < b.2.1) || (a.2.1 == b.2.1 && decide (a.2.2 < b.2.2)))))
    (cores.map (fun c => (g.dieDistance (c / 144), g.hops (c / 18), c)))).map (·.2.2)

/-- The cores each formed group is assigned (R186): pairs of core and group. -/
def State.assignment (s : State) : List (Nat × Nat) :=
  (s.shares.foldl (fun (acc : List Nat × List (Nat × Nat)) (p : Nat × Nat) =>
    let take := ((s.grp p.1).takeOrder acc.1).take p.2
    (acc.1.filter (fun c => !(take.contains c)), acc.2 ++ take.map (fun c => (c, p.1))))
    ((List.range 576).filter s.good, [])).2

/-- A core's gates are lifted with those of its parents (R300). -/
def State.ungateCore (s : State) (c : Nat) : State :=
  let g := s.clocks.gates
  let off := fun (m b : Nat) => if m.testBit b then m - 2 ^ b else m
  { s with clocks := { s.clocks with gates := { g with
      pkg := false, dies := off g.dies (c / 144), clusters := off g.clusters (c / 18)
      cores := off g.cores c, engines := g.engines.del c } } }

/-- Assign the good cores to the groups formed now (R18, R186): the cores of a group that ticks change groups at its own
boundary (R16). A core that changes groups leaves its logical core, a gated one is ungated (R300), and every group whose
cores changed is bound anew. -/
def State.reassign (s : State) (at' : Option Nat) : State :=
  let new := s.assignment
  let groupOf := fun (c : Nat) => (new.find? (fun p => p.1 == c)).map (·.2)
  let other := (List.range 576).filter (fun c => (s.core c).group != groupOf c)
  let may := fun (c : Nat) => match (s.core c).group with
    | some h => !(s.grp h).ticking || at' == some h
    | none => true
  let changed := other.filter may
  let touched := (changed.flatMap (fun c => [(s.core c).group, groupOf c].filterMap id)).eraseDups
  let s1 := changed.foldl (fun (s : State) c =>
    let s1 := s.updCore c (fun k => { k with group := groupOf c, lcore := none, running := false })
    if (groupOf c).isSome then s1.ungateCore c else s1) s
  let s2 := touched.foldl (fun (s : State) g => s.updGrp g (fun x => { x with rebind := some 5 })) s1
  { s2 with usher := { s2.usher with moving := other.any (fun c => !may c) } }

/-! ### Cost of a core (R187) -/

/-- Temperature of a cluster: its sensor. -/
def State.clusterTemp (s : State) (c : Nat) : Option Int := (s.therm (c / 8)).sensor (c % 8)

/-- The warning threshold of die sensors, in 0.125 °C (THRESH_DIE). -/
def State.dieWarn (s : State) : Int := 8 * (((s.reg (Blk.thermal.at Reg.THRESH_DIE)).toNat % 256 : Nat) : Int)

/-- Cluster at or above the die warning threshold (R187). -/
def State.clusterWarm (s : State) (c : Nat) : Bool :=
  match s.clusterTemp c with
  | some t => decide (s.dieWarn ≤ t)
  | none => false

/-- Members 1 to 4 of the cost of a core. -/
def State.cost4 (s : State) (c : Nat) : List Nat :=
  let as := (List.range 32).map (fun k => (s.arr (c * 32 + k)).cal)
  [flag (s.clusterWarm (c / 18)), (as.filter (·.aboveBound)).length, (as.filter (·.extrap)).length,
    sumNats (as.map (fun a => a.suspectCols.length + a.suspectRows.length))]

/-- Cost tuple of a core for a group. -/
def State.coreCost (s : State) (g c : Nat) : List Nat := s.cost4 c ++ [(s.grp g).hops (c / 18), c]

/-- Cores of lowest cost first. -/
def State.byCost (s : State) (g : Nat) (cores : List Nat) : List Nat :=
  (sortBy (fun (a b : List Nat × Nat) => lexLt a.1 b.1) (cores.map (fun c => (s.coreCost g c, c)))).map (·.2)

/-- Sum of cost tuples, member by member. -/
def sumTuples (l : List (List Nat)) : List Nat :=
  (List.range 4).map (fun i => sumNats (l.map (fun t => t.getD i 0)))

/-- Cost of a cluster for n cores among its free ones: the sum over the cores it would receive, then
its hops, then its index. -/
def State.clusterCost (s : State) (g c n : Nat) (free : List Nat) : List Nat :=
  let take := (s.byCost g (free.filter (fun k => k / 18 == c))).take n
  sumTuples (take.map s.cost4) ++ [(s.grp g).hops c, c]

/-! ### Binding (R188) -/

/-- Cores a group may place on: assigned, neither fenced nor stopped. -/
def State.freeCores (s : State) (g : Nat) : List Nat :=
  (s.groupCores g).filter (fun c => s.good c && !(s.core c).fenced && !(s.core c).stopped)

/-- Logical clusters of a logical die among the first n logical cores, with their sizes. -/
def lclusters (p : Plan) (n ld : Nat) : List (Nat × Nat) :=
  let cs := (p.cores.take n).filter (fun c => c.die == ld)
  (distinct (cs.map (·.cluster))).map (fun k => (k, (cs.filter (fun c => c.cluster == k)).length))

/-- A die has enough free cores for a logical die: sizes and free counts, both descending, match. -/
def enough (sizes frees : List Nat) : Bool :=
  let desc := sortBy (fun (a b : Nat) => decide (b < a))
  let f := desc frees
  ((desc sizes).zipIdx.all (fun (n, i) => decide (n ≤ f.getD i 0)))

/-- Choose physical dies for the logical dies in turn; a v2 plan's cores lie on the die of its group's channels (R165). -/
def State.pickDies (s : State) (g : Nat) (p : Plan) (n : Nat) (free : List Nat) :
    List Nat → List (Nat × Nat) → Option (List (Nat × Nat))
  | [], acc => some acc
  | ld :: rest, acc =>
    let sizes := (lclusters p n ld).map (·.2)
    let ok := (List.range 4).filter (fun d =>
      !(acc.any (fun q => q.2 == d)) && (p.format != 2 || !((s.grp g).dieChans d).isEmpty)
      && enough sizes ((List.range 8).map (fun c => (free.filter (fun k => k / 18 == d * 8 + c)).length)))
    let key := fun (d : Nat) =>
      [12 - ((s.grp g).dieChans d).length] ++ sumTuples ((free.filter (fun k => k / 144 == d)).map s.cost4) ++ [d]
    match sortBy (fun a b => lexLt (key a) (key b)) ok with
    | [] => none
    | d :: _ => s.pickDies g p n free rest (acc ++ [(ld, d)])

/-- Two clusters of a die are adjacent on its mesh. -/
def adjacent (a b : Nat) : Bool := decide (a / 8 = b / 8) && decide (meshHops a b = 1)

/-- Choose physical clusters for the logical clusters in turn. A cluster is named by its logical die and
cluster. -/
def State.pickClusters (s : State) (g : Nat) (p : Plan) (dies : List (Nat × Nat)) (free : List Nat) :
    List (Nat × Nat × Nat) → List (Nat × Nat × Nat) → Option (List (Nat × Nat × Nat))
  | [], acc => some acc
  | (ld, lc, n) :: rest, acc =>
    match (dies.find? (fun q => q.1 == ld)).map (·.2) with
    | none => none
    | some (d : Nat) =>
      let near : List Nat := match p.cores.find? (fun c => c.die == ld && c.cluster == lc) with
        | none => []
        | some e => (neighbours p.cores e).filterMap (fun k =>
            (acc.find? (fun (q : Nat × Nat × Nat) => q.1 == ld && q.2.1 == k)).map (fun q => q.2.2))
      let cand := (List.range 8).map (fun c => d * 8 + c) |>.filter (fun c =>
        !(acc.any (fun q => q.2.2 == c))
        && decide (n ≤ (free.filter (fun k => k / 18 == c)).length)
        && near.all (fun (q : Nat) => adjacent c q))
      match sortBy (fun a b => lexLt (s.clusterCost g a n free) (s.clusterCost g b n free)) cand with
      | [] => none
      | c :: _ => s.pickClusters g p dies free rest (acc ++ [(ld, lc, c)])

/-- A binding with its regions' places, its reservations and the routes of its flows. -/
structure Binding where
  bind : Tbl Nat
  twins : Tbl Nat
  standby : Tbl Nat
  regions : Tbl RegionAt
  resv : Tbl Nat
  routes : List (List Hop)

/-- Granules of a core's local memory (R138) and of a Basin (Table 1-1). -/
def coreGranules : Nat := 49152
def basinGranules : Nat := 1048576

/-- A place for some granules or rows below a limit among those in use, if there is one. -/
def placeFor (used : List (Nat × Nat)) (n limit : Nat) : Option Nat :=
  let r := firstFit used 0 n limit
  if r + n ≤ limit && rowsFree used n r then some r else none

/-- What regions of a kind take of a unit. -/
def regionUse (rs : Tbl RegionAt) (kind unit : Nat) : List (Nat × Nat) :=
  (rs.filter (fun r => r.2.kind == kind && r.2.unit == unit)).map (fun r => (r.2.base, r.2.size))

/-- What the regions of the other groups take of a cluster's Basin. -/
def State.basinTaken (s : State) (g c : Nat) : List (Nat × Nat) :=
  (s.groups.filter (fun p => p.1 != g)).flatMap (fun p => regionUse p.2.regions 1 c)

/-- Die of a device region: of the group's, the one with the most free memory. -/
def State.regionDie (s : State) (g : Nat) : Nat :=
  ((List.range 4).filter (fun d => !((s.grp g).dieChans d).isEmpty)).foldl (fun (b : Nat) d =>
    if s.dieFree g b < s.dieFree g d then d else b) (((s.grp g).chans.headD 0) / 3)

/-- Place one region of a plan (R138): in the local memory of the core or the Basin of the cluster that carries its owner,
or on the group's stacks (R17). One whose owner the variant does not bind has no place; none where no place is left. -/
def State.placeRegion (s : State) (g : Nat) (bind : Tbl Nat) (clusterOf : Nat → Option Nat) (acc : Tbl RegionAt) (i : Nat)
    (e : RegionEnt) : Option (Tbl RegionAt) :=
  match e.kind with
  | 0 => match bind.get? e.owner with
    | none => some acc
    | some c => (placeFor (regionUse acc 0 c) e.size coreGranules).map (fun b => acc.put i ⟨0, c, b, e.size⟩)
  | 1 => match clusterOf e.owner with
    | none => some acc
    | some c => (placeFor (s.basinTaken g c ++ regionUse acc 1 c) e.size basinGranules).map (fun b => acc.put i ⟨1, c, b, e.size⟩)
  | _ =>
    let d := s.regionDie g
    let st := (s.grp g).dieChans d
    let mine := (regionUse acc 2 d).map (fun u => (u.1, stripeRows st u.2))
    (placeFor (s.usedRows g d ++ mine) (stripeRows st e.size) (s.rowLimit g d)).map (fun b => acc.put i ⟨2, d, b, e.size⟩)

/-- Place the regions of a plan. Device regions of the plan in force stay where they are: only they persist (R188). -/
def State.placeRegions (s : State) (g : Nat) (p : Plan) (bind : Tbl Nat) (clusterOf : Nat → Option Nat) : Option (Tbl RegionAt) :=
  let x := s.grp g
  let keep : Tbl RegionAt := if x.current.map (·.plan) = some p then x.regions.filter (fun r => r.2.kind == 2) else []
  let s1 := s.updGrp g (fun y => { y with regions := keep })
  p.regions.zipIdx.foldlM (fun (acc : Tbl RegionAt) r =>
    if (keep.get? r.2).isSome then some acc else s1.placeRegion g bind clusterOf acc r.2 r.1) keep

/-- Bind the first n logical cores to cores of their clusters, the lowest cost first; per is 2 for full
redundancy, where each takes a second core of the cluster as its twin (R338). -/
def State.bindCores (s : State) (g : Nat) (p : Plan) (n per : Nat) (free : List Nat)
    (clusters : List (Nat × Nat × Nat)) : Option (Tbl Nat × Tbl Nat) :=
  ((List.range n).foldl (fun (acc : Option (List Nat × Tbl Nat × Tbl Nat)) i =>
    match acc, p.cores[i]? with
    | some (used, b, t), some e =>
      match (clusters.find? (fun q => q.1 == e.die && q.2.1 == e.cluster)).map (·.2.2) with
      | none => none
      | some c =>
        match s.byCost g (free.filter (fun k => k / 18 == c && !(used.contains k))), per with
        | x :: y :: _, 2 => some (x :: y :: used, b.put i x, t.put i y)
        | _, 2 => none
        | x :: _, _ => some (x :: used, b.put i x, t)
        | [], _ => none
    | _, _ => none) (some ([], [], []))).map (fun r => (r.2.1, r.2.2))

/-- Standbys of a binding (R188): distinct, of lowest cost, in the same cluster. -/
def State.standbysOf (s : State) (g : Nat) (free : List Nat) (bind twins : Tbl Nat) : Tbl Nat :=
  let bound := bind.map (·.2) ++ twins.map (·.2)
  (bind.foldl (fun (acc : List Nat × Tbl Nat) b =>
    match s.byCost g (free.filter (fun k => k / 18 == b.2 / 18 && !(bound.contains k) && !(acc.1.contains k))) with
    | [] => acc
    | k :: _ => (k :: acc.1, acc.2.put b.1 k)) ([], [])).2

/-- Complete a binding of cores: the regions' places, the reservations, and the standbys; none where one fails. -/
def State.finishBinding (s : State) (g : Nat) (p : Plan) (v : Variant) (free : List Nat) (b t : Tbl Nat) : Option Binding :=
  let clusterOf := fun (lc : Nat) =>
    (((b.find? (fun q => ((p.cores[q.1]?).map (·.cluster)) == some lc))).map (fun q => q.2 / 18))
  (s.placeRegions g p b clusterOf).bind (fun rs =>
    let twin := rs.map (fun (r : Nat × RegionAt) => (r.1, if r.2.kind = 0 then
      { r.2 with unit := (t.get? ((p.regions[r.1]?.map (·.owner)).getD 0)).getD r.2.unit } else r.2))
    let fs := s.flows g p v b rs ++ (if t.isEmpty then [] else s.flows g p v t twin)
    (s.reserveAll (s.othersReserved g) (flowOrder fs) ([], [])).map (fun q =>
      { bind := b, twins := t, standby := s.standbysOf g free b t, regions := rs, resv := peaksOf q.1, routes := q.2 }))

/-- Bind a variant of a plan for a group (R188), doubled under redundancy; none where a step fails. -/
def State.bindVariant (s : State) (g : Nat) (p : Plan) (v : Variant) (doubled : Bool) : Option Binding :=
  let per := if doubled then 2 else 1
  let free := s.freeCores g
  let lds := distinct ((p.cores.take v.lcores).map (·.die))
  let pn : Plan := p
  let sized := lds.flatMap (fun ld => (lclusters pn v.lcores ld).map (fun q => (ld, q.1, per * q.2)))
  match s.pickDies g pn v.lcores free lds [] with
  | none => none
  | some dies =>
    match s.pickClusters g pn dies free sized [] with
    | none => none
    | some cs =>
      match s.bindCores g pn v.lcores per free cs with
      | none => none
      | some (b, t) => s.finishBinding g p v free b t

/-- Logical cores of a cluster take the free cores of lowest cost of another one, each in turn. -/
def State.rehome (s : State) (g : Nat) (free : List Nat) (old new : Nat) (acc : Tbl Nat × List Nat) : Tbl Nat × List Nat :=
  acc.1.foldl (fun (r : Tbl Nat × List Nat) b =>
    if b.2 / 18 ≠ old then r
    else match s.byCost g (free.filter (fun k => k / 18 == new && !(r.2.contains k))) with
      | [] => r
      | k :: _ => (r.1.put b.1 k, k :: r.2)) (acc.1, acc.2)

/-- A cluster has fallen below the die warning threshold by more than its hysteresis (R189). -/
def State.clusterCool (s : State) (c : Nat) : Bool :=
  match s.clusterTemp c with
  | some t => decide (t < s.dieWarn - 8 * (((s.reg (Blk.thermal.at Reg.THRESH_DIE)).toNat / 65536 % 256 : Nat) : Int))
  | none => false

/-- One logical cluster of a group moves from a warm cluster to an unbound cool one of its die (R189); none where there is
no room for it. -/
def State.moveCluster (s : State) (g : Nat) (p : Plan) (v : Variant) : Option Binding :=
  let x := s.grp g
  let free := s.freeCores g
  let held := (x.bind ++ x.twins).map (fun b => b.2 / 18)
  ((distinct held).find? s.clusterWarm).bind (fun old =>
    let n := (held.filter (· == old)).length
    let ents := (x.bind.filter (fun b => b.2 / 18 == old)).filterMap (fun b => p.cores[b.1]?)
    let near := (ents.head?.map (fun e => neighbours p.cores e)).getD []
    let at' := fun (lc : Nat) => (x.bind.find? (fun b => ((p.cores[b.1]?).map (·.cluster)) == some lc)).map (fun b => b.2 / 18)
    let cand := ((List.range 8).map (fun c => old / 8 * 8 + c)).filter (fun c =>
      !(held.contains c) && s.clusterCool c && decide (n ≤ (free.filter (fun k => k / 18 == c)).length)
      && (near.filterMap at').all (fun q => adjacent c q))
    ((sortBy (fun a b => lexLt (s.clusterCost g a n free) (s.clusterCost g b n free)) cand).head?).bind (fun c =>
      let r := s.rehome g free old c (x.bind, [])
      let t := s.rehome g free old c (x.twins, r.2)
      s.finishBinding g p v free r.1 t.1))

/-- Install reservations: what RES_INFO and DL_RESERVED show over every group. -/
def State.sumReserved (s : State) : State :=
  let all : Tbl Nat := s.groups.foldl (fun (t : Tbl Nat) p =>
    p.2.resv.foldl (fun (t : Tbl Nat) q => t.upd q.1 0 (· + q.2)) t) []
  let links := (List.range 4).flatMap (fun d =>
    [(linkKey d false, all.getD ((d * 8 + 7) * 8 + 2) 0), (linkKey d true, all.getD ((d * 8 + 6) * 8 + 3) 0)])
  { s with fabric := { s.fabric with
      reserved := all.filter (fun p => decide (p.1 < 256))
      linkReserved := (sortBy (fun (a b : Nat × Nat) => decide (a.1 < b.1)) links) } }

/-- Install a binding of a group (R188): its cores carry their logical cores, and those rebound are
counted. -/
def State.install (s : State) (g : Nat) (b : Binding) (kind : Nat) : State :=
  let old := (s.grp g).bind
  let moved := (b.bind.filter (fun p => old.get? p.1 != some p.2)).length
  let s1 := s.updGrp g (fun x => { x with
    bind := b.bind, twins := b.twins, standby := b.standby, regions := b.regions, resv := b.resv, routes := b.routes
    rebind := none
    boundKind := some kind })
  let lc := fun (c : Nat) => ((b.bind ++ b.twins).find? (fun p => p.2 == c)).map (·.1)
  let s2 := (s1.groupCores g).foldl (fun (s : State) c => s.updCore c (fun k => { k with
    lcore := lc c, stopped := k.stopped && !(k.fenced && (lc c).isNone) })) s1
  (s2.bump (Blk.usher.at Reg.REBINDS) moved).sumReserved

/-- A group without a plan holds no binding. -/
def State.unbind (s : State) (g : Nat) : State :=
  let s1 := s.updGrp g (fun x => { x with bind := [], twins := [], standby := [], regions := [], resv := [], routes := [], boundKind := none })
  ((s1.groupCores g).foldl (fun (s : State) c =>
    s.updCore c (fun k => { k with lcore := none, running := false })) s1).sumReserved

end Sys2Proof.Machine
end

