-- ==== Sys2Proof/Machine/CalOps.lean ====
section
/-!
DEFINITION. Calibration on the block: requests and runs (R130, R131), the outcome of a calibration step
and of the steps that follow it (R123), commit and the boundary's work on an array (R103, R104, R124 to
R129), and calibration during start-up (R132).
-/

namespace Sys2Proof.Machine

open Sys2Proof

/-! ### Keys -/

/-- Core, engine and array of an array key. -/
def arrCore (k : Nat) : Nat := k / 32
def arrEng (k : Nat) : Nat := k / 2 % 16
def arrIsB (k : Nat) : Bool := k % 2 == 1

/-- Unit word of an array. -/
def unitOfArr (k : Nat) : Nat := unitArray (arrCore k) (arrEng k) (arrIsB k)

/-- Change the calibration of an array. -/
def State.updCal (s : State) (k : Nat) (f : ArrayCal → ArrayCal) : State :=
  s.updArr k (fun a => { a with cal := f a.cal })

/-- Temperature of an array's cluster in 0.125 °C; 0 before its first reading. -/
def State.arrTemp (s : State) (k : Nat) : Int := (s.clusterTemp (arrCore k / 18)).getD 0

/-- Load index of an array's die (R126). -/
def State.arrLoad (s : State) (k : Nat) : Nat := s.loadIndex.getD (arrCore k / 144) 0

/-- Fields of CAL_CTRL and CAL_BOUNDS (Table 5-5). -/
def State.calCtrl (s : State) : Nat := (s.reg (Blk.cal.at Reg.CAL_CTRL)).toNat
def State.calAuto (s : State) : Bool := s.calCtrl.testBit 0
def State.sampleLog (s : State) : Nat := holdIn (4, 12) (s.calCtrl / 2 % 16)
def State.startLoad (s : State) : Nat := s.calCtrl / 256 % 256
def State.calInterval (s : State) : Nat := s.calCtrl / 65536
def State.resBound (s : State) : Nat := (s.reg (Blk.cal.at Reg.CAL_BOUNDS)).toNat % 256
def State.extrapBound (s : State) : Nat := (s.reg (Blk.cal.at Reg.CAL_BOUNDS)).toNat / 256 % 256

/-! ### Requests (R130, Table 5-3) -/

/-- A run in the queue. -/
def CalRun.queuedRun (cls order : Nat) : CalRun :=
  { cls := cls, order := order, phase := .queued, startTemp := 0, tempSum := 0, tempN := 0, ticks := 0
    sums := [], cs := ⟨0, 0, 0⟩, refs := [], sweeps := [], failing := [], need := [], tried := []
    repairs := [], rowFound := [], needRows := false }

/-- Request a run of an array; it merges into the one queued or running, which takes the higher class. -/
def State.requestRun (s : State) (k cls : Nat) : State :=
  match (s.arr k).cal.run with
  | some r => s.updCal k (fun c => { c with run := some { r with cls := min r.cls cls } })
  | none =>
    { s.updCal k (fun c => { c with run := some (CalRun.queuedRun cls s.calOrder) }) with
      calOrder := s.calOrder + 1 }

/-- Array keys of a core. -/
def coreArrays (c : Nat) : List Nat := (List.range 32).map (· + 32 * c)

/-- Abandon the run of an array (R131): counted, nothing changed; queued again in its class at once, or as its
fenced core returns to service, and not after safe state or shutdown. -/
def State.abandonRun (s : State) (k : Nat) : State :=
  match (s.arr k).cal.run with
  | none => s
  | some r =>
    let s1 := (s.updCal k (fun c => { c with run := none })).bump (Blk.cal.at Reg.RUNS_ABANDONED) 1
    if s.clocks.safe || s.thermal.tripped then s1
    else if (s.core (arrCore k)).fenced then s1.updCal k (fun c => { c with awaits := some r.cls })
    else s1.requestRun k r.cls

/-- Runs that awaited the return of their core are queued again (R131). -/
def State.resumeRuns (s : State) (c : Nat) : State :=
  ((coreArrays c).filter (fun k => (s.arr k).cal.awaits.isSome)).foldl (fun (s : State) k =>
    (s.updCal k (fun x => { x with awaits := none })).requestRun k (((s.arr k).cal.awaits).getD 5)) s

/-- A run that has left the queue. -/
def ArrayCal.running (c : ArrayCal) : Option CalRun :=
  match c.run with
  | some r => if r.phase = .queued then none else some r
  | none => none

/-- Array keys with calibration state held. -/
def State.arrayKeys (s : State) : List Nat := s.arrays.map (·.1)

/-- Arrays of a core with a run that has left the queue. -/
def State.coreRunning (s : State) (c : Nat) : List Nat :=
  (coreArrays c).filter (fun k => ((s.arr k).cal.running).isSome)

/-- A run is to be abandoned (R131): its core is fenced, its die is in safe state or shut down, the
cluster has moved by more than 6 °C, or 4,096 ticks have bound no step to it. -/
def State.abandonDue (s : State) (k : Nat) : Bool :=
  match (s.arr k).cal.running with
  | none => false
  | some r =>
    (s.core (arrCore k)).fenced || s.clocks.safe || s.thermal.tripped
    || decide (48 < (s.arrTemp k - r.startTemp).natAbs)
    || (r.phase == .sampling && decide (4096 ≤ r.ticks))

/-- Abandon every run of some arrays that is to be abandoned. -/
def State.abandonWhere (s : State) (p : Nat → Bool) : State :=
  (s.arrayKeys.filter (fun k => p k && s.abandonDue k)).foldl State.abandonRun s

/-- Safe state is entered, which abandons the runs in progress (R131, R302). -/
def State.goSafe (s : State) (clockFault : Bool) (unit : Nat) (payload : List Byte) : State :=
  (s.enterSafe clockFault unit payload).abandonWhere (fun _ => true)

/-- The array at the head of the queue: lowest class, earliest request, lowest core, engine and array;
arrays of disabled and fenced cores are not served. -/
def State.queueHead (s : State) : Option Nat :=
  let qs := s.arrays.filterMap (fun p => match p.2.cal.run with
    | some r => if r.phase = .queued ∧ s.good (arrCore p.1) ∧ ¬ (s.core (arrCore p.1)).fenced then
        some [r.cls, r.order, p.1] else none
    | none => none)
  (sortBy lexLt qs).head?.map (fun t => t.getD 2 0)

/-- A run leaves the queue and its sample span begins. -/
def State.startRun (s : State) (k : Nat) : State :=
  s.updCal k (fun c => { c with run := c.run.map (fun r =>
    { r with phase := .sampling, startTemp := s.arrTemp k, tempSum := 0, tempN := 0, ticks := 0 }) })

/-! ### Escalation of calibration faults (R36, R123, R345) -/

/-- A bad run is counted, and LAST_BAD and a WARN record give its first failing reason (R123 step 1). -/
def State.recordBad (s : State) (k reason : Nat) : State :=
  let last := arrCore k + 1024 * arrEng k + 16384 * (k % 2) + 32768 * reason
  let s1 := (s.bump (Blk.cal.at Reg.RUNS_BAD) 1).setReg (Blk.cal.at Reg.LAST_BAD) (word last)
  let s2 := s1.updCal k (fun x => { x with run := none, badStreak := min 3 (x.badStreak + 1) })
  s2.note sevWarn "bad calibration run" (unitOfArr k) (ErrInfo.only reason).bytes

/-- A bad run changes nothing; three in a row write an ERROR record and fence the core (R123). -/
def State.badRun (s : State) (k reason : Nat) : State :=
  let c := arrCore k
  let s3 := s.recordBad k reason
  if 3 ≤ ((s3.arr k).cal.badStreak) then
    (s3.error sevError 0x0104 (unitOfArr k) (s.core c).group none reason).fence c 5
  else s3

/-- An array without a usable spare left (R36): recorded, and its core is fenced for good. -/
def State.repairExhausted (s : State) (k : Nat) : State :=
  let cal := (s.arr k).cal
  let c := arrCore k
  ((s.updCal k (fun x => { x with exhausted := true })).error sevError 0x0103 (unitOfArr k) (s.core c).group none
    (cal.colMap.length + cal.rowMap.length)).fence c 4

/-! ### Steps of a run (R118, R123) -/

/-- Readings of a column's sweep when its elements are nominal: the step's expected readings, moved by
each tap of Table 2-3. -/
def nominalSweep (v : ColVal) (c : Nat) (l : SweepReads) : Sweep :=
  match l.find? (fun p => p.1 == c) with
  | some p => sweepOf v p.2
  | none => Sweep.nominal

/-- A core belongs to a group that has boundaries. -/
def State.hasBoundaries (s : State) (c : Nat) : Bool :=
  match (s.core c).group with
  | some g => (s.grp g).ticking
  | none => false

/-- Sums over the 530 columns of reading minus expected reading, by row-test vector. -/
def rowSums (rows : RowReads) : List Int := rows.map (fun l => sumInts (l.map (·.2)))

/-- The next phase of a run after one of its steps. -/
def CalRun.advance (r : CalRun) : CalRun :=
  { r with phase := if r.need.isEmpty && !r.needRows then .ready else .stepped }

/-- Spares a run may still offer (R123). -/
def CalRun.offers (r : CalRun) (cal : ArrayCal) : List Nat :=
  (freeSpareCols cal).filter (fun s => !(r.repairs.any (fun p => p.2 == s)))

/-- Columns that no spare is left for make the array exhausted (R123 step 5, R36). -/
def State.settleRun (s : State) (k : Nat) (r : CalRun) : State :=
  let out := !r.need.isEmpty && (r.offers (s.arr k).cal).isEmpty
  let r1 := if out then { r with need := [] } else r
  let s1 := s.updCal k (fun x => { x with run := some r1.advance })
  if out then s1.repairExhausted k else s1

/-- The calibration step of a run (R118 to R123): what its sweep and row test measured decides the
outcome. -/
def State.calStepDone (s : State) (k : Nat) (sweep : SweepReads) (rows : RowReads) : State :=
  let cal := (s.arr k).cal
  match cal.run with
  | none => s
  | some r0 =>
    let r1 := { r0 with sweeps := (List.range 530).map (fun c => (c, nominalSweep (colVal cal c) c sweep)) }
    match r1.badReason cal s.resBound with
    | some reason => s.badRun k reason
    | none =>
      let failing := (r1.failures cal s.resBound).map (·.1)
      let masked := cal.drift.mask.map (522 + ·)
      let need := failing.filter (fun c => cal.suspectCols.contains c || masked.contains c)
        ++ masked.filter (fun c => !(failing.contains c))
      let named := rowNamed 1 (rowSums rows)
      let r2 := { r1 with
        failing := failing, need := need
        rowFound := (match named with
          | some (some r) => [r]
          | _ => [])
        needRows := decide (named = some none) }
      s.settleRun k { r2 with phase := .stepped }

/-- Sweep of a spare column on the converter it is mapped onto for a spare step. -/
def spareSweep (cal : ArrayCal) (spare : Nat) (l : SweepReads) : Sweep :=
  nominalSweep (cal.inForce.getD (530 + spare) ColVal.nominal) spare l

/-- A spare, characterised by its sweep, passes R122. -/
def sparePasses (cal : ArrayCal) (spare resBound : Nat) (sw : Sweep) : Bool :=
  let t := columnTarget (cal.inForce.getD (530 + spare) ColVal.nominal) cal.drift sw.slope sw.icept sw.convStep
  (columnFails t sw sw.var resBound).isNone

/-- A column's candidate spare has been characterised: it is mapped, or it is defective, and a column that two spares
fail keeps its old values. -/
def CalRun.trySpare (r : CalRun) (cal : ArrayCal) (resBound : Nat) (l : SweepReads) (p : Nat × Nat) : CalRun :=
  let sw := spareSweep cal p.2 l
  if sparePasses cal p.2 resBound sw then
    { r with
      need := r.need.filter (· != p.1), repairs := r.repairs ++ [(p.1, p.2)], sweeps := r.sweeps.put p.1 sw
      sums := r.sums.del p.1 }
  else
    let n := r.tried.getD p.1 0 + 1
    { r with tried := r.tried.put p.1 n, need := if 2 ≤ n then r.need.filter (· != p.1) else r.need }

/-- The columns that await a spare and their candidates, the lowest free first. -/
def CalRun.candidates (r : CalRun) (cal : ArrayCal) : List (Nat × Nat) := r.need.zip (r.offers cal)

/-- One spare step (R118, R123 step 3): each candidate is measured for its column, and one that fails R122 is
defective. -/
def spareRound (resBound : Nat) (l : SweepReads) (cal : ArrayCal) (r : CalRun) : ArrayCal × CalRun :=
  let pairs := r.candidates cal
  let bad := (pairs.map (·.2)).filter (fun p => !(sparePasses cal p resBound (spareSweep cal p l)))
  ({ cal with badSpares := cal.badSpares ++ bad }, pairs.foldl (fun r p => r.trySpare cal resBound l p) r)

/-- A spare step of a run. -/
def State.spareStepDone (s : State) (k : Nat) (l : SweepReads) : State :=
  match (s.arr k).cal.run with
  | none => s
  | some r =>
    let x := spareRound s.resBound l (s.arr k).cal r
    (s.updCal k (fun _ => x.1)).settleRun k x.2

/-- Rows that a row-localisation step finds (R118, R123 step 4): for each row group, its nine sums resolve one
row. A sum is keyed by 9 × row group + vector. -/
def rowsLocated (reads : List (Nat × Int)) : List Nat :=
  (List.range 4).filterMap (fun g =>
    let sums := (List.range 9).map (fun v => ((reads.find? (fun p => p.1 == 9 * g + v)).map (·.2)).getD 0)
    match rowNamed 1 sums with
    | some (some row) => if row / 64 = g then some row else none
    | _ => none)

/-- A row-localisation step of a run. -/
def State.rowStepDone (s : State) (k : Nat) (reads : List (Nat × Int)) : State :=
  match (s.arr k).cal.run with
  | none => s
  | some r =>
    if !r.needRows then s
    else
      s.settleRun k { r with rowFound := r.rowFound ++ rowsLocated reads, needRows := false }

/-! ### Commit (R124) and the boundary's work on an array -/

/-- Mean junction temperature of a run's cluster over the run. -/
def CalRun.meanTemp (r : CalRun) (now : Int) : Int := if r.tempN = 0 then now else r.tempSum / r.tempN

/-- UNIT_TIME of an engine after a commit: a free value in the range of Table 2-3 (log 6). -/
def State.newUnitTime (s : State) (k : Nat) : State :=
  let r := s.freshValue 16
  r.2.setReg ((Blk.eng (coreIx (arrCore k)) (engIx (arrEng k))).at Reg.UNIT_TIME) (word (5600 + r.1.toNat % 801))

/-- Commit a run with its capture temperature and load index (R124, R125). A column or row still suspect
awaits repair, which requests a run of class 1 (Table 5-3). -/
def State.commit (s : State) (k : Nat) (r : CalRun) (temp : Int) (load : Nat) : State :=
  let old := (s.arr k).cal
  let new := commitRun old r temp load s.opS
  let s1 := s.updCal k (fun _ => new)
  let s2 := ((s1.bump (Blk.cal.at Reg.RUNS_DONE) 1).bumpLo (Blk.cal.at Reg.SPARES_ASSIGNED)
    (r.repairs.length)).bumpHi (Blk.cal.at Reg.SPARES_ASSIGNED) (new.rowMap.length - old.rowMap.length)
  let s3 := ({ s2 with sec := { s2.sec with committed := s2.sec.committed + 1 } }).newUnitTime k
  let s4 := if new.exhausted && !old.exhausted then s3.repairExhausted k else s3
  if new.suspectCols.isEmpty && new.suspectRows.isEmpty then s4 else s4.requestRun k 1

/-- The drift update of an array, its LIMIT asking for a run (R103). An array that was not used keeps
what it holds. -/
def State.driftUpdate (s : State) (k : Nat) : State :=
  let old := (s.arr k).cal.drift
  let s1 := s.updCal k (fun c => { c with drift := c.drift.update })
  if (s1.arr k).cal.drift.limit && !old.limit then s1.requestRun k 1 else s1

/-- A run that is ready commits at this boundary (R124). -/
def State.commitDue (s : State) (k : Nat) : State :=
  match (s.arr k).cal.run with
  | some r => if r.phase = .ready then s.commit k r (r.meanTemp (s.arrTemp k)) (s.arrLoad k) else s
  | none => s

/-- Targets of the tick and the gradual step toward them (R127, R129). -/
def State.slewArray (s : State) (k : Nat) : State :=
  s.updCal k (fun c => slewAll (chooseTargets c (s.arrTemp k) (s.arrLoad k)))

/-- The extrapolation test (R128). Once set, ABOVE_BOUND stands until a run commits. -/
def State.extrapTest (s : State) (k : Nat) : State :=
  let c := (s.arr k).cal
  if c.extrap && decide (64 ≤ c.drift.n) && c.drift.above s.extrapBound then
    (s.updCal k (fun x => { x with aboveBound := true })).requestRun k 2
  else s

/-- Reference columns masked from this boundary (R104): recorded, and repair asked for. -/
def State.maskRefs (s : State) (k : Nat) : State :=
  let new := (s.arr k).cal.drift.newMasks
  if new.isEmpty then s
  else
    let s1 := s.updCal k (fun c => { c with drift := { c.drift with mask := c.drift.mask ++ new } })
    let s2 := new.foldl (fun (s : State) col =>
      s.note sevWarn "reference masked" (unitOfArr k) (ErrInfo.only (522 + col)).bytes) s1
    s2.requestRun k 1

/-- A run's temperature and ticks are followed (R125, R131). -/
def State.ageRun (s : State) (k : Nat) : State :=
  s.updCal k (fun c => { c with run := c.run.map (fun r =>
    if r.phase = .queued then r
    else { r with tempSum := r.tempSum + s.arrTemp k, tempN := r.tempN + 1, ticks := r.ticks + 1 }) })

/-- A class 4 request (Table 5-3): the cluster is within 3 °C of a point whose slot is empty, or whose
set's load index is more than 40 points away. -/
def State.class4 (s : State) (k : Nat) : State :=
  let t := s.arrTemp k
  let near := [360, 520, 680, 840].zipIdx.any (fun (p : Int × Nat) =>
    decide ((t - p.1).natAbs ≤ 24) && (match (s.arr k).cal.sets.get? p.2 with
      | none => true
      | some x => decide (40 < ((x.load : Int) - s.arrLoad k).natAbs)))
  if s.calAuto && near then s.requestRun k 4 else s

/-- The boundary's calibration of one array, in the order of Table 6-1: drift, commit, targets and the
gradual step, the extrapolation test, reference masks; then what the next tick starts from. -/
def State.calArray (s : State) (k : Nat) : State :=
  let s1 := ((s.driftUpdate k).ageRun k).commitDue k
  let s2 := ((s1.slewArray k).extrapTest k).maskRefs k
  (s2.updCal k (fun c => { c with drift := c.drift.resetTick })).class4 k

/-! ### Start-up calibration (R132) -/

/-- Readings of a start-up sweep are sums of 256 repeats (R132). -/
def startupSweep (v : ColVal) (c : Nat) (l : SweepReads) : Sweep :=
  match l.find? (fun p => p.1 == c) with
  | some p => (sweepOf v p.2).averaged 256
  | none => Sweep.nominal

/-- Spare steps of a start-up run until no column awaits a spare that is left; their number is last. -/
def startupSpares (resBound : Nat) (l : SweepReads) : Nat → ArrayCal → CalRun → ArrayCal × CalRun × Nat
  | 0, cal, r => (cal, r, 0)
  | n + 1, cal, r =>
    if (r.candidates cal).isEmpty then (cal, r, 0)
    else
      let x := spareRound resBound l cal r
      let y := startupSpares resBound l n x.1 x.2
      (y.1, y.2.1, y.2.2 + 1)

/-- What a start-up run found: the run to commit, the spares found defective, and the number of its spare and
row-localisation steps. -/
structure StartupRun where
  run : CalRun
  badSpares : List Nat
  spareSteps : Nat
  located : Bool
  deriving DecidableEq, Repr

/-- One start-up run of an array, or the reason it is bad. Failing columns and rows are repaired at once. -/
def startupRun (cal : ArrayCal) (resBound : Nat) (sweep spares : SweepReads) (rows : RowReads) (loc : List (Nat × Int)) :
    Except Nat StartupRun :=
  let r := { CalRun.queuedRun 1 0 with
    sweeps := (List.range 530).map (fun c => (c, startupSweep (colVal cal c) c sweep)) }
  match r.badReason cal resBound with
  | some reason => .error reason
  | none =>
    let failing := (r.failures cal resBound).map (·.1)
    let fixed := startupSpares resBound spares 16 cal { r with failing := failing, need := failing }
    let named := rowNamed 256 (rowSums rows)
    let rowHit := match named with
      | some (some x) => [x]
      | some none => rowsLocated loc
      | none => []
    .ok ⟨{ fixed.2.1 with rowFound := rowHit }, fixed.1.badSpares, fixed.2.2, named == some none⟩

/-- A calibration step's fires and loads are counted like others (R65, R126). -/
def State.countCal (s : State) (k fires loads : Nat) : State :=
  ((s.bumpWide ((Blk.eng (coreIx (arrCore k)) (engIx (arrEng k))).at Reg.FIRES_LO) fires).bump ((Blk.eng (coreIx (arrCore k)) (engIx (arrEng k))).at Reg.LOADS) loads).updEng
    (k / 2) (fun e => { e with fired := e.fired + fires })

/-- A start-up run of an array that is not bad takes effect: a column without a usable spare exhausts the array (R36). -/
def State.startupGood (s : State) (k : Nat) (x : StartupRun) : State :=
  let s1 := s.countCal k (65 * 256 + 56 * x.spareSteps + 36 * flag x.located) (1 + x.spareSteps + flag x.located)
  let s2 := s1.updCal k (fun c => { c with suspectRows := x.run.rowFound, badSpares := x.badSpares })
  let s3 := s2.commit k { x.run with need := [] } (s2.arrTemp k) s2.startLoad
  if x.run.need.isEmpty || (s3.arr k).cal.exhausted then s3 else s3.repairExhausted k

/-- A start-up run that is bad: its step's fires and load are counted, and it is recorded. -/
def State.startupBad (s : State) (k reason : Nat) : State := (s.countCal k (65 * 256) 1).recordBad k reason

/-- Start-up calibration of one array (R132): 0 where it is calibrated, 1 where it is exhausted (R36), 2 where the one
repeat of a bad run is bad too. -/
def State.startupArray (s : State) (x : StartupReads) : State × Nat :=
  let k := arrKey x.core x.eng x.arrB
  let spares := (x.sweep.filter (fun p => decide (530 ≤ p.1))).map (fun p => (p.1 - 530, p.2))
  let done := fun (s : State) (r : StartupRun) =>
    let s1 := s.startupGood k r
    (s1, flag (s1.arr k).cal.exhausted)
  match startupRun (s.arr k).cal s.resBound x.sweep spares x.rows x.loc with
  | .ok r => done s r
  | .error why =>
    let s1 := s.startupBad k why
    match startupRun (s1.arr k).cal s.resBound x.sweep2 spares x.rows2 x.loc with
    | .ok r => done s1 r
    | .error reason => (s1.startupBad k reason, 2)

/-- Start-up calibration of every array of a core, from what was read of each; arrays without readings
of their own read nominally. The worst outcome of an array is the core's. -/
def State.startupCore (s : State) (c : Nat) (reads : List StartupReads) : State × Nat :=
  (coreArrays c).foldl (fun (acc : State × Nat) k =>
    let x := (reads.find? (fun r => r.core.val == c && r.eng.val == arrEng k && r.arrB == arrIsB k)).getD
      ⟨coreIx c, engIx (arrEng k), arrIsB k, [], [], [], [], []⟩
    let r := acc.1.startupArray x
    (r.1, max acc.2 r.2)) (s, 0)

end Sys2Proof.Machine
end

