-- ==== Sys2Proof/Machine/Fences.lean ====
section
/-!
DEFINITION. Fences and changes of binding (R188 to R191, R340, R345 to R347): what the Usher does when a
core is fenced, unfenced or lost, and the background computation.
-/

namespace Sys2Proof.Machine

open Sys2Proof

/-! ### The background computation (R190) -/

/-- A verified plan of the group waits for its binding to be computed. -/
def Group.planWaits (x : Group) : Bool := x.staged.any (fun st => decide (st.phase = .verified) && !st.computed)

/-- Start computing for the first group that needs it, if nothing is being computed: a change of its binding, or the
bindings of a verified plan's variants. -/
def State.startCompute (s : State) : State :=
  if s.usher.computing.isSome then s
  else
    let due := fun (p : Nat × Group) => p.2.ticking && p.2.rebind.isSome && !(s.usher.ready.any (fun r => r.2 == p.1))
    match s.groups.find? (fun p => due p || p.2.planWaits) with
    | some p => { s with usher := { s.usher with computing := some (if due p then p.2.rebind.getD 0 else 0, p.1) } }
    | none => s

/-- A group needs a new binding for a reason of LAST_COMPUTE; what was computed before is out of date. -/
def State.needBind (s : State) (g reason : Nat) : State :=
  let s1 := s.updGrp g (fun x => { x with rebind := some reason })
  ({ s1 with usher := { s1.usher with ready := s1.usher.ready.filter (fun r => r.2 != g) } }).startCompute

/-- Every group that runs a plan needs a new binding. -/
def State.needBindAll (s : State) (reason : Nat) : State :=
  (s.groups.filter (fun p => p.2.ticking)).foldl (fun (s : State) p => s.needBind p.1 reason) s

/-- The computation ends (R190). -/
def State.computeDone (s : State) (micros : Nat) : State :=
  match s.usher.computing with
  | none => s
  | some (reason, g) =>
    let s1 := if reason = 0 then
        s.updGrp g (fun x => { x with staged := x.staged.map (fun st => { st with computed := decide (st.phase = .verified) }) })
      else { s with usher := { s.usher with ready := s.usher.ready ++ [(reason, g)] } }
    ({ s1 with usher := { s1.usher with
        computing := none, lastMicros := micros, lastGroup := g, lastReason := reason } }).startCompute

/-! ### Fences (R190, R345, R346) -/

/-- The standby of a fenced core takes its logical core over; the fenced core leaves the binding, as its
twin or its standby too. -/
def State.takeOverCore (s : State) (g c : Nat) : State :=
  let x := s.grp g
  let lost := fun (s : State) => s.updCore c (fun k => { k with lcore := none, running := false })
  match (x.bind.find? (fun p => p.2 == c)).map (·.1) with
  | none =>
    let s1 := s.updGrp g (fun y => { y with standby := y.standby.filter (fun p => p.2 != c) })
    if x.twins.any (fun p => p.2 == c) then (lost s1).needBind g 1 else s1
  | some l =>
    match x.standby.get? l with
    | some k =>
      if (s.core k).due ≠ 0 ∨ (s.core k).fenced ∨ (s.core k).stopped then s.needBind g 1
      else
        let s1 := (lost s).updGrp g (fun y => { y with bind := y.bind.put l k, standby := y.standby.del l })
        (s1.updCore k (fun z => { z with lcore := some l })).bump (Blk.usher.at Reg.REBINDS) 1
    | none => s.needBind g 1

/-- A fence takes effect (R345, R346): one record, the causes of the boundary together. PERMANENT follows
cause 4, and cause 10 while the core cannot be reached. A stopped core stays stopped until no logical core is bound to it
(R191). -/
def State.fenceNow (s : State) (c : Nat) : State :=
  let k := s.core c
  if k.due = 0 then s
  else if k.fenced then s.updCore c (fun z => { z with causes := z.causes ||| z.due, due := 0, permanent := z.permanent || z.due.testBit 4 })
  else
    let mask := k.causes ||| k.due
    let runs := s.coreRunning c
    let s1 := s.updCore c (fun z => { z with
      fenced := true, passThrough := true, causes := mask, due := 0, permanent := z.permanent || mask.testBit 4 || mask.testBit 10 })
    let s2 := s1.error (if mask = 2 then sevInfo else sevError) 0x0403 (unitCore c) k.group none mask
    let s3 := if mask = 2 then s2 else s2.bump (Blk.err.at Reg.ESCALATIONS) 1
    let s4 := runs.foldl State.abandonRun s3
    let s5 := match k.group with
      | some g => s4.takeOverCore g c
      | none => s4
    if (s5.core c).lcore.isNone then s5.updCore c (fun z => { z with stopped := false }) else s5

/-- Fences due at a boundary of a group: of its cores, and of the cores of no group or of a group without
boundaries. -/
def State.applyFences (s : State) (g : Nat) : State :=
  (s.cores.filter (fun p => decide (p.2.due ≠ 0) && (match p.2.group with
      | some h => h == g || !(s.grp h).ticking
      | none => true))).foldl (fun (s : State) p => s.fenceNow p.1) s

/-- A fence of a core whose group has no boundaries takes effect at once (log 16). -/
def State.fenceSoon (s : State) (c cause : Nat) : State :=
  let s1 := s.fence c cause
  if s1.groups.any (fun p => p.2.ticking) then s1 else s1.fenceNow c

/-- Clusters reached from a set over links in service. -/
def State.reached (s : State) : Nat → List Nat → List Nat
  | 0, l => l
  | n + 1, l => State.reached s n ((l ++ l.flatMap (fun c => (s.nextHops c).map (·.2))).eraseDups)

/-- Clusters that the links in service do not connect with D0.C0 and the port. -/
def State.unreached (s : State) : List Nat :=
  let r := s.reached 32 [0]
  (List.range 32).filter (fun c => !(r.contains c))

/-- A die link that a clock has taken out of service since the last boundary: what it cuts off is fenced with cause 10, its
stacks are lost, and every group binds anew (R194, Table 11-3). -/
def State.afterBreak (s : State) : State :=
  if !s.fabric.broken then s
  else
    let s1 := { s with fabric := { s.fabric with broken := false } }
    let gone := s1.unreached
    let s2 := (gone.flatMap (fun c => (List.range 18).map (· + 18 * c))).foldl (fun (s : State) k => s.fenceSoon k 10) s1
    let cut := (List.range 12).filter (fun k => gone.contains (k / 3 * 8 + stackCluster k) && !((s2.stack k).failed))
    ({ s2 with fabric := { s2.fabric with lostStacks := (s2.fabric.lostStacks ++ cut).eraseDups } }).needBindAll 3

/-- A stage returns to its primary core as that core returns to service (R193). -/
def State.restoreStage (s : State) (c : Nat) : State :=
  let dir := stageDir (c % 18)
  let key := dirKey (c / 18) dir
  if dir = 0 ∨ c % 18 ≠ (stageCores dir).1 ∨ !(s.core c).stageFault then s
  else
    { s.updCore c (fun k => { k with stageFault := false }) with
      fabric := { s.fabric with
        onStandby := s.fabric.onStandby.filter (· != key), stageDead := s.fabric.stageDead.filter (· != key)
        meshDown := if s.fabric.stageDead.contains key then s.fabric.meshDown.filter (· != key) else s.fabric.meshDown } }.needBindAll 3

/-- A tested core returns to service (R347): its fence is lifted, it is offered to the placer, and its
runs go on. -/
def State.unfence (s : State) (c : Nat) : State :=
  let s1 := s.updCore c (fun k => { k with
    fenced := false, testing := false, stopped := false, passThrough := false, causes := 0, due := 0, errors := [] })
  let s2 := ((s1.restoreStage c).error sevInfo 0x0404 (unitCore c) (s.core c).group none 0xFFFFFFFF).resumeRuns c
  match (s.core c).group with
  | some g => if (s2.grp g).ticking then s2.needBind g 2 else s2
  | none => s2

/-- Good cores assigned to a group less fenced ones: n of R149 and R161. -/
def State.coresLeft (s : State) (g : Nat) : Nat :=
  ((s.groupCores g).filter (fun c => s.good c && !(s.core c).fenced)).length

/-! ### Full redundancy (R338, R340) -/

/-- The running plan's variant places doubled, every fire finishing 16 clocks later. -/
def State.doublePlaces (s : State) (g : Nat) : Bool :=
  match (s.grp g).current, (s.grp g).variant with
  | some p, some v =>
    (checkVariantLate p.plan v v.clock true 16).isNone && (s.bindVariant g p.plan v true).isSome
  | _, _ => false

/-- Redundancy is dropped where a fence leaves too few cores for it (R340). -/
def State.dropRedundancy (s : State) (g : Nat) : State :=
  match (s.grp g).variant with
  | none => s
  | some v =>
    if (s.grp g).redundant ∧ s.coresLeft g < 2 * v.lcores then
      let s1 := s.updGrp g (fun x => { x with redundant := false, twins := [], boundKind := none })
      s1.note sevWarn "redundancy dropped" unitPackage { ErrInfo.only 0xFFFFFFFF with group := g }.bytes
    else s

end Sys2Proof.Machine
end

