-- ==== Sys2Proof/Machine/ServeOps.lean ====
section
/-!
DEFINITION. Contexts, requests and instances in common (Chapters 8 and 9): slots, count tables, prefix
blocks, truncation, the end of a request, activation and unloading, and spills.
-/

namespace Sys2Proof.Machine

open Sys2Proof

/-! ### Slots (R15, R246) -/

/-- First slot of a channel, and its slots. -/
def slotBase (ch : Nat) : Nat := if ch ≤ 8 then 171 * ch else 1368 + 170 * (ch - 8)
def slotCount (ch : Nat) : Nat := if ch < 8 then 171 else 170

/-- Slots of a group: the sum of its channels' (R17). -/
def Group.slots (g : Group) : Nat := sumNats (g.chans.map slotCount)

/-- Slots held on the package: by requests, and by requests that ended in a tick whose frame is not
sent. -/
def State.slotsUsed (s : State) : List Nat :=
  s.reqs.filterMap (·.slot) ++ (s.ended.filter (fun e => !e.reported)).filterMap (·.slot)

/-- Free slots of a group on a die, ascending. -/
def State.freeSlots (s : State) (g d : Nat) : List Nat :=
  let used := s.slotsUsed
  ((s.grp g).dieChans d).flatMap (fun ch =>
    ((List.range (slotCount ch)).map (· + slotBase ch)).filter (fun k => !(used.contains k)))

/-! ### Count tables (R259) -/

/-- Home entry of a token id. -/
def countHome (id : Nat) : Nat := (id * 0x9E3779B1 % 2 ^ 32) / 2 ^ 20

/-- The entries a token may take. -/
def countPlaces (id : Nat) : List Nat := (List.range 8).map (fun i => (countHome id + i) % 4096)

/-- Count of a token. -/
def countOf (t : Tbl (Nat × Nat)) (id : Nat) : Nat :=
  match (countPlaces id).find? (fun e => (t.get? e).map (·.1) == some id) with
  | some e => (t.getD e (0, 0)).2
  | none => 0

/-- Count a token; false where none of its places can take it. -/
def countAdd (t : Tbl (Nat × Nat)) (id : Nat) : Tbl (Nat × Nat) × Bool :=
  match (countPlaces id).find? (fun e => match t.get? e with
      | some x => x.1 == id
      | none => true) with
  | some e => (t.put e (id, min 65535 ((t.getD e (id, 0)).2 + 1)), true)
  | none => (t, false)

/-- Count a token for a request. -/
def Req.count (r : Req) (id : Nat) : Req :=
  let c := countAdd r.counts id
  { r with counts := c.1, misses := if c.2 then r.misses else r.misses + 1 }

/-! ### Prefix blocks (R220, R221) -/

/-- Hash of a block from the hash before it, its tokens and the generations. -/
def blockHash (before : List Byte) (tokens : List Nat) (gen adapter adapterGen : Nat) : List Byte :=
  Crypto.sha256 (before ++ tokens.flatMap (Crypto.bytesLE 4) ++ Crypto.bytesLE 8 gen ++ Crypto.bytesLE 4 adapter
    ++ Crypto.bytesLE 4 adapterGen)

/-- Hash of full block k of a context, while the chain holds it. -/
def Ctx.blockAt (c : Ctx) (k : Nat) : Option (List Byte) :=
  let old := c.blocks - c.chain.length
  if k < old then none else c.chain[k - old]?

/-- First block from k on, among n, that differs; the hash before it goes along. -/
def firstDiff (c : Ctx) (tokens : List Nat) (gen ad adGen : Nat) : Nat → Nat → List Byte → Option Nat
  | 0, _, _ => none
  | n + 1, k, before =>
    let h := blockHash before ((tokens.drop (128 * k)).take 128) gen ad adGen
    if c.blockAt k = some h then firstDiff c tokens gen ad adGen n (k + 1) h else some k

/-- Positions in which two token lists agree from their start. -/
def agree : List Nat → List Nat → Nat
  | a :: x, b :: y => if a = b then agree x y + 1 else 0
  | _, _ => 0

/-- The truncation point of a whole history submitted to a context, and the full blocks matched
(R221, R247). -/
def Ctx.matchHistory (c : Ctx) (tokens : List Nat) (gen ad adGen : Nat) : Nat × Nat :=
  let fc := c.length / 128
  let fs := tokens.length / 128
  let differs := decide (c.length ≠ 0)
    && (decide (c.stateGen ≠ gen) || decide (c.adapter ≠ ad) || decide (c.adapterGen ≠ adGen))
  let r : Nat × Nat :=
    if differs then (0, 0)
    else match firstDiff c tokens gen ad adGen (min fc fs) 0 (List.replicate 32 0) with
      | some b => (128 * b, b)
      | none =>
        if fs < fc then (128 * fs, fs)
        else (128 * fc + agree (tokens.drop (128 * fc)) c.tail, fc)
  (min (min r.1 c.length) (tokens.length - 1), r.2)

/-! ### Pages and frames (R199, R200, R216, R217, R219, R221) -/

/-- Stacks that a context's frames use: those of the group's channels on its home die (R199). -/
def State.frameStacks (s : State) (c : Ctx) : List Nat := (s.grp c.group).dieChans c.homeDie

/-- Device granule of granule i of a frame: on the i mod s-th of its stacks, from granule 0, whose address FRAME is, on
(R199, R203). -/
def frameGranule (stackTbl : List Nat) (frame i : Nat) : Nat := stripe stackTbl frame i

/-- The first n granules of a frame of a context. -/
def State.frameGranules (s : State) (c : Ctx) (frame n : Nat) : List Nat :=
  (List.range n).map (frameGranule (s.frameStacks c) frame)

/-- Write granules at some addresses. -/
def State.putAt (s : State) (addrs vals : List Nat) : State :=
  ((addrs.zip vals).foldl (fun (s : State) p => s.putGranule p.1 p.2) s).countWrites ((addrs.zip vals).map (·.1))

/-- An attention layer's entry of a group's active generation. -/
def State.attnEntry (s : State) (g layer : Nat) : Option AttnEnt := (s.attnOf g).find? (fun a => a.layer == layer)

/-- Frames of a page size on the stacks of a group on a die, one after another, clear of what is in use and of rows
taken besides (R199, log 26); and the rows they take. -/
def State.newFrames (s : State) (g die size n : Nat) (taken : List (Nat × Nat)) : List Nat × (Nat × Nat) × State :=
  let x := s.grp g
  let rows := stripeRows (x.dieChans die) size
  let r := s.newPlace g die (n * rows) taken
  ((List.range n).map (fun i => x.rowAddr die (r + i * rows)), (r, n * rows), { s with fresh := s.fresh + 1 })

/-- Reserve BUDGET frames for each attention layer. -/
def State.reserveFrames (s : State) (g die budget : Nat) : Tbl (List Nat) × State :=
  let r := (s.attnOf g).foldl (fun (acc : Tbl (List Nat) × List (Nat × Nat) × State) a =>
    let r := acc.2.2.newFrames g die a.pageGranules budget acc.2.1
    (acc.1.put a.layer r.1, r.2.1 :: acc.2.1, r.2.2)) ([], [], s)
  (r.1, r.2.2)

/-- Remove pages by a test; their frames return to the reservation of their layer. -/
def Ctx.dropPagesIf (c : Ctx) (p : Nat → Pte → Bool) : Ctx :=
  { c with
    tables := c.tables.map (fun t => (t.1, t.2.filter (fun e => !(p t.1 e))))
    free := c.tables.foldl (fun (f : Tbl (List Nat)) t =>
      f.upd t.1 [] (· ++ (t.2.filter (p t.1)).map (·.frame))) c.free }

/-- Truncate a context at a point (R221), with the tokens of its last part block. -/
def Ctx.truncateAt (c : Ctx) (point : Nat) (tail : List Nat) : Ctx :=
  let c1 := c.dropPagesIf (fun _ e => decide (point ≤ 128 * e.page))
  let old := c.blocks - c.chain.length
  { c1 with
    tables := c1.tables.map (fun t => (t.1, t.2.map (fun e =>
      if e.page = point / 128 then { e with fill := min e.fill (point % 128) } else e)))
    length := point, tail := tail, blocks := point / 128, chain := c.chain.take (point / 128 - old)
    stateGen := if point = 0 then 0 else c.stateGen
    adapter := if point = 0 then 0 else c.adapter
    adapterGen := if point = 0 then 0 else c.adapterGen }

/-- Tokens of the part block before a point that the record still holds, and free values for those of
an earlier block, of which it holds only the hash (log 36). -/
def State.tailBefore (s : State) (c : Ctx) (point : Nat) : List Nat × State :=
  if point / 128 = c.length / 128 then (c.tail.take (point % 128), s)
  else ((List.range (point % 128)).map (fun i => (Config.freeValue 32 (s.fresh + i)).toNat),
    { s with fresh := s.fresh + point % 128 })

/-- Cancel a context's queued spills; their frames return to the pool (R217). -/
def State.cancelSpills (s : State) (c : Nat) : State :=
  let mine := s.spill.queue.filter (fun q => q.ctx == c)
  { s with spill := { lentGranules := s.spill.lentGranules - sumNats (mine.map (·.granules))
                      queue := s.spill.queue.filter (fun q => q.ctx != c) } }

/-- Free a context. -/
def State.freeCtx (s : State) (c : Nat) : State :=
  let s1 := s.cancelSpills c
  { s1 with contexts := s1.contexts.del c }

/-! ### Adapters (R241, R243) -/

/-- Change one generation of an adapter. -/
def State.updAdGen (s : State) (g ident num : Nat) (f : AdGen → AdGen) : State :=
  s.updInst g (fun i => { i with adapters := i.adapters.map (fun p =>
    if p.1 = ident then (p.1, { p.2 with gens := p.2.gens.map (fun x => if x.num = num then f x else x) }) else p) })

/-- A request binds to, or releases, an adapter generation. -/
def State.bindAdapter (s : State) (g ident num : Nat) : State :=
  s.updAdGen g ident num (fun x => { x with refs := x.refs + 1 })
def State.unbindAdapter (s : State) (g ident num : Nat) : State :=
  s.updAdGen g ident num (fun x => { x with refs := x.refs - 1 })

/-- Free adapter generations that nothing references: old ones, and every one of an identifier that is
unloaded (R241, R243). A generation still loading stays, but for an unloaded identifier's. -/
def State.sweepAdapters (s : State) (g : Nat) : State :=
  s.updInst g (fun i =>
    let ads := i.adapters.map (fun p => (p.1, { p.2 with gens := p.2.gens.filter (fun x =>
      decide (0 < x.refs) || (!p.2.unloaded && (x.num == p.2.current || !x.verified || decide (p.2.current < x.num)))) }))
    { i with adapters := ads.filter (fun p => !p.2.gens.isEmpty) })

/-- At a boundary a verified replacement becomes current, and old generations without references are
freed (R241). -/
def State.switchAdapters (s : State) (g : Nat) : State :=
  (s.updInst g (fun i => { i with adapters := i.adapters.map (fun p =>
    (p.1, { p.2 with current := ((p.2.gens.filter (·.verified)).map (·.num)).foldl max p.2.current })) })).sweepAdapters g

/-! ### The end of a request (R245, R251) -/

/-- A frame entry without a token. -/
def endEntry (req reason : Nat) : TokenEntry :=
  { req := req, token := 0, noToken := true, late := false, degraded := false, wide := false
    replayed := false, evicted := false, done := true, reason := reason }

/-- What a context passes to as its request ends: STALE with REPLACED, or while its state is of other
generations than its instance's, otherwise IDLE (Table 9-8, log 37). -/
def State.ctxAfter (s : State) (c : Ctx) (reason : Nat) : CtxPhase :=
  if reason = 4 then .stale
  else if c.length = 0 then .idle
  else if ((s.inst c.group).active.map (·.id)) = some c.stateGen then .idle else .stale

/-- A request ends with a reason and an entry for the frame. -/
def State.endReq (s : State) (r : Req) (reason : Nat) (entry : TokenEntry) : State :=
  let s1 := { s with
    reqs := s.reqs.filter (fun x => !(x.sess == r.sess && x.f.id == r.f.id))
    ended := s.ended ++ [(⟨r.sess, r.f.id, r.group, reason, r.slot, entry, false⟩ : Ended)] }
  let s2 := s1.updCtx r.f.ctx (fun c => { c with state := s1.ctxAfter c reason, turns := c.turns + 1, truncate := none })
  let s3 := if r.f.adapter = 0 then s2 else s2.unbindAdapter r.group r.f.adapter r.adapterGen
  if reason = 2 then s3.updGrp r.group (fun g => { g with deadlineEnds := g.deadlineEnds + 1 }) else s3

/-- Requests of a group end without a token. -/
def State.endAll (s : State) (g reason : Nat) : State :=
  (s.reqs.filter (fun r => r.group == g)).foldl (fun (s : State) r => s.endReq r reason (endEntry r.f.id reason)) s

/-! ### Instances (R229 to R231) -/

/-- Every context of a group becomes STALE. -/
def State.staleAll (s : State) (g : Nat) : State :=
  { s with contexts := s.contexts.map (fun p =>
      if p.2.group = g ∧ (p.2.state = .idle ∨ p.2.state = .busy) then (p.1, { p.2 with state := .stale }) else p) }

/-- The loaded generation becomes ACTIVE (R230, R231). -/
def State.activate (s : State) (g : Nat) : State :=
  match (s.inst g).next with
  | none => s
  | some x =>
    let s1 := (s.endAll g 4).staleAll g
    let k := s1.activations + 1
    let s2 := { s1 with activations := k }
    s2.updInst g (fun i => { i with
      active := some { x with id := s2.nvm.bootCount * 2 ^ 32 + k, phase := .active }, next := none, adapters := [] })

/-- A committed or staged plan is discarded; its PLAN_COMMIT, if sent, is answered with a status, and with the record
concerned where the plan was found invalid (R275). -/
def State.dropStaged (s : State) (g : Nat) (st : Status) (record : Nat) : State :=
  match (s.grp g).staged with
  | none => s
  | some x =>
    let s1 := s.updGrp g (fun y => { y with staged := none })
    let s2 := if s1.usher.computing = some (0, g) then { s1 with usher := { s1.usher with computing := none } } else s1
    match x.origin with
    | some (sess, seq) => s2.reply sess seq st record 0 []
    | none => s2

/-- Ends of a group's requests that no frame will carry any more. -/
def State.reportEnded (s : State) (g : Nat) : State :=
  { s with ended := s.ended.map (fun (e : Ended) => if e.group = g then { e with reported := true } else e) }

/-- The group runs no ticks until a new commit (R166): its plan, variant and binding go. -/
def State.retirePlan (s : State) (g : Nat) : State :=
  (s.updGrp g (fun x => { x with
    current := none, forced := none, suspended := false, suspCause := 0, running := false, overrun := false
    started := 0, unmarked := [], markSent := false, ledger := 0, rres := 0, topups := [], clean := 0
    callWide := none, redundant := false, chosen := [], admitted := [], preps := [], kind := 0, mhz := 0
    next := 0, throttled := false, ticked := false, usedForced := false, prevClean := false })).reportEnded g |>.unbind g

/-- The active generation is unloaded (R231). -/
def State.unload (s : State) (g : Nat) : State :=
  (((s.endAll g 4).staleAll g).updInst g (fun i => { i with active := none, adapters := [] })).retirePlan g

/-! ### Prefill balance limits (R255) -/

/-- Fire slots that one prefill query row costs against one page (R213, R255). -/
def AttnEnt.rowSlots (a : AttnEnt) : Nat :=
  a.kvHeads * a.qPerKv * (if a.kv8 then 2 else 1) * (2 * ceilDiv a.keyDim 256 + a.valueDim / 64)

/-- Fire slots of a layer's records on key and value tiles. -/
def Variant.kvFires (v : Variant) (layer : Nat) : Nat :=
  sumNats (v.ops.map (fun op =>
    if op.args.kv && op.args.layer == layer then
      (if op.cls = clsFire then op.rep else if op.cls = clsFirePair then 2 * op.rep else 0)
    else 0))

/-- The pair budget of a group's plan: the least over its attention layers. -/
def State.pairBudget (s : State) (g : Nat) : Nat :=
  match (s.grp g).variant with
  | none => 0
  | some v =>
    match (s.attnOf g).map (fun a => if a.rowSlots = 0 then 0 else v.kvFires a.layer / a.rowSlots) with
    | [] => 0
    | h :: t => t.foldl min h

end Sys2Proof.Machine
end

