-- ==== Sys2Proof/Machine/HostMaint.lean ====
section
/-!
DEFINITION. The maintenance commands (Table 10-7 from 0x70, Table 5-4): fences, probe packs, calibration
requests and redundancy.
-/

namespace Sys2Proof.Machine

open Sys2Proof

/-! ### Fences (R347) -/

/-- CORE_FENCE. -/
def runCoreFence (s : State) (c : Nat) : Ans :=
  if 576 ≤ c then .fail s .conflict
  else if !s.good c then .fail s .noResource
  else if (s.core c).fenced then .fail s .conflict
  else .ok (s.fenceSoon c 1)

/-- CORE_UNFENCE: the test begins. -/
def runCoreUnfence (s : State) (c : Nat) : Ans :=
  if 576 ≤ c then .fail s .conflict
  else
    let k := s.core c
    if !k.fenced ∨ k.permanent ∨ k.testing then .fail s .conflict
    else .ok (s.updCore c (fun x => { x with testing := true }))

/-! ### Probe packs (R348 to R351) -/

/-- PROBE_LOAD: the fetch begins. -/
def runProbeLoad (s : State) (h : Hdr) (loc : StorageLoc) : Ans :=
  if s.probe.loading.isSome then .fail s .busy
  else
    let key := ((s.session? h.sess).map (·.key)).getD 0
    let s1 := { s with probe := { s.probe with loading := some ⟨h.sess, h.seq, key, loc⟩, fetches := 1 } }
    { s := s1.send (.nvmeRead loc 4), st := .accepted }

/-- Result of a core in the latest sweep: 0 not run, 1 pass, 2 fail. -/
def runProbeResults (s : State) (pack : Nat) : Ans :=
  match s.probe.held with
  | none => .fail s .conflict
  | some p =>
    if p.id ≠ pack then .fail s .conflict
    else .ok s ((List.range 576).flatMap (fun c =>
      let k := s.core c
      [k.probeResult, if k.probeResult = 2 then k.probeFirst else 0]))

/-! ### Calibration commands (R133) -/

/-- The arrays of a scope; disabled cores are passed over, and an array of one is named by itself. -/
def State.scopeArrays (s : State) (x : CalScope) : Except Status (List Nat) :=
  let of := fun (cs : List Nat) => Except.ok ((cs.filter s.good).flatMap coreArrays)
  match x with
  | .package => of (List.range 576)
  | .die d => if 4 ≤ d then .error .conflict else of ((List.range 144).map (· + 144 * d))
  | .core c => if 576 ≤ c then .error .conflict else of [c]
  | .array c e b =>
    if 576 ≤ c ∨ 16 ≤ e then .error .conflict
    else if !s.good c then .error .noResource
    else .ok [arrKey (coreIx c) (engIx e) b]

/-- CAL_REQUEST: the runs queued that were not before. -/
def runCalRequest (s : State) (x : CalScope) : Ans :=
  match s.scopeArrays x with
  | .error st => .fail s st
  | .ok ks =>
    let new := ks.filter (fun k => ((s.arr k).cal.run).isNone)
    .ok (ks.foldl (fun (s : State) k => s.requestRun k 3) s) [new.length]

/-- A class 3 run that has not left the queue. -/
def ArrayCal.hostQueued (c : ArrayCal) : Bool :=
  match c.run with
  | some r => decide (r.phase = .queued) && decide (r.cls = 3)
  | none => false

/-- CAL_CANCEL: the number withdrawn. -/
def runCalCancel (s : State) (x : CalScope) : Ans :=
  match s.scopeArrays x with
  | .error st => .fail s st
  | .ok ks =>
    let mine := ks.filter (fun k => (s.arr k).cal.hostQueued)
    .ok (mine.foldl (fun (s : State) k => s.updCal k (fun c => { c with run := none })) s) [mine.length]

/-- Sets of an array left when the slots of a mask are discarded. -/
def ArrayCal.without (c : ArrayCal) (slots : Nat) : Tbl CalSet := c.sets.filter (fun p => !slots.testBit p.1)

/-- CAL_DISCARD. -/
def runCalDiscard (s : State) (x : CalScope) (slots : Nat) : Ans :=
  if 16 ≤ slots then .fail s .conflict
  else match s.scopeArrays x with
  | .error st => .fail s st
  | .ok ks =>
    if ks.any (fun k => ((s.arr k).cal.without slots).isEmpty) then .fail s .conflict
    else .ok (ks.foldl (fun (s : State) k => s.updCal k (fun c => { c with sets := c.without slots })) s)

/-! ### Redundancy (R338) -/

/-- REDUNDANCY_SET, judged with the fences of the boundary at which it applies. -/
def runRedundancySet (s : State) (g : Nat) (on : Bool) : Ans :=
  if 12 ≤ g ∨ (s.grp g).formed = false then .fail s .conflict
  else if on then
    if (s.grp g).redundant then .ok s
    else if (s.applyFences g).doublePlaces g then
      .ok (s.updGrp g (fun x => { x with redundant := true, boundKind := none }))
    else .fail (s.bump (Blk.usher.at Reg.UNPLACEABLE) 1) .unplaceable
  else .ok (s.updGrp g (fun x => { x with
    redundant := false, boundKind := if x.redundant then none else x.boundKind }))

end Sys2Proof.Machine
end

