-- ==== Sys2Proof/Machine/CtxImage.lean ====
section
/-!
DEFINITION. A context as bytes: its page table entries (R203, Table 8-4), and the image that a suspension writes to the
backing region and a restoration reads (R218). The spec gives the fields and their widths, and not their order in the
region (log 35).
-/

namespace Sys2Proof.Machine

open Sys2Proof

/-! ### Page tables (R202, R203) -/

/-- The 128 bits of a page table entry. -/
def Pte.word (e : Pte) : Nat :=
  fld e.frame 0 35 + fld 1 35 1 + fld (flag e.sink) 36 1 + fld (flag e.kv8) 37 1 + fld e.fill 38 8 + fld e.first 46 7
    + fld e.page 64 24 + fld e.score 88 16

/-- The entry of 128 bits; none where VALID is 0. -/
def Pte.ofWord (w : Nat) : Option Pte :=
  if w.testBit 35 then
    some { frame := bitsAt w 0 35, sink := w.testBit 36, kv8 := w.testBit 37, fill := bitsAt w 38 8, first := bitsAt w 46 7
           page := bitsAt w 64 24, score := bitsAt w 88 16 }
  else none

/-- Byte address of entry i of attention layer l of a context's page table. -/
def Ctx.pteAddr (c : Ctx) (l i : Nat) : Nat := 32 * c.ptBase + 16 * (l * c.budget + i)

/-- The entries of a layer: resident pages in ascending page position, the rest with VALID 0. -/
def Ctx.layerBytes (c : Ctx) (layer : Nat) : List Byte :=
  let t := c.tables.getD layer []
  (List.range c.budget).flatMap (fun i => Crypto.bytesLE 16 ((t[i]?.map Pte.word).getD 0))

/-- The page table of a context, by attention layer. -/
def Ctx.tableBytes (c : Ctx) (layers : List Nat) : List Byte := layers.flatMap c.layerBytes

/-- The entries that a layer's bytes spell. -/
def layerOfBytes (budget : Nat) (bs : List Byte) : List Pte :=
  (List.range budget).filterMap (fun i => Pte.ofWord (le bs (16 * i) 16))

/-! ### The record (Tables 8-3 and 9-7) -/

/-- Fields of fixed size, as bytes and value. -/
def Ctx.fixedFields (c : Ctx) : List (Nat × Nat) :=
  [ (1, c.homeDie), (2, c.budget), (4, c.length), (1, c.policy), (1, c.shift), (5, c.ptBase)
  , (4, c.backing.target + 16 * c.backing.ns), (8, c.backing.base), (4, c.backing.len)
  , (1, c.group), (4, c.key), (4, c.tenant), (8, c.tag), (8, c.stateGen), (4, c.adapter), (4, c.adapterGen)
  , (1, 0), (4, c.turns), (6, c.generated), (1, c.tail.length), (4, c.blocks), (2, c.chain.length) ]

/-- Bytes of the record: its fixed fields, TAIL_TOKENS and CHAIN. -/
def contextBytes : Nat := 81 + 4 * 127 + 32 * 1024

/-- Bytes filled up with zeros to a length. -/
def padTo (n : Nat) (l : List Byte) : List Byte := l ++ List.replicate (n - l.length) 0

def Ctx.recordImage (c : Ctx) : List Byte :=
  c.fixedFields.flatMap (fun f => Crypto.bytesLE f.1 f.2) ++ padTo (4 * 127) (c.tail.flatMap (Crypto.bytesLE 4))
    ++ padTo (32 * 1024) (c.chain.flatMap id)

/-- The record that bytes spell, without its page tables. -/
def Ctx.ofRecord (bs : List Byte) : Option Ctx :=
  if bs.length < contextBytes then none
  else
    let handle := le bs 14 4
    some { homeDie := le bs 0 1, budget := le bs 1 2, length := le bs 3 4, policy := le bs 7 1, shift := le bs 8 1
           ptBase := le bs 9 5, backing := ⟨handle % 16, handle / 16, le bs 18 8, le bs 26 4⟩
           group := le bs 30 1, key := le bs 31 4, tenant := le bs 35 4, tag := le bs 39 8, stateGen := le bs 47 8
           adapter := le bs 55 4, adapterGen := le bs 59 4, turns := le bs 64 4, generated := le bs 68 6
           tail := (List.range (le bs 74 1)).map (fun i => le bs (81 + 4 * i) 4), blocks := le bs 75 4
           chain := (List.range (le bs 79 2)).map (fun i => (bs.drop (81 + 508 + 32 * i)).take 32)
           tables := [], free := [], state := .idle, evicted := false, origin := none, originAt := 0, dropPages := []
           damaged := false, orphan := false, masses := [], crossFill := [], truncate := none, grow := [], growBy := (0, 0, 0) }

/-! ### The image (R218) -/

/-- Attention layers of a context's instance. -/
def State.ctxLayers (s : State) (c : Ctx) : List Nat := (s.attnOf c.group).map (·.layer)

/-- Granules of a page of a layer. -/
def State.pageSize (s : State) (g layer : Nat) : Nat := ((s.attnEntry g layer).map AttnEnt.pageGranules).getD 0

/-- Bytes that a suspension writes: the record, the page table, and the resident pages in the table's order. -/
def State.contextImage (s : State) (c : Ctx) : List Byte :=
  c.recordImage ++ c.tableBytes (s.ctxLayers c)
    ++ (s.ctxLayers c).flatMap (fun layer => (c.tables.getD layer []).flatMap (fun e =>
      (s.frameGranules c e.frame (s.pageSize c.group layer)).flatMap (fun i => Crypto.bytesLE 32 (s.granule i))))

/-- Resident pages of an image with their layers, each with the byte at which its page begins. -/
def State.imagePages (s : State) (g : Nat) (tables : Tbl (List Pte)) (start : Nat) : List (Nat × Pte × Nat) :=
  (tables.foldl (fun (acc : List (Nat × Pte × Nat) × Nat) t =>
    let size := 32 * s.pageSize g t.1
    (acc.1 ++ t.2.zipIdx.map (fun p => (t.1, p.1, acc.2 + size * p.2)), acc.2 + size * t.2.length)) ([], start)).1

/-- The context that an image spells for an instance of a group: its record with its page tables; and where its pages
begin. -/
def State.contextOf (s : State) (g : Nat) (bs : List Byte) : Option (Ctx × Nat) :=
  (Ctx.ofRecord bs).map (fun c =>
    let layers := (s.attnOf g).map (·.layer)
    ({ c with tables := layers.zipIdx.map (fun p =>
        (p.1, layerOfBytes c.budget ((bs.drop (contextBytes + 16 * c.budget * p.2)).take (16 * c.budget)))) }
    , contextBytes + 16 * c.budget * layers.length))

/-- Granules of a page in an image. -/
def imagePage (bs : List Byte) (start n : Nat) : List Nat :=
  (List.range n).map (fun i => Crypto.natLE ((bs.drop (start + 32 * i)).take 32))

end Sys2Proof.Machine
end

