-- ==== Sys2Proof/Machine/HostServe.lean ====
section
/-!
DEFINITION. The serving and plan commands (Tables 6-9 and 9-13): what each does once it is processed or
applied at a boundary.
-/

namespace Sys2Proof.Machine

open Sys2Proof

/-! ### Groups (R16, R228) -/

/-- The group of an index below 12 that is formed. -/
def State.formed? (s : State) (g : Nat) : Option Group :=
  if g < 12 ∧ (s.grp g).formed then some (s.grp g) else none

/-- A generation is active, loading or loaded on a group. -/
def Inst.busy (i : Inst) : Bool := i.active.isSome || i.next.isSome

/-- GROUP_FORM (R16, R18, R186, R228, R300, R316). -/
def runGroupForm (s : State) (g mask : Nat) : Ans :=
  if 12 ≤ g ∨ mask = 0 ∨ 4096 ≤ mask then .fail s .conflict
  else if (maskBits 12 mask).any (fun k => (s.stack k).failed) then .fail s .conflict
  else if s.groups.any (fun p => p.1 != g && p.2.formed && decide (p.2.channels &&& mask ≠ 0)) then .fail s .conflict
  else if (s.grp g).formed ∧ (s.grp g).channels ≠ mask ∧ (s.inst g).busy then .fail s .conflict
  else .ok ((s.updGrp g (fun x => { x with formed := true, channels := mask })).reassign none)

/-- GROUP_DISSOLVE (R228): a staged or committed plan goes with the group. -/
def runGroupDissolve (s : State) (g : Nat) : Ans :=
  match s.formed? g with
  | none => .fail s .conflict
  | some x =>
    if (s.inst g).busy ∨ x.current.isSome then .fail s .conflict
    else
      let s1 := s.dropStaged g .stale 0
      .ok (({ s1 with groups := s1.groups.del g }).reassign none)

/-! ### Loading (R235 to R243) -/

/-- MODEL_LOAD (R235). -/
def runModelLoad (s : State) (h : Hdr) (g : Nat) (loc : StorageLoc) (reads : Reads) : Ans :=
  match s.formed? g, s.session? h.sess with
  | some _, some x =>
    if (s.inst g).next.isSome then .fail s .busy
    else match s.fetchManifest loc reads with
      | none => .fail s .shardMissing
      | some bs =>
        match s.checkManifest x g 0 bs with
        | some st => .fail (s.countVerify st) st
        | none =>
          { s := s.updInst g (fun i => { i with
              next := some { id := 0, phase := .loading, load := newLoad bs x h.seq, damaged := false }
              shardAttempts := 0 })
            st := .accepted }
  | _, _ => .fail s .conflict

/-- MODEL_ABORT (R229, R238). -/
def runModelAbort (s : State) (g : Nat) : Ans :=
  match s.formed? g, (s.inst g).next with
  | some _, some x =>
    if x.phase = .loading then .ok (s.failLoad g none .stale none)
    else .ok (s.updInst g (fun i => { i with next := none }))
  | _, _ => .fail s .conflict

/-- One generation as fields: its number, state and mark. -/
def genFields : Option Gen → List Nat
  | none => [0, 0, 0]
  | some x => [x.id, (match x.phase with
      | .loading => 1
      | .loaded => 2
      | .active => 3), flag x.damaged]

/-- INSTANCE_QUERY. -/
def runInstanceQuery (s : State) (g : Nat) : Ans :=
  match s.formed? g with
  | none => .fail s .conflict
  | some x =>
    let i := s.inst g
    let prog := match i.next with
      | some n => [(n.load.shards.filter (fun p => p.2.verified)).length, n.load.manifest.shards.length]
      | none => [0, 0]
    .ok s (genFields i.active ++ genFields i.next ++ prog ++ [i.shardAttempts, x.deadlineEnds, x.lateTokens])

/-- INSTANCE_UNLOAD (R231). -/
def runInstanceUnload (s : State) (g : Nat) (force : Bool) : Ans :=
  match s.formed? g, (s.inst g).active with
  | some _, some _ =>
    if s.reqs.any (fun r => r.group == g) && !force then .fail s .conflict else .ok (s.unload g)
  | _, _ => .fail s .conflict

/-- LOAD_REPORT (R239): the newest generation that has completed its load (log 38). -/
def runLoadReport (s : State) (g tensor : Nat) : Ans :=
  match s.formed? g with
  | none => .fail s .conflict
  | some _ =>
    let i := s.inst g
    let gen := match i.next with
      | some n => if n.phase = GenPhase.loaded then some n else i.active
      | none => i.active
    match gen.bind (fun x => if tensor < x.load.manifest.tensors.length then some x else none) with
    | none => .fail s .conflict
    | some x =>
      let r := x.load.report.getD tensor (0, 0)
      .ok s [r.1.toNat, r.2]

/-- The further checks of R240. -/
def adapterFits (m base : Manifest) : Bool :=
  m.baseDigest == base.digest && decide (m.adapterRank ≤ base.adapterRank) && m.tensors.all (fun t => t.role == 4)
  && decide (0 < base.adapterSlots)

/-- ADAPTER_LOAD (R240 to R242, R227). -/
def runAdapterLoad (s : State) (h : Hdr) (g ident tenant : Nat) (loc : StorageLoc) (reads : Reads) : Ans :=
  match s.formed? g, s.session? h.sess, (s.inst g).active with
  | some _, some x, some base =>
    let i := s.inst g
    let old := i.adapters.get? ident
    if ident = 0 ∨ base.load.manifest.adapterSlots = 0 then .fail s .conflict
    else if (match old with
        | some a => decide (a.key ≠ x.key) || decide (a.tenant ≠ tenant)
        | none => false) then .fail s .notAuthorised
    else if (match old with
        | some a => a.unloaded
        | none => decide (64 ≤ i.adapters.length)) then .fail s (if old.isSome then .conflict else .noResource)
    else if (match old with
        | some a => decide (2 ≤ a.gens.length) || a.gens.any (fun y => !y.verified)
        | none => false) then .fail s .busy
    else match s.fetchManifest loc reads with
      | none => .fail s .shardMissing
      | some bs =>
        match s.checkManifest x g 1 bs with
        | some st => .fail (s.countVerify st) st
        | none =>
          if !adapterFits (parseManifest bs) base.load.manifest then .fail s .conflict
          else
            let cur := (old.map (·.current)).getD 0
            let gen : AdGen := { num := cur + 1, refs := 0, verified := false, load := newLoad bs x h.seq }
            let a : Adapter :=
              { tenant := tenant, key := x.key, current := cur, gens := ((old.map (·.gens)).getD []) ++ [gen], unloaded := false }
            { s := s.updInst g (fun i => { i with adapters := i.adapters.put ident a }), st := .accepted }
  | _, _, _ => .fail s .conflict

/-- An adapter that a session may name (R227). -/
def State.adapter? (s : State) (h : Hdr) (g ident : Nat) : Option Adapter :=
  match (s.inst g).adapters.get? ident, s.session? h.sess with
  | some a, some x => if a.key = x.key then some a else none
  | _, _ => none

/-- Naming an object of another key is refused with ST_NOT_AUTHORISED (R227). -/
def State.adapterStatus (s : State) (g ident : Nat) : Status :=
  if ((s.inst g).adapters.get? ident).isSome then .notAuthorised else .conflict

/-- ADAPTER_UNLOAD (R243): a load still in progress is aborted. -/
def runAdapterUnload (s : State) (h : Hdr) (g ident : Nat) : Ans :=
  match s.formed? g, s.adapter? h g ident with
  | some _, some a =>
    if a.unloaded then .fail s .conflict
    else
      let s1 := s.failLoad g (some ident) .stale none
      .ok ((s1.updInst g (fun i => { i with adapters := i.adapters.map (fun p =>
        if p.1 = ident then (p.1, { p.2 with unloaded := true }) else p) })).sweepAdapters g)
  | none, _ => .fail s .conflict
  | _, none => .fail s (s.adapterStatus g ident)

/-- ADAPTER_QUERY. -/
def runAdapterQuery (s : State) (h : Hdr) (g ident : Nat) : Ans :=
  match s.formed? g, s.adapter? h g ident with
  | some _, some a => .ok s (a.current :: a.gens.flatMap (fun x => [x.num, x.refs, flag x.verified]))
  | none, _ => .fail s .conflict
  | _, none => .fail s (s.adapterStatus g ident)

/-! ### Contexts (R199 to R203, R218, R227, R244 to R248) -/

/-- A context with no request and no transfer. -/
def Ctx.atRest (c : Ctx) : Bool := decide (c.state = .idle) || decide (c.state = .stale)

/-- Fields of CTX_CREATE and CTX_SET in range (Tables 8-3 and 9-13). -/
def ctxFieldsOk (tenant tag policy shift : Nat) (b : Backing) : Bool :=
  decide (tenant < 2 ^ 32) && decide (tag < 2 ^ 64) && decide (policy ≤ 1) && decide (1 ≤ shift) && decide (shift ≤ 8)
  && decide (b.base < 2 ^ 64) && decide (b.len < 2 ^ 32) && decide (b.target < 16)

/-- The backing region is zero under the discard policy (Table 8-3). -/
def backingOf (policy : Nat) (b : Backing) : Backing := if policy = 1 then ⟨0, 0, 0, 0⟩ else b

/-- Lowest free context index (log 39). -/
def State.freeIndex (s : State) : Option Nat := (List.range 4096).find? (fun i => (s.ctx? i).isNone)

/-- Where the page table of a new context stands: a granule of device memory, otherwise open (R202; log 137). -/
def State.newTable (s : State) : Nat × State := (Config.tableAddr s.fresh % deviceGranules, { s with fresh := s.fresh + 1 })

/-- A new context. -/
def newCtx (group die key tenant tag budget policy shift : Nat) (b : Backing) (free : Tbl (List Nat)) (ptBase : Nat) : Ctx :=
  { group := group, homeDie := die, key := key, tenant := tenant, tag := tag, budget := budget, policy := policy
    shift := shift, backing := backingOf policy b, length := 0, tail := [], chain := [], blocks := 0, tables := []
    free := free, state := .idle, stateGen := 0, adapter := 0, adapterGen := 0, turns := 0, generated := 0
    evicted := false, origin := none, originAt := 0, ptBase := ptBase, dropPages := [], damaged := false, orphan := false
    masses := [], crossFill := [], truncate := none, grow := [], growBy := (0, 0, 0) }

/-- The key that loaded a group's active generation: instances are shared by its sessions (R227). -/
def State.instKey (s : State) (g : Nat) : Option Nat := (s.inst g).active.map (fun x => x.load.key)

/-- CTX_CREATE (R199, R200). -/
def runCtxCreate (s : State) (h : Hdr) (f : CtxFields) : Ans :=
  match s.formed? f.group, s.instKey f.group, s.session? h.sess with
  | some _, some key, some x =>
    if !ctxFieldsOk f.tenant f.tag f.policy f.shift f.backing ∨ f.budget < 6 ∨ 512 < f.budget then .fail s .conflict
    else if key ≠ x.key then .fail s .notAuthorised
    else match s.freeIndex, s.homeDie f.group with
      | some i, some d =>
        let need := f.budget * sumNats ((s.attnOf f.group).map AttnEnt.pageGranules)
        if s.dieFree f.group d < need then .fail s .noResource
        else
          let r := s.reserveFrames f.group d f.budget
          let t := r.2.newTable
          let c := newCtx f.group d x.key f.tenant f.tag f.budget f.policy f.shift f.backing r.1 t.1
          .ok { t.2 with contexts := t.2.contexts.put i c } [i, d]
      | _, _ => .fail s .noResource
  | _, _, _ => .fail s .conflict

/-- CTX_DELETE (R245). -/
def runCtxDelete (s : State) (h : Hdr) (c tenant : Nat) : Ans :=
  match s.named? h c tenant with
  | none => .fail s .notAuthorised
  | some x => if x.atRest then .ok (s.freeCtx c) else .fail s .busy

/-- CTX_SET. -/
def runCtxSet (s : State) (h : Hdr) (c tenant policy shift : Nat) (b : Backing) : Ans :=
  match s.named? h c tenant with
  | none => .fail s .notAuthorised
  | some x =>
    if !x.atRest then .fail s .busy
    else if !ctxFieldsOk tenant 0 policy shift b then .fail s .conflict
    else .ok (s.updCtx c (fun y => { y with policy := policy, shift := shift, backing := backingOf policy b }))

/-- CTX_TRUNCATE (R221, Table 9-13). -/
def runCtxTruncate (s : State) (h : Hdr) (c tenant pos : Nat) : Ans :=
  match s.named? h c tenant with
  | none => .fail s .notAuthorised
  | some x =>
    if !x.atRest then .fail s .busy
    else if x.length < pos then .fail s .conflict
    else
      let r := s.tailBefore x pos
      .ok (r.2.updCtx c (fun y => y.truncateAt pos r.1))

/-- Bytes of BUDGET pages of the largest page size for each attention layer, with the page table and
the record (R245). -/
def State.suspendBytes (s : State) (c : Ctx) : Nat :=
  let as := s.attnOf c.group
  let gmax := (as.map AttnEnt.pageGranules).foldl max 0
  contextBytes + 16 * c.budget * as.length + 32 * gmax * c.budget * as.length

/-- CTX_SUSPEND (R218, R245): the write begins, and the reply follows it. Table 9-8 takes no STALE context to SUSPENDING:
it returns ST_CONFLICT (log 139). -/
def runCtxSuspend (s : State) (h : Hdr) (c tenant : Nat) : Ans :=
  match s.named? h c tenant with
  | none => .fail s .notAuthorised
  | some x =>
    if !x.atRest then .fail s .busy
    else if x.state = .stale ∨ x.policy = 1 ∨ 4096 * x.backing.len < s.suspendBytes x then .fail s .conflict
    else
      let bytes := s.contextImage x
      let s1 := s.updCtx c (fun y => { y with state := .suspending, origin := some (h.sess, h.seq), originAt := s.time.ns })
      { s := s1.send (.nvmeWrite ⟨x.backing.target, x.backing.ns, x.backing.base, bytes.length⟩ bytes 4), st := .ok
        waits := true }

/-- CTX_RESTORE (R218, R248): an index is taken and the read begins; the reply follows it. The record
that is read gives the reservation's size (log 35). -/
def runCtxRestore (s : State) (h : Hdr) (g tenant tag : Nat) (b : Backing) : Ans :=
  match s.formed? g, s.instKey g, s.session? h.sess with
  | some _, some key, some x =>
    if !ctxFieldsOk tenant tag 0 1 b then .fail s .conflict
    else if key ≠ x.key then .fail s .notAuthorised
    else match s.freeIndex, s.homeDie g with
      | some i, some d =>
        let t := s.newTable
        let c := { newCtx g d x.key tenant tag 0 0 1 b [] t.1 with
          state := .restoring, origin := some (h.sess, h.seq), originAt := s.time.ns }
        { s := ({ t.2 with contexts := t.2.contexts.put i c }).send (.nvmeRead ⟨b.target, b.ns, b.base, 4096 * b.len⟩ 4)
          st := .ok, waits := true }
      | _, _ => .fail s .noResource
  | _, _, _ => .fail s .conflict

/-- Number of a context state: the order of Table 9-8. -/
def CtxPhase.code : CtxPhase → Nat
  | .idle => 0
  | .busy => 1
  | .stale => 2
  | .suspending => 3
  | .restoring => 4

/-- CTX_QUERY: the record and its state. -/
def runCtxQuery (s : State) (h : Hdr) (c tenant : Nat) : Ans :=
  match s.named? h c tenant with
  | none => .fail s .notAuthorised
  | some x => .ok s ([x.group, x.key, x.tenant, x.tag, x.stateGen, x.adapter, x.adapterGen, x.state.code, x.turns,
      x.generated, x.homeDie, x.budget, x.length, x.policy, x.shift, x.backing.target, x.backing.ns, x.backing.base,
      x.backing.len] ++ x.tables.map (fun t => t.2.length))

/-! ### Requests (R247 to R254) -/

/-- FP32 within bounds, both included. -/
def fpIn (w : Word) (lo hi : Frac) : Bool := !fpNonFinite w && lo.le (fpValue w) && (fpValue w).le hi

/-- The ranges of Table 9-9, tokens complete. -/
def ReqFields.ok (f : ReqFields) (vocabulary : Nat) : Bool :=
  let t := f.temperature
  decide (f.reserved = 0) && decide (1 ≤ f.maxNew) && decide (f.maxNew ≤ 65535) && decide (f.stops.length ≤ 8)
  && ((!fpNonFinite t && (fpValue t).isZero) || fpIn t ⟨1, 100⟩ ⟨100, 1⟩)
  && decide (f.topK ≤ 1024)
  && fpIn f.topP ⟨0, 1⟩ ⟨1, 1⟩ && !(fpValue f.topP).isZero
  && fpIn f.repPenalty ⟨1, 2⟩ ⟨4, 1⟩ && fpIn f.presence ⟨-4, 1⟩ ⟨4, 1⟩ && fpIn f.frequency ⟨-4, 1⟩ ⟨4, 1⟩
  && decide (1 ≤ f.tokenCount) && decide (f.tokenCount ≤ 2 ^ 20) && decide (f.tokens.length = f.tokenCount)
  && f.tokens.all (fun x => decide (x < vocabulary)) && f.stops.all (fun x => decide (x < vocabulary))
  && decide (f.deadline < 2 ^ 64) && decide (f.seed < 2 ^ 64) && decide (f.id < 2 ^ 32)

/-- An adapter of another key or tenant is named (R227). -/
def State.adapterForeign (s : State) (g key tenant ident : Nat) : Bool :=
  match (s.inst g).adapters.get? ident with
  | some a => decide (ident ≠ 0) && (decide (a.key ≠ key) || (decide (a.tenant ≠ 0) && decide (a.tenant ≠ tenant)))
  | none => false

/-- The adapter generation that a request binds to: none without an adapter, and none either where the
identifier is not loaded or is not the tenant's (R227, R241, R243). -/
def State.adapterFor (s : State) (g key tenant ident : Nat) : Option Nat :=
  if ident = 0 then some 0
  else match (s.inst g).adapters.get? ident with
    | none => none
    | some a =>
      if !a.unloaded && decide (0 < a.current) && decide (a.key = key) && (decide (a.tenant = 0) || decide (a.tenant = tenant))
      then some a.current else none


/-- The checks of R250 in order on a request whose tokens are complete. One that names an adapter that is not loaded binds
to no generation that R247 could compare (R243; log 140). -/
def State.reqCheck (s : State) (h : Hdr) (f : ReqFields) : Option Status :=
  match s.named? h f.ctx f.tenant with
  | none => some .notAuthorised
  | some c =>
    if s.adapterForeign c.group c.key c.tenant f.adapter then some .notAuthorised
    else if !c.atRest then some .busy
    else
      let act := (s.inst c.group).active
      let gen := (act.map (·.id)).getD 0
      let ad := s.adapterFor c.group c.key c.tenant f.adapter
      if !f.fullHistory ∧ c.length ≠ 0 ∧ ad.isSome ∧ ¬ (c.stateGen = gen ∧ c.adapter = f.adapter ∧ c.adapterGen = ad.getD 0) then
        some .stale
      else match act with
        | none => some .conflict
        | some a =>
          if !f.ok a.load.manifest.vocabulary ∨ f.more ∨ ad.isNone ∨ (s.req? h.sess f.id).isSome then some .conflict
          else if f.deadline ≠ 0 ∧ f.deadline ≤ s.tickEnd c.group then some .deadlineMissed
          else none

/-- REQ_SUBMIT with its tokens complete (R221, R249, R250, R259). -/
def runReqSubmit (s : State) (h : Hdr) (f : ReqFields) : Ans :=
  match s.reqCheck h f, s.ctx? f.ctx with
  | some st, _ => .fail s st
  | none, none => .fail s .notAuthorised
  | none, some c =>
    let gen := ((s.inst c.group).active.map (·.id)).getD 0
    let adGen := (s.adapterFor c.group c.key c.tenant f.adapter).getD 0
    let m := c.matchHistory f.tokens gen f.adapter adGen
    let start := if f.fullHistory then m.1 else c.length
    let r : Req :=
      { sess := h.sess, f := f, group := c.group, phase := .queued, pos := start
        rowsLeft := if f.fullHistory then f.tokens.length - start else f.tokens.length, slot := none, counts := []
        misses := 0, sent := 0, passed := 0, order := s.accepted, gen := gen, adapterGen := adGen, late := false
        degraded := false, replayed := false, token := none, last := none, ending := none }
    let r1 := if f.penaliseInput then f.tokens.foldl Req.count r else r
    let s1 := { s with reqs := s.reqs ++ [r1], accepted := s.accepted + 1 }
    let s2 := s1.updCtx f.ctx (fun c => { c with
      state := .busy, truncate := if f.fullHistory ∧ start < c.length then some start else none })
    let s3 := if f.adapter = 0 then s2 else s2.bindAdapter c.group f.adapter adGen
    let s4 := if f.fullHistory then s3.bump (Blk.walk.at Reg.PREFIX_REUSED) m.2 else s3
    let s5 := if f.fullHistory ∧ start < c.length then s4.bump (Blk.walk.at Reg.PREFIX_TRUNCATIONS) 1 else s4
    { s := s5, st := .accepted }

/-- The held REQ_SUBMIT of a session that awaits tokens for a request. -/
def Held.awaits (x : Held) (sess req : Nat) : Bool :=
  x.awaiting && decide (x.sess = sess) && (match x.cmd with
    | .reqSubmit _ f => decide (f.id = req)
    | _ => false)

/-- Add tokens to a held REQ_SUBMIT. -/
def Held.addTokens (x : Held) (tokens : List Nat) (more : Bool) (now : Nat) : Held :=
  match x.cmd with
  | .reqSubmit h f =>
    { x with cmd := .reqSubmit h { f with tokens := f.tokens ++ tokens, more := more }
             awaiting := more, rx := now, lastPart := now }
  | _ => x

/-- REQ_TOKENS (R249): the tokens join the request; the last part completes it, and its time of receipt
is that of this part (R279). -/
def runReqTokens (s : State) (h : Hdr) (req : Nat) (tokens : List Nat) (more : Bool) : Ans :=
  if 2240 < tokens.length then .fail s .conflict
  else if s.held.any (fun x => x.awaits h.sess req) then
    .ok { s with held := s.held.map (fun x => if x.awaits h.sess req then x.addTokens tokens more s.time.ns else x) }
  else .fail s .conflict

/-- Discard partial requests by a test; each REQ_SUBMIT is answered ST_STALE (R249). -/
def State.dropPartial (s : State) (p : Held → Bool) : State :=
  (s.held.filter p).foldl (fun (s : State) x => s.reply x.sess x.seq .stale 0 0 [])
    { s with held := s.held.filter (fun x => !(p x)) }

/-- REQ_CANCEL (R254), at a boundary. One that still awaits its tokens is discarded (log 40). -/
def runReqCancel (s : State) (h : Hdr) (req : Nat) : Ans :=
  if s.held.any (fun x => x.awaits h.sess req) then .ok (s.dropPartial (fun x => x.awaits h.sess req))
  else match s.req? h.sess req with
    | some r => .ok (s.endReq r 3 (endEntry r.f.id 3))
    | none =>
      if s.ended.any (fun e => e.sess == h.sess && e.req == req) then .fail s .stale else .fail s .conflict

/-- Number of a request's state: QUEUED, PREFILLING, SEATED, DONE. -/
def ReqPhase.code : ReqPhase → Nat
  | .queued => 0
  | .prefilling => 1
  | .seated => 2

/-- REQ_QUERY. -/
def runReqQuery (s : State) (h : Hdr) (req : Nat) : Ans :=
  match s.req? h.sess req with
  | some r => .ok s [r.phase.code, r.rowsLeft, r.sent, r.misses]
  | none =>
    if s.ended.any (fun e => e.sess == h.sess && e.req == req) then .ok s [3, 0, 0, 0] else .fail s .conflict

/-! ### Plans (R148, R161, R166) -/

/-- Largest plan, and the plan store in all (R147, R167). -/
def planMax : Nat := 2 ^ 28
def planStore : Nat := 6144 * 2 ^ 20

/-- PLAN_BEGIN. -/
def runPlanBegin (s : State) (h : Hdr) (g len : Nat) (digest : List Byte) : Ans :=
  match s.formed? g with
  | none => .fail s .conflict
  | some x =>
    if (match x.staged with
        | some (st : Staged) => decide (st.phase ≠ StagePhase.uploading) || decide (st.upload.sess ≠ h.sess)
        | none => false) then .fail s .busy
    else
      let own := (x.staged.map (fun (st : Staged) => st.upload.len)).getD 0
      if planMax < len ∨ planStore < s.planBytes - own + len then .fail s .noResource
      else .ok (s.updGrp g (fun y => { y with staged := some ⟨⟨h.sess, len, digest, []⟩, .uploading, none, none, 0, false⟩ }))

/-- The open upload of a group. -/
def Group.openUpload (g : Group) : Option Staged :=
  match g.staged with
  | some st => if st.phase = .uploading then some st else none
  | none => none

/-- PLAN_DATA. -/
def runPlanData (s : State) (h : Hdr) (g off : Nat) (data : List Byte) : Ans :=
  match (s.formed? g).bind Group.openUpload with
  | none => .fail s .conflict
  | some st =>
    if st.upload.sess ≠ h.sess then .fail s .notAuthorised
    else if 8192 < data.length ∨ st.upload.len < off + data.length then .fail s .conflict
    else .ok (s.updGrp g (fun y => { y with
      staged := some { st with upload := { st.upload with parts := (off, data) :: st.upload.parts } } }))

/-- PLAN_COMMIT (R148): verification begins, and the reply follows it or the placement. -/
def runPlanCommit (s : State) (h : Hdr) (g : Nat) : Ans :=
  match (s.formed? g).bind Group.openUpload with
  | none => .fail s .conflict
  | some st =>
    if st.upload.sess ≠ h.sess then .fail s .notAuthorised
    else if st.upload.bytes.isNone then .fail s .conflict
    else
      { s := s.updGrp g (fun y => { y with
          staged := some { st with phase := .verifying, origin := some (h.sess, h.seq) } })
        st := .ok, waits := true }

/-- PLAN_ABORT. -/
def runPlanAbort (s : State) (g : Nat) : Ans :=
  match (s.formed? g).bind (·.staged) with
  | none => .fail s .conflict
  | some _ => .ok (s.dropStaged g .stale 0)

/-- PLAN_QUERY. -/
def runPlanQuery (s : State) (g : Nat) : Ans :=
  match s.formed? g with
  | none => .fail s .conflict
  | some x =>
    let v := x.variant
    .ok s ([(x.current.map (fun p => p.plan.planId)).getD 0, x.kind, (v.map (·.period)).getD 0,
        (if x.current.isSome then x.mhz else 0), x.tick, (s.reg (grpReg g Reg.RESERVE_USED)).toNat]
      ++ ((x.current.map (fun p => p.digest.map (·.toNat))).getD []))

/-- VARIANT_FORCE: code 0xFF releases. -/
def runVariantForce (s : State) (g code : Nat) : Ans :=
  match s.formed? g with
  | none => .fail s .conflict
  | some x =>
    if code = 0xFF then .ok (s.updGrp g (fun y => { y with forced := none }))
    else if 3 < code then .fail s .conflict
    else if ((x.current.bind (fun p => p.plan.variant code)).isNone) then .fail s .noResource
    else .ok (s.updGrp g (fun y => { y with forced := some code }))

/-- PLAN_RETIRE. -/
def runPlanRetire (s : State) (g : Nat) : Ans :=
  match s.formed? g with
  | none => .fail s .conflict
  | some _ =>
    if s.reqs.any (fun r => r.group == g && r.slot.isSome) then .fail s .conflict else .ok (s.retirePlan g)

/-- BALANCE_SET (Table 9-11). -/
def runBalanceSet (s : State) (g : Nat) (b : Balance) : Ans :=
  match s.formed? g with
  | none => .fail s .conflict
  | some _ =>
    if b.cap ≤ 65535 ∧ 1 ≤ b.chunkMin ∧ b.chunkMin ≤ 4096 ∧ 1 ≤ b.chunkMax ∧ b.chunkMax ≤ 16384 ∧ b.order ≤ 1
        ∧ 1 ≤ b.passLimit ∧ b.passLimit ≤ 255 then
      .ok (s.updGrp g (fun y => { y with balance := b }))
    else .fail s .conflict

/-- BALANCE_QUERY. -/
def runBalanceQuery (s : State) (g : Nat) : Ans :=
  match s.formed? g with
  | none => .fail s .conflict
  | some x =>
    let p := x.current.map (·.plan)
    .ok s [x.balance.cap, x.balance.chunkMin, x.balance.chunkMax, x.balance.order, x.balance.passLimit,
      (p.map (·.decodeRows)).getD 0, (p.map (·.prefillRows)).getD 0, s.pairBudget g, x.rowsLast, x.pairsLast, x.passesLast]

end Sys2Proof.Machine
end

