-- ==== Sys2Proof/Machine/Shell.lean ====
section
/-!
DEFINITION. The way of a host command (R273 to R281): its window, what is decided on receipt, waiting for
a boundary, application at one, and its reply.
-/

namespace Sys2Proof.Machine

open Sys2Proof

/-- What each host command does when it is processed. -/
def runHost (s : State) : Instr → Ans
  | .sessionConfirm h => runSessionConfirm s h
  | .keepalive _ => runKeepalive s
  | .sessionClose h => runSessionClose s h
  | .versionQuery _ => runVersionQuery s
  | .sessionQuery h => runSessionQuery s h
  | .regRead _ a n => runRegRead s a n
  | .regWrite _ a v m => runRegWrite s a v m
  | .rcRegisterRead _ a => runRegRead s a 1
  | .latchingLowHalfRead _ a => runRegRead s a 1
  | .cfgRead _ item => runCfgRead s item
  | .cfgWrite h v => runCfgWrite s h v
  | .deviceQuery _ => runDeviceQuery s
  | .deviceReset _ force => runDeviceReset s force
  | .fwBegin h len digest => runFwBegin s h len digest
  | .fwData h off data => runFwData s h off data
  | .fwCommit h => runFwCommit s h
  | .attestQuote _ nonce scope => runAttestQuote s nonce scope
  | .keyEnrol h r => runKeyEnrol s h r
  | .keyRevoke _ key => runKeyRevoke s key
  | .groupForm _ g mask => runGroupForm s g mask
  | .groupDissolve _ g => runGroupDissolve s g
  | .modelLoad h g loc reads => runModelLoad s h g loc reads
  | .modelAbort _ g => runModelAbort s g
  | .instanceQuery _ g => runInstanceQuery s g
  | .instanceUnload _ g force => runInstanceUnload s g force
  | .loadReport _ g t => runLoadReport s g t
  | .adapterLoad h g ident tenant loc reads => runAdapterLoad s h g ident tenant loc reads
  | .adapterUnload h g ident => runAdapterUnload s h g ident
  | .adapterQuery h g ident => runAdapterQuery s h g ident
  | .ctxCreate h f => runCtxCreate s h f
  | .ctxDelete h c t => runCtxDelete s h c t
  | .ctxSet h c t p sh b => runCtxSet s h c t p sh b
  | .ctxTruncate h c t p => runCtxTruncate s h c t p
  | .ctxSuspend h c t => runCtxSuspend s h c t
  | .ctxRestore h g t tag b => runCtxRestore s h g t tag b
  | .ctxQuery h c t => runCtxQuery s h c t
  | .reqSubmit h f => runReqSubmit s h f
  | .reqTokens h r ts more => runReqTokens s h r ts more
  | .reqCancel h r => runReqCancel s h r
  | .reqQuery h r => runReqQuery s h r
  | .planBegin h g len digest => runPlanBegin s h g len digest
  | .planData h g off data => runPlanData s h g off data
  | .planCommit h g => runPlanCommit s h g
  | .planAbort _ g => runPlanAbort s g
  | .planQuery _ g => runPlanQuery s g
  | .variantForce _ g code => runVariantForce s g code
  | .planRetire _ g => runPlanRetire s g
  | .balanceSet _ g b => runBalanceSet s g b
  | .balanceQuery _ g => runBalanceQuery s g
  | .coreFence _ c => runCoreFence s c
  | .coreUnfence _ c => runCoreUnfence s c
  | .probeLoad h loc => runProbeLoad s h loc
  | .probeResults _ pack => runProbeResults s pack
  | .calRequest _ x => runCalRequest s x
  | .calCancel _ x => runCalCancel s x
  | .calDiscard _ x slots => runCalDiscard s x slots
  | .redundancySet _ g on => runRedundancySet s g on
  | .telemetrySet h p m => runTelemetrySet s h p m
  | .telemetryQuery _ m => runTelemetryQuery s m
  | .eventRead _ first n => runEventRead s first n
  | .eventNotify h sev => runEventNotify s h sev
  | .evtAck _ m => runEvtAck s m
  | .timeQuery _ => runTimeQuery s
  | .epochSet _ e => runEpochSet s e
  | .engCtrlWrite _ c e v m => runRegWrite s ((Blk.eng c e).at Reg.ENG_CTRL) v m
  | .tileSelWrite _ c v m => runRegWrite s ((Blk.cas c).at Reg.TILE_SEL) v m
  | .calCtrlWrite _ v m => runRegWrite s (Blk.cal.at Reg.CAL_CTRL) v m
  | .calBoundsWrite _ v m => runRegWrite s (Blk.cal.at Reg.CAL_BOUNDS) v m
  | .portReserveWrite _ v m => runRegWrite s (Blk.usher.at Reg.PORT_RESERVE) v m
  | .evtCauseWrite _ v m => runRegWrite s (Blk.port.at Reg.EVT_CAUSE) v m
  | .evtMaskWrite _ v m => runRegWrite s (Blk.port.at Reg.EVT_MASK) v m
  | .pkgThrottleWrite _ v m => runRegWrite s (Blk.clocks.at Reg.PKG_THROTTLE) v m
  | .coreIdleWrite _ v m => runRegWrite s (Blk.clocks.at Reg.CORE_IDLE) v m
  | .ringmasterMhzWrite _ v m => runRegWrite s (Blk.clocks.at Reg.RINGMASTER_MHZ) v m
  | .pkgGateWrite _ v m => runRegWrite s (Blk.clocks.at Reg.PKG_GATE) v m
  | .dieGateWrite _ d v m => runRegWrite s ((Blk.dieClk d).at Reg.DIE_GATE) v m
  | .gateCoreWrite _ d v m => runRegWrite s ((Blk.dieClk d).at Reg.GATE_CORE) v m
  | .domCtrlWrite _ d j v m => runRegWrite s ((Blk.dieClk d).at (16 * j.val + Reg.DOM_CTRL)) v m
  | .domSscWrite _ d j v m => runRegWrite s ((Blk.dieClk d).at (16 * j.val + Reg.DOM_SSC)) v m
  | .scrubCtrlWrite _ v m => runRegWrite s (Blk.err.at Reg.SCRUB_CTRL) v m
  | .threshDieWrite _ v m => runRegWrite s (Blk.thermal.at Reg.THRESH_DIE) v m
  | .threshStackWrite _ v m => runRegWrite s (Blk.thermal.at Reg.THRESH_STACK) v m
  | .trigCtrlWrite _ v m => runRegWrite s (Blk.thermal.at Reg.TRIG_CTRL) v m
  | .trigTimeHiWrite _ v m => runRegWrite s (Blk.thermal.at Reg.TRIG_TIME_HI) v m
  | .monCalWrite _ v m => runRegWrite s (Blk.thermal.at Reg.MON_CAL) v m
  | .seqWrite _ d conv e v m => runRegWrite s ((Blk.mon d).at (Reg.SEQ + 0x80 * conv.val + 4 * e.val)) v m
  | .pipeCtrlWrite _ d v m => runRegWrite s ((Blk.mon d).at Reg.PIPE_CTRL) v m
  | _ => .fail s .conflict

/-- Answer a command: its reply with the tick of the boundary that applied it, 0 at once; a command that
waits for work it started is answered by that work. -/
def Ans.send (a : Ans) (h : Hdr) (tick : Nat) : State :=
  if a.waits && a.done then a.s else a.after (a.s.reply h.sess h.seq a.st a.detail tick a.body)

/-- A REQ_SUBMIT whose tokens follow, with its session's context (R249). -/
def submitOf : Instr → Option (Hdr × ReqFields)
  | .reqSubmit h f => some (h, f)
  | _ => none

/-- Most tokens of one REQ_SUBMIT (R249). -/
def submitTokens : Nat := 2048

/-- A further REQ_SUBMIT that names a context for which a request awaits tokens (R249). -/
def State.ctxAwaited (s : State) (c : Nat) : Bool :=
  s.held.any (fun x => x.awaiting && (match submitOf x.cmd with
    | some (_, f) => f.ctx == c
    | none => false))

/-- A boundary command begins to wait. -/
def State.hold (s : State) (i : Instr) (h : Hdr) (awaiting : Bool) : State :=
  { s with held := s.held ++ [{ rx := s.time.ns, sess := h.sess, seq := h.seq, tag := h.tag, cmd := i
                                awaiting := awaiting, lastPart := s.time.ns, group := s.concerns i }] }

/-- A boundary command that needs no boundary waits for none. -/
def State.considerBoundary (s : State) (i : Instr) (h : Hdr) : State :=
  let refuse := fun (st : Status) => s.reply h.sess h.seq st 0 0 []
  match submitOf i with
  | some (_, f) =>
    if submitTokens < f.tokens.length then refuse .conflict
    else if s.ctxAwaited f.ctx && (s.named? h f.ctx f.tenant).isSome then refuse .busy
    else if f.more || s.mustWait i h.tag then s.hold i h f.more
    else (runHost s i).send h 0
  | none => if s.mustWait i h.tag then s.hold i h false else (runHost s i).send h 0

/-- A command is considered, in sequence order. -/
def State.consider (s : State) (x : Session) (i : Instr) : State :=
  match opInfo i with
  | none => s
  | some o =>
    match s.preCheck x i o with
    | some st => s.reply o.h.sess o.h.seq st 0 0 []
    | none => if o.boundary then s.considerBoundary i o.h else (runHost s i).send o.h 0

/-- The next command of a session is considered, E moving past it. -/
def State.takeCommand (s : State) (sess : Nat) (i : Instr) : State :=
  let s1 := s.updSession sess (fun x => { x with expect := x.expect + 1 })
  match s1.session? sess with
  | some x => s1.consider x i
  | none => s1

/-- Sequence number of a host command. -/
def seqOf (i : Instr) : Nat := ((opInfo i).map (fun o => o.h.seq)).getD 0

/-- Commands that arrived early follow as their turn comes. -/
def State.drainEarly : Nat → Nat → State → State
  | 0, _, s => s
  | n + 1, sess, s =>
    match s.session? sess with
    | none => s
    | some x => match x.early.find? (fun i => seqOf i == x.expect) with
      | none => s
      | some i =>
        let s1 := s.updSession sess (fun y => { y with early := y.early.filter (fun j => seqOf j != x.expect) })
        State.drainEarly n sess (s1.takeCommand sess i)

/-- A stored reply is sent again, where the command has come from this time (R268, R273). -/
def State.resendReply (s : State) (x : Session) (seq src opcode : Nat) : State :=
  match x.replies.find? (fun p => p.1 == seq) with
  | some (_, .reply a b st d t body _) => s.sendTo (.reply a b st d t body true) (some src) opcode
  | _ => s

/-- A message of a session arrives, authenticated (R268, R273, R274): the session's latest message is now, from its source,
and its acknowledgement releases device messages. A command in its window notes where its reply goes. -/
def State.received (s : State) (h : Hdr) : State :=
  (s.updSession h.sess (fun y => { y with
    lastRx := s.time.ns, peer := h.src
    calls := if y.expect ≤ h.seq ∧ h.seq ≤ y.expect + 255 then y.calls.put h.seq (h.src, h.opcode) else y.calls })).acknowledge
    h.sess h.ack

/-- The state in which the next command of a session is considered: received, and E moved past it. -/
def State.heard (s : State) (h : Hdr) : State :=
  (s.received h).updSession h.sess (fun x => { x with expect := x.expect + 1 })

/-- A host command arrives, authenticated (R270, R273): it acknowledges device messages, and its sequence
number decides whether it is considered (with any early ones whose turn has come), held, answered again or
dropped. With the link down, or held back by the MACsec policy, nothing reaches the port (R2, R265). -/
def hostReceive (h : Hdr) (i : Instr) (s : State) : State :=
  if !s.portOpen then s
  else match s.session? h.sess with
  | none => s.dropBadTag
  | some x =>
    let s1 := s.received h
    if h.seq = x.expect then
      if x.early.isEmpty then s1.takeCommand h.sess i
      else State.drainEarly 256 h.sess (s1.takeCommand h.sess i)
    else if x.expect < h.seq ∧ h.seq ≤ x.expect + 255 then
      if x.early.any (fun j => seqOf j == h.seq) then s1
      else s1.updSession h.sess (fun y => { y with early := y.early ++ [i] })
    else if h.seq < x.expect ∧ x.expect ≤ h.seq + 256 then s1.resendReply x h.seq h.src h.opcode
    else s1.dropWindow

/-! ### Application at a boundary (R279, R280) -/

/-- A waiting command is due at a boundary of a group at a device time. -/
def Held.due (x : Held) (g tick b : Nat) : Bool :=
  !x.awaiting && (x.group == some g || x.group.isNone) && decide (x.rx + 200000 ≤ b) && decide (x.tag ≤ tick)

/-- The order of R280. -/
def heldOrder (a b : Held) : Bool := lexLt [a.rx, a.sess, a.seq] [b.rx, b.sess, b.seq]

/-- Group whose adapter a command replaces. -/
def State.replaces (s : State) : Instr → Option Nat
  | .adapterLoad _ g ident _ _ _ => if ((s.inst g).adapters.get? ident).isSome then some g else none
  | _ => none

/-- Apply one due command after those before it, unless its session has departed: what they have caused to fail is ST_STALE (R280), but a
second replacement of an adapter of an instance is ST_CONFLICT (R242). Answers the instances replaced. -/
def State.applyHeld (base : State) (tick : Nat) (acc : State × List Nat) (x : Held) : State × List Nat :=
  match opInfo x.cmd with
  | none => acc
  | some o =>
    let s := acc.1
    let rep := s.replaces x.cmd
    if (s.session? x.sess).isNone then acc
    else if (match rep with
        | some g => acc.2.contains g
        | none => false) then (s.reply x.sess x.seq .conflict 0 tick [], acc.2)
    else
      let a := runHost s x.cmd
      if a.done then (a.send o.h tick, acc.2 ++ rep.toList)
      else if (runHost base x.cmd).done then (s.reply x.sess x.seq .stale 0 tick [], acc.2)
      else (a.send o.h tick, acc.2)

/-- Commands that need a tick of a suspended group (R154). -/
def State.refuseHeld (s : State) (g : Nat) : State :=
  (s.held.filter (fun x => x.group == some g && !x.awaiting)).foldl
    (fun (s : State) x => s.reply x.sess x.seq .busy 0 0 [])
    { s with held := s.held.filter (fun x => !(x.group == some g && !x.awaiting)) }

/-- Commands of a boundary (R279, R280); those of a session that departs meanwhile are gone with it. -/
def State.applyCommands (s : State) (g tick b : Nat) : State :=
  let s0 := if (s.grp g).suspended then s.refuseHeld g else s
  let due := sortBy heldOrder (s0.held.filter (fun x => x.due g tick b))
  let base := { s0 with held := s0.held.filter (fun x => !(x.due g tick b)) }
  (due.foldl (State.applyHeld base tick) (base, [])).1

/-- Commands whose group has no boundaries any more are applied at once (R279). -/
def State.flushHeld (s : State) : State :=
  let free := fun (x : Held) => !x.awaiting && !(s.mustWait x.cmd x.tag) && (match x.group with
    | some g => !(s.grp g).ticking
    | none => true)
  let due := sortBy heldOrder (s.held.filter free)
  let base := { s with held := s.held.filter (fun x => !(free x)) }
  (due.foldl (State.applyHeld base 0) (base, [])).1

end Sys2Proof.Machine
end

