-- ==== Sys2Proof/Machine/TickClose.lean ====
section
/-!
DEFINITION. The close of a group's tick, the first step of the boundary window (Table 6-1): what is
latched, the clean and exhausted states (R111), overruns (R154), the load index (R126), and the contexts.
-/

namespace Sys2Proof.Machine

open Sys2Proof

/-- Core clocks of a group's tick at the clock it runs at (R135). -/
def Group.tickClocks (g : Group) : Nat :=
  match g.variant with
  | some v => v.period * g.mhz
  | none => 0

/-- Cores on which a group's variant is placed. -/
def Group.placed (g : Group) : List Nat := g.bind.map (·.2) ++ g.twins.map (·.2)

/-- The running tick is the last of its token step (R164). -/
def Group.lastPhase (g : Group) : Bool := g.phase + 1 == g.stride

/-! ### Registers of the completed tick (R111, R154, R167) -/

/-- A clean tick: no refusal, no overrun, and at most half of the reserve charged (R111). -/
def Group.cleanTick (g : Group) : Bool := !g.refused && !g.overrun && decide (2 * g.charged ≤ g.rres)

/-- Numbers, among those of ticks, that fall in the last n ticks. -/
def Group.lastOf (g : Group) (l : List Nat) (n : Nat) : Nat := (l.filter (fun t => decide (g.ticks < t + n))).length

/-- Clean ticks are counted on the wide variant, and on the variant an escalation chose (R111, R154). -/
def Group.countsClean (g : Group) : Bool :=
  g.callWide.isSome && !g.throttled && (decide (g.kind = 1) || (g.callWide == some 8 && decide (g.kind = 2)))

/-- What the close of a tick fixes of a group: clean ticks, the call for the wide variant, and the
overruns and exhausted ticks kept (R111, R154). -/
def Group.settle (x : Group) : Group :=
  let g := { x with
    exhausted := if x.refused then (x.ticks :: x.exhausted).filter (fun t => decide (x.ticks < t + 64)) else x.exhausted
    overruns := if x.overrun then (x.ticks :: x.overruns).filter (fun t => decide (x.ticks < t + 256)) else x.overruns }
  let n := if g.countsClean ∧ g.cleanTick then g.clean + 1 else 0
  let back := decide (64 ≤ n)
  let call := if back then none else g.callWide
  let call := if g.overrun ∧ 2 ≤ g.lastOf g.overruns 64 then some 8 else call
  let call := if g.refused ∧ call ≠ some 8 then some 1 else call
  { g with clean := if back then 0 else n, callWide := call, lastExhausted := g.refused, prevClean := g.cleanTick }

/-- Fewest clocks between completion and the maintenance window. -/
def Group.slack (g : Group) : Nat :=
  match g.variant with
  | some v => if g.overrun then 0 else g.tickClocks - v.maint - g.doneClk
  | none => 0

/-- The group registers take the completed tick's values. -/
def State.latchTick (s : State) (g : Nat) : State :=
  let x := s.grp g
  let s1 := (s.setReg (grpReg g Reg.RESERVE_USED) (word x.charged)).peak (grpReg g Reg.RESERVE_PEAK) x.charged
  let s2 := if x.slack < (s1.reg (grpReg g Reg.SLACK_MIN)).toNat then s1.setReg (grpReg g Reg.SLACK_MIN) (word x.slack) else s1
  let s3 := if x.refused then s2.bump (grpReg g Reg.EXHAUSTED_TICKS) 1 else s2
  let s4 := (s3.bump (grpReg g Reg.MOE_DROPS) x.moeDrops).bump (grpReg g Reg.MOE_UNROUTED) x.moeUnrouted
  if (s4.reg (grpReg g Reg.MOE_POOL_PEAK)).toNat % 65536 < x.moePeak.1 then
    s4.setReg (grpReg g Reg.MOE_POOL_PEAK) (word (x.moePeak.1 % 65536 + 65536 * (x.moePeak.2 % 65536)))
  else s4

/-- The group's payload of a record that concerns it (Table 13-4). -/
def State.groupInfo (s : State) (g detail : Nat) : List Byte :=
  { ErrInfo.only detail with group := g, variant := (s.grp g).kind, tick := (s.grp g).tick }.bytes

/-- A suspension is announced: LAST_SWITCH gets its cause, and a record is written (R154, R161, R359). -/
def State.suspend (s : State) (g cause sev : Nat) : State :=
  let x := s.grp g
  let s1 := s.updGrp g (fun y => { y with suspended := true, suspCause := cause, running := false, throttled := false })
  let s2 := s1.setReg (grpReg g Reg.LAST_SWITCH) (word (x.kind + 4 * x.kind + 16 * cause + 256 * (x.tick % 2 ^ 24)))
  s2.note sev "group suspended" unitPackage (s2.groupInfo g cause)

/-- Exhausted, clean and overrun states of the tick that has completed (R111, R154). -/
def State.settleTick (s : State) (g : Nat) : State :=
  let x := s.grp g
  let s1 := if x.refused ∧ x.prevClean then s.note sevWarn "exhausted tick" unitPackage (s.groupInfo g 0xFFFFFFFF) else s
  let s2 := s1.updGrp g Group.settle
  if x.overrun ∧ 4 ≤ (s2.grp g).overruns.length then s2.suspend g 8 sevFatal else s2

/-! ### Load index (R126) -/

/-- Fires of a die's good engines since reset. -/
def State.dieFires (s : State) (d : Nat) : Nat :=
  sumNats ((s.engines.filter (fun e => decide (e.1 / 16 / 144 = d) && s.good (e.1 / 16))).map (fun e => e.2.fired))

/-- Good engines of a die. -/
def State.dieEngines (s : State) (d : Nat) : Nat :=
  16 * ((List.range 144).filter (fun i => s.good (144 * d + i))).length

/-- The load indexes of the dies that hold a group's cores are formed from the fires of its tick on them. -/
def State.loadIndexes (s : State) (g : Nat) : State :=
  let clocks := (s.grp g).tickClocks
  let dies := ((s.groupCores g).map coreDie).eraseDups
  dies.foldl (fun (acc : State) d =>
    let slots := s.dieEngines d * (clocks / 24)
    let act : Frac := if slots = 0 then ⟨0, 1⟩ else ⟨100 * (s.dieFires d - (s.grp g).firesAt.getD d 0 : Nat), slots⟩
    { acc with loadIndex := acc.loadIndex.put d (loadIndexNext (acc.loadIndex.getD d 0) act) }) s

/-! ### Contexts (R212, R215, R219 to R221) -/

/-- Enter the blocks that new tokens complete into a chain (R220). -/
def Ctx.addTokens (c : Ctx) : List Nat → Ctx
  | [] => c
  | t :: rest =>
    let tail := c.tail ++ [t]
    let c1 := { c with length := c.length + 1 }
    if tail.length < 128 then Ctx.addTokens { c1 with tail := tail } rest
    else
      let h := blockHash (c.chain.getLastD (List.replicate 32 0)) tail c.growBy.1 c.growBy.2.1 c.growBy.2.2
      let chain := c.chain ++ [h]
      Ctx.addTokens { c1 with tail := [], blocks := c.blocks + 1, chain := chain.drop (chain.length - 1024) } rest

/-- Pages on which a layer writes rise by the positions written (R212). -/
def fillPages (before after : Nat) (t : List Pte) : List Pte :=
  t.map (fun e => if before / 128 ≤ e.page then { e with fill := max e.fill (min 128 (after - 128 * e.page)) } else e)

/-- Pages of cross-attention layers have the positions that the tick wrote to them (R201). -/
def Ctx.fillCross (c : Ctx) : Ctx :=
  { c with
    crossFill := []
    tables := c.tables.map (fun t => (t.1, t.2.map (fun e =>
      { e with fill := ((c.crossFill.filter (fun f => f.1 == t.1 && f.2.1 == e.page)).map (·.2.2)).foldl max e.fill }))) }

/-- The positions that the tick wrote become part of the context. -/
def State.growCtx (s : State) (c : Ctx) : Ctx :=
  let c := if c.crossFill.isEmpty then c else c.fillCross
  if c.grow.isEmpty then c
  else
    let c1 := c.addTokens c.grow
    let cross := fun (layer : Nat) => ((s.attnEntry c.group layer).map AttnEnt.cross).getD false
    { c1 with grow := [], tables := c1.tables.map (fun t =>
        if cross t.1 then t else (t.1, fillPages c.length c1.length t.2)) }

/-- The new score of a page from a mass (R215): an arithmetic shift of the difference. -/
def newScore (score m16 shift : Nat) : Nat := ((score : Int) + ((m16 : Int) - (score : Int)) / (2 ^ shift : Int)).toNat

/-- M16 of a page: its mean mass over the query heads, with equal weight (R215). -/
def mass16 (ms : List Frac) : Nat :=
  min 65535 (((Frac.sum ms).mul ⟨65536, ms.length⟩).floor.toNat)

/-- Scores measured in the tick are written. -/
def Ctx.scorePages (c : Ctx) : Ctx :=
  { c with
    masses := []
    tables := c.tables.map (fun t => (t.1, t.2.map (fun e =>
      let ms := (c.masses.filter (fun m => m.1 == t.1 && m.2.1 == e.page)).map (·.2.2)
      if ms.isEmpty then e else { e with score := newScore e.score (mass16 ms) c.shift }))) }

/-- A page found damaged leaves its context, its frame to the reservation where that was found clean; the tail page, the
highest of its layer, is replaced by a frame of the reservation, its lost positions absent (R219; log 136). -/
def Ctx.dropPage (c : Ctx) (layer page : Nat) (clean : Bool) : Ctx :=
  match (c.tables.getD layer []).find? (fun e => e.page == page) with
  | none => c
  | some e =>
    let c0 := c.dropPagesIf (fun l x => decide (l = layer) && decide (x.page = page))
    let c1 := if clean then c0 else { c0 with free := c0.free.upd layer [] (·.filter (· != e.frame)) }
    if (c.tables.getD layer []).all (fun x => decide (x.page ≤ page)) then
      match c1.free.getD layer [] with
      | [] => c1
      | f :: rest =>
        let e1 := { e with frame := f, sink := false, first := min 127 e.fill, fill := min 127 e.fill }
        { c1 with
          free := c1.free.put layer rest
          tables := c1.tables.put layer (sortBy (fun (a b : Pte) => decide (a.page < b.page))
            (e1 :: c1.tables.getD layer [])) }
    else c1

/-- The frame of a damaged page is rewritten with zeros and checked, before it returns (R219). -/
def State.zeroFrame (s : State) (c : Ctx) (layer page : Nat) : Bool × State :=
  match (c.tables.getD layer []).find? (fun e => e.page == page), s.attnEntry c.group layer with
  | some e, some a =>
    let gs := s.frameGranules c e.frame a.pageGranules
    let s1 := s.putAt gs (List.replicate a.pageGranules 0)
    (gs.all (fun i => (s1.readOnce i []).1 == some 0), s1.countReads gs)
  | _, _ => (false, s)

/-- Damaged pages of one context are removed and counted (R219). -/
def State.dropDamaged (s : State) (i : Nat) (c : Ctx) : State :=
  let s1 := c.dropPages.foldl (fun (s : State) d =>
    let z := s.zeroFrame c d.1 d.2.1
    let s2 := z.2.updCtx i (fun c => c.dropPage d.1 d.2.1 z.1)
    match d.2.2 with
    | some k => s2.bump ((Blk.se (coreIx k)).at Reg.SE_DROPPED_PAGES) 1
    | none => s2) s
  s1.updCtx i (fun c => { c with dropPages := [] })

/-- Pending truncation of a context is made (R221). -/
def State.truncateCtx (s : State) (i : Nat) : State :=
  match s.ctx? i with
  | none => s
  | some c => match c.truncate with
    | none => s
    | some point =>
      let r := s.tailBefore c point
      r.2.updCtx i (fun y => { y.truncateAt point r.1 with truncate := none })

/-- What a boundary does to one context of its group. -/
def State.closeCtx (s : State) (i : Nat) : State :=
  match s.ctx? i with
  | none => s
  | some c =>
    let c1 := (s.growCtx c).scorePages
    let s1 := ({ s with contexts := s.contexts.put i c1 }).dropDamaged i c1
    s1.truncateCtx i

/-- Contexts of a group. -/
def State.groupCtxs (s : State) (g : Nat) : List Nat :=
  (s.contexts.filter (fun p => p.2.group == g)).map (·.1)

/-- Contexts that have lost their key or their record are freed once they have no request (R385,
R412). -/
def State.freeOrphans (s : State) (g : Nat) : State :=
  ((s.contexts.filter (fun p => p.2.group == g && (p.2.orphan || p.2.damaged)
    && !(s.reqs.any (fun r => r.f.ctx == p.1)))).map (·.1)).foldl State.freeCtx s

/-! ### Cores (R51, R89, R188) -/

/-- Regions of a group in the Basins: the keys of its MemUnits. -/
def basinKeyOf (g key : Nat) : Bool := (key / 2 ^ 25 - 576) / 32 == g

/-- Arrays, tiles and buffers of a group's cores start a tick empty, and its local and Basin memory undefined
(R51, R89, R188; log 15). -/
def State.clearCores (s : State) (g : Nat) : State :=
  let mine := s.groupCores g
  let s0 := s.updGrp g (fun x => { x with memTicks := x.memTicks + 1 })
  let s1 := mine.foldl (fun (s : State) c => s.updCore c (fun k => { k with
    running := false, maint := false, waiting := false, inflight := 0, noticed := false, opIndex := 0, opClass := 0, issued := [], waitsFor := none, rillClocks := 0
    tiles := [], exports := [], acc := [], accExp := [], sources := [], lmem := [], vreg := [], walk := none, pages := [] })) s0
  { s1 with
    basin := s1.basin.filter (fun p => !(basinKeyOf g p.1))
    engines := s1.engines.map (fun e =>
      if mine.contains (e.1 / 16) then
        (e.1, { e.2 with buf := [], split := [], replays := [], run := [], splitActive := false })
      else e)
    arrays := s1.arrays.map (fun a =>
      if mine.contains (a.1 / 32) then
        (a.1, { a.2 with phase := .empty, tile := none, cells := [], abandoned := false, lost := none, reread := none })
      else a) }

/-- Requests of a group that end at its boundary without a token: cancelled and failed ones (R251,
R254). -/
def State.endDue (s : State) (g : Nat) : State :=
  (s.reqs.filter (fun r => r.group == g && r.ending.isSome)).foldl (fun (s : State) r =>
    let why := r.ending.getD 3
    s.endReq r why (endEntry r.f.id why)) s

/-- The completed tick is closed (Table 6-1, clocks 0 to 511). -/
def State.closeTick (s : State) (g : Nat) : State :=
  let s1 := if (s.grp g).ticked then ((s.latchTick g).settleTick g).loadIndexes g else s
  let s2 := s1.updGrp g (fun x => { x with
    ticked := false, overrun := false, refused := false, charged := 0, topups := [], idleEngs := [], doneClk := 0
    moeDrops := 0, moeUnrouted := 0, moePeak := (0, 0), maint := false, routing := [], weightsRead := [], ledger := 0 })
  let s3 := (s.grp g).chans.foldl (fun (s : State) k => s.updStack k (fun x => { x with weightShare := 0, kvShare := 0 }))
    { s2 with fresh := s2.fresh + 1, fabric := { s2.fabric with utilSeed := s2.fresh + 1 } }
  let s4 := (s3.groupCtxs g).foldl State.closeCtx s3
  (s4.freeOrphans g).clearCores g

end Sys2Proof.Machine
end

