-- ==== Sys2Proof/Machine/Boundary.lean ====
section
/-!
DEFINITION. The boundary of a lock group (R19, R136, Table 6-1): the order of its window, the placement of
plans, the choice of a variant, the binding, and the start of the next tick.
-/

namespace Sys2Proof.Machine

open Sys2Proof

/-! ### Boundaries (R19, R307) -/

/-- How the instance a plan names stands on a group: active, loaded and waiting for its plan, loading, or
not named at all (R150). -/
inductive NamedInst where
  | active | loaded | loading | none
  deriving DecidableEq, Repr

def State.namedInst (s : State) (g : Nat) (p : PlacedPlan) : NamedInst :=
  let i := s.inst g
  if (i.active.map (·.load.manifest.digest)) = some p.plan.manifest then .active
  else match i.next with
    | some x => if x.load.manifest.digest = p.plan.manifest then (if x.phase = .loading then .loading else .loaded) else .none
    | none => .none

/-- The committed plan of a group that its next boundary may place: verified, with the bindings of its variants computed
(R149, R190). -/
def State.placeable (s : State) (g : Nat) : Option PlacedPlan :=
  match (s.grp g).staged with
  | some st =>
    if st.phase = .verified ∧ st.computed then st.plan.bind (fun p => if s.namedInst g p = .loading then none else some p) else none
  | none => none

/-- First boundary of a group that runs no plan: the first grid point at least 1 ms after verification
ended, or the latest one past where the plan had to wait for its instance (R150, R307). -/
def State.firstBoundary (s : State) (g : Nat) (p : PlacedPlan) : Nat :=
  let since := ((s.grp g).staged.map (·.since)).getD 0
  let first := gridAt s.time.epoch p.nominalNs (since + 1000000)
  let now := s.time.epoch + (s.time.ns - s.time.epoch) / p.nominalNs * p.nominalNs
  max first now

/-- Device time of a group's next boundary, if it has one. -/
def State.boundaryOf (s : State) (g : Nat) : Option Nat :=
  let x := s.grp g
  if !x.formed then none
  else if x.current.isSome then some x.next
  else (s.placeable g).map (s.firstBoundary g)

/-- Tick number of a boundary (R307). -/
def State.tickNumber (s : State) (g b : Nat) : Nat :=
  let x := s.grp g
  let p := ((x.current <|> s.placeable g).map PlacedPlan.nominalNs).getD 1
  let n := (b - s.time.epoch) / p
  if x.boundary = 0 then n else max (x.tick + 1) n

/-- The block has boundaries at all: in service, with its clocks. -/
def State.serving (s : State) : Bool :=
  s.counting && s.boot.isDone && !s.clocks.safe && !s.thermal.tripped

/-! ### What takes effect at a boundary (Table 6-1, clocks 2,048 to 4,095) -/

/-- A verified probe pack replaces the one held; its sweep is abandoned and its results go (R349). -/
def State.takePack (s : State) : State :=
  match s.probe.next with
  | none => s
  | some p =>
    { s with
      probe := { s.probe with
        held := some p, next := none, origin := s.probe.nextOrigin, nextOrigin := none, sweeping := false
        lastSweep := 0, ran := [], failedCores := [], nextSeg := [], retry := [] }
      cores := s.cores.map (fun (k : Nat × CoreState) => (k.1, { k.2 with probeResult := 0, probeFirst := 0 })) }

/-- A sweep ends once every good core that is not fenced has completed or failed it (R351). -/
def State.sweepOver (s : State) : State :=
  let p := s.probe
  let out := fun (c : Nat) => !s.good c || (s.core c).fenced || p.ran.contains c || p.failedCores.contains c
  if p.sweeping && (List.range 576).all out then
    let s1 := { s with probe := { p with sweeping := false } }
    match p.origin, p.held with
    | some o, some x => s1.notice o.1 0x72 o.2 .ok [x.id, p.ran.length, p.failedCores.length]
    | _, _ => s1
  else s

/-- Some link, router or stage of the data fabric is out of service. -/
def State.fabricFault (s : State) : Bool :=
  !s.fabric.meshDown.isEmpty || !s.fabric.routerDown.isEmpty
    || (List.range 4).any (fun d => !(s.fabric.linkWorks d false))

/-- Detour tables are in force once no group awaits its change for a fabric fault (R194). -/
def State.detourStep (s : State) : State :=
  if s.groups.any (fun p => p.2.ticking && decide (p.2.rebind = some 3)) then s
  else { s with fabric := { s.fabric with detour := s.fabricFault } }

/-- Retrained control segments return (R185). -/
def State.returnSegments (s : State) : State :=
  { s with fabric := { s.fabric with
      segDown := s.fabric.segDown.filter (fun p => !(s.fabric.segReturning.contains p.1)), segReturning := [] } }

/-- One block of a stack is retired to a spare, while one is left (R336). -/
def State.retireBlock (s : State) (k block : Nat) : State :=
  let x := s.stack k
  if 256 ≤ x.retired ∨ x.blocks.contains block then s
  else
    let s1 := s.updStack k (fun y => { y with retired := y.retired + 1, blocks := y.blocks ++ [block] })
    let s2 := s1.error sevInfo 0x0202 (unitStack k) none none block
    if x.retired + 1 = 241 then s2.error sevWarn 0x0203 (unitStack k) none none 15 else s2

/-- Blocks that await retirement. -/
def State.retireBlocks (s : State) : State :=
  (List.range 12).foldl (fun (s : State) k =>
    let todo := (s.stack k).toRetire
    if todo.isEmpty then s
    else
      let s1 := todo.foldl (fun (s : State) b => s.retireBlock k b) s
      s1.updStack k (fun y => { y with toRetire := [] })) s

/-! ### Announcing a switch (R163, R285) -/

/-- Sessions at MCT 3 whose key owns a context on a group. -/
def State.watchers (s : State) (g : Nat) : List Nat :=
  (s.sessions.filter (fun x => x.isOpen && decide (x.version = 3)
    && s.contexts.any (fun c => c.2.group == g && c.2.key == x.key))).map (·.id)

/-- A plan or variant switch is recorded and announced, and RBSY goes low. -/
def State.announceSwitch (s : State) (g source cause : Nat) : State :=
  let x := s.grp g
  match x.current, x.variant with
  | some p, some v =>
    let s1 := (s.bump (grpReg g Reg.SWITCHES) 1).setReg (grpReg g Reg.LAST_SWITCH)
      (word (source + 4 * x.kind + 16 * cause + 256 * (x.tick % 2 ^ 24)))
    let s2 := s1.note sevInfo "variant switch" unitPackage
      (Crypto.bytesLE 1 g ++ Crypto.bytesLE 1 source ++ Crypto.bytesLE 1 x.kind ++ Crypto.bytesLE 1 cause)
    let s3 := { s2 with switching := true }
    (s3.watchers g).foldl (fun (s : State) id =>
      s.originate id (.variantNotice [g, source, x.kind, cause, x.tick, v.period, x.mhz, p.plan.planId])) s3
  | _, _ => s

/-! ### Placement (R149, R150) -/

/-- A rejection shows in the group's registers. -/
def State.showReject (s : State) (g : Nat) (r : Nat × Nat) : State :=
  (s.bump (grpReg g Reg.PLAN_REJECTS) 1).setReg (grpReg g Reg.LAST_REJECT) (word (r.1 + 256 * (r.2 % 2 ^ 24)))

/-- The rejections since a group's last boundary show in its window (R167). -/
def State.showRejects (s : State) (g : Nat) : State :=
  ((s.grp g).rejects.foldl (fun (s : State) r => s.showReject g r) s).updGrp g (fun x => { x with rejects := [] })

/-- A commit that is not placed is answered, and shows in the registers at the next boundary window, or at once where none
comes. -/
def State.rejectPlan (s : State) (g : Nat) (st : Status) (record : Nat) : State :=
  let s1 := s.updGrp g (fun x => { x with rejects := x.rejects ++ [(st.code, record)] })
  let s2 := if (s.grp g).ticking then s1 else s1.showRejects g
  s2.dropStaged g st (if st = .planInvalid then record else 0)

/-- Every core of a group that could be bound holds a binding made for a variant. -/
def State.tryBind (s : State) (g : Nat) (p : Plan) (kind : Nat) (doubled : Bool) : Option Binding :=
  match p.variant kind with
  | some v => if v.lcores ≤ s.coresLeft g then s.bindVariant g p v doubled else none
  | none => none

/-- The variant a plan is placed with: nominal, or degraded where too few cores are left. -/
def State.placeKind (s : State) (g : Nat) (p : Plan) : Option Nat :=
  let fits := fun (k : Nat) => match p.variant k with
    | some v => decide (v.lcores ≤ s.coresLeft g)
    | none => false
  if fits 0 then some 0 else if fits 3 then some 3 else none

/-- A plan becomes current from a boundary (R149). -/
def State.makeCurrent (s : State) (g kind tick : Nat) (p : PlacedPlan) (b : Binding) : State :=
  let origin := ((s.grp g).staged.bind (·.origin))
  let s1 := s.updGrp g (fun x => { x with
    staged := none, current := some p, kind := kind, mhz := ((p.plan.variant kind).map (·.clock)).getD 0
    forced := none, usedForced := false, callWide := none, clean := 0, started := 0, suspended := false, suspCause := 0
    throttled := false, exhausted := [], overruns := [], prevClean := false })
  let s2 := s1.install g b kind
  match origin with
  | some (sess, seq) => s2.reply sess seq .ok 0 tick []
  | none => s2

/-- Place the committed plan of a group; true where a plan was placed. -/
def State.placePlan (s : State) (g tick : Nat) : State × Bool :=
  match s.placeable g with
  | none => (s, false)
  | some p =>
    let compat := decide (p.plan.format = 2) && s.groups.any (fun q => decide (q.1 ≠ g)
      && (match q.2.current with
        | some c => decide (c.plan.format = 2)
        | none => false))
    if s.namedInst g p = .none ∨ p.plan.channels ≠ (s.grp g).chans.length ∨ compat then (s.rejectPlan g .conflict noRecord, false)
    else
      let s1 := if s.namedInst g p = .loaded then s.activate g else s
      let fail := (((s.rejectPlan g .unplaceable noRecord).showRejects g).bump (Blk.usher.at Reg.UNPLACEABLE) 1, false)
      match s.placeKind g p.plan with
      | none => fail
      | some kind =>
        match s.tryBind g p.plan kind (s.grp g).redundant with
        | none => fail
        | some b => (s1.makeCurrent g kind tick p b, true)

/-! ### The variant (R161, R359) -/

/-- What a group runs: kind, clock, and whether throttle or the host chose it. -/
structure Choice where
  kind : Nat
  mhz : Nat
  byThrottle : Bool
  byForce : Bool
  deriving DecidableEq, Repr

/-- A die that holds cores of a group is in throttle. -/
def State.inThrottle (s : State) (g : Nat) : Bool :=
  ((s.groupCores g).map coreDie).eraseDups.any (fun d => decide ((s.therm d).state = 2))

/-- The variant of a group, or the cause for which it is suspended. -/
def State.chooseVariant (s : State) (g : Nat) (p : PlacedPlan) : Except Nat Choice :=
  let x := s.grp g
  let n := s.coresLeft g
  let hot := s.inThrottle g
  let has := fun (k : Nat) => (p.plan.variant k).isSome
  let at' := fun (k : Nat) => ((p.plan.variant k).map (·.clock)).getD 0
  let cores := fun (k : Nat) => ((p.plan.variant k).map (·.lcores)).getD 0
  let degraded := has 3 && decide (cores 3 ≤ n) && (!hot || p.degradedOk)
  if n < cores 0 then
    if degraded then .ok ⟨3, if hot then s.pkgThrottle else at' 3, hot, false⟩ else .error 5
  else if hot then
    if has 2 then .ok ⟨2, s.pkgThrottle, true, false⟩
    else if degraded then .ok ⟨3, s.pkgThrottle, true, false⟩ else .error 3
  else
    match x.forced with
    | some k => if has k then .ok ⟨k, at' k, false, true⟩ else .ok ⟨0, at' 0, false, false⟩
    | none =>
      if x.callWide.isSome ∧ has 1 then .ok ⟨1, at' 1, false, false⟩
      else if x.callWide = some 8 ∧ has 2 then .ok ⟨2, at' 2, false, false⟩
      else .ok ⟨0, at' 0, false, false⟩

/-- CAUSE of a switch to a choice (Table 6-10). -/
def Group.switchCause (x : Group) (c : Choice) : Nat :=
  if x.suspended then (if x.suspCause = 3 then 4 else 6)
  else if c.byThrottle && !x.throttled then 3
  else if x.throttled && !c.byThrottle then 4
  else if c.byForce || x.usedForced then 7
  else if c.kind = 3 then 5
  else if x.kind = 3 then 6
  else if c.kind = 0 then 2
  else x.callWide.getD 1

/-- A call for the wide variant that outlived its ticks while the group was in throttle lapses as throttle
is left (R111). -/
def State.leaveThrottle (s : State) (g : Nat) : State :=
  let x := s.grp g
  if (x.throttled || (x.suspended && decide (x.suspCause = 3))) && !s.inThrottle g && decide (x.callWide = some 1)
      && decide (x.lastOf x.exhausted 64 = 0)
  then s.updGrp g (fun y => { y with callWide := none }) else s

/-- Run a choice; a switch of variant, or the end of a suspension, is announced unless a placement just
was. -/
def State.runChoice (s : State) (g : Nat) (c : Choice) (placed : Bool) : State :=
  let x := s.grp g
  let cause := x.switchCause c
  let s1 := s.updGrp g (fun y => { y with
    kind := c.kind, mhz := c.mhz, throttled := c.byThrottle, usedForced := c.byForce, suspended := false, suspCause := 0
    clean := if c.kind = x.kind then y.clean else 0 })
  if !placed && (decide (c.kind ≠ x.kind) || x.suspended) then s1.announceSwitch g x.kind cause else s1

/-- A suspension that a boundary decides is made once. -/
def State.suspendOnce (s : State) (g cause : Nat) : State :=
  if (s.grp g).suspended then s else s.suspend g cause sevWarn

/-- A channel of the group has failed. -/
def State.channelLost (s : State) (g : Nat) : Bool := (s.grp g).chans.any (fun k => (s.stack k).failed)

/-- A group with a failed channel is suspended, and stays so while the channel is in it (Table 7-6). -/
def State.suspendLost (s : State) (g : Nat) : State :=
  if (s.grp g).suspended then s.updGrp g (fun x => { x with suspCause := 9 }) else s.suspend g 9 sevFatal

/-- Choose and take the variant of a group. A suspension by overruns or for a lost plan waits for a new
plan (R154, R412). -/
def State.variantStep (s : State) (g : Nat) (placed : Bool) : State :=
  let s1 := s.leaveThrottle g
  let x := s1.grp g
  match x.current with
  | none => s1
  | some p =>
    if s1.channelLost g then s1.suspendLost g
    else if x.suspended ∧ x.suspCause ≠ 3 ∧ x.suspCause ≠ 5 then s1
    else match s1.chooseVariant g p with
      | .ok c => s1.runChoice g c placed
      | .error cause => s1.suspendOnce g cause

/-! ### The Usher's step (R188 to R190, R340) -/

/-- A binding is due: none was made for the running variant, or a computed change waits (R189, R190). -/
def State.bindDue (s : State) (g : Nat) : Bool :=
  let x := s.grp g
  match x.variant with
  | some v => decide (x.bind.length ≠ v.lcores) || decide (x.boundKind ≠ some x.kind)
      || (x.rebind.isSome && s.usher.ready.any (fun r => r.2 == g))
  | none => false

/-- The degraded variant takes over where the running one cannot be bound; else the group is suspended
for want of cores. -/
def State.bindFails (s : State) (g : Nat) (p : PlacedPlan) : State :=
  let x := s.grp g
  let hot := s.inThrottle g
  match (if x.kind = 3 ∨ (hot ∧ !p.degradedOk) then none else s.tryBind g p.plan 3 false) with
  | none => s.suspendOnce g 5
  | some b =>
    let s1 := (s.updGrp g (fun y => { y with
      kind := 3, mhz := if hot then s.pkgThrottle else ((p.plan.variant 3).map (·.clock)).getD 0, throttled := hot
      redundant := false })).install g b 3
    s1.announceSwitch g x.kind 5

/-- The change that a group waits for is the move of a warm logical cluster alone (R189). -/
def State.movesOnly (s : State) (g : Nat) : Bool :=
  let x := s.grp g
  match x.variant with
  | some v => decide (x.bind.length = v.lcores) && decide (x.boundKind = some x.kind) && decide (x.rebind = some 4)
  | none => false

/-- One logical cluster moves where there is room for it; else the binding stays as it is. -/
def State.moveStep (s : State) (g : Nat) (p : PlacedPlan) : State :=
  let x := s.grp g
  match x.variant.bind (s.moveCluster g p.plan) with
  | some b => s.install g b x.kind
  | none => s.updGrp g (fun y => { y with rebind := none })

/-- Bind the running variant where that is due. -/
def State.bindStep (s : State) (g : Nat) : State :=
  let x := s.grp g
  match x.current with
  | none => s
  | some p =>
    if x.suspended || !(s.bindDue g) then (if x.rebind.isSome then s.startCompute else s)
    else
      let s1 := { s with usher := { s.usher with ready := s.usher.ready.filter (fun r => r.2 != g) } }
      if s.movesOnly g then s1.moveStep g p
      else match s1.tryBind g p.plan x.kind x.redundant with
      | some b => s1.install g b x.kind
      | none =>
        match (if x.redundant then s1.tryBind g p.plan x.kind false else none) with
        | some b =>
          let s2 := (s1.updGrp g (fun y => { y with redundant := false })).note sevWarn "redundancy dropped" unitPackage
            (s1.groupInfo g 0xFFFFFFFF)
          s2.install g b x.kind
        | none => s1.bindFails g p

/-- A cluster that holds bound cores has reached the warning threshold while an unbound cluster of the
group is below it by more than the hysteresis (R189). -/
def State.thermalRebind (s : State) (g : Nat) : Bool :=
  let bound := ((s.grp g).placed.map coreCluster).eraseDups
  let all := ((s.groupCores g).map coreCluster).eraseDups
  bound.any s.clusterWarm
  && all.any (fun c => !(bound.contains c) && s.clusterCool c)

/-- A cluster to be left asks for a new binding (R189). -/
def State.thermalStep (s : State) (g : Nat) : State :=
  if (s.grp g).current.isSome ∧ (s.grp g).rebind = none ∧ s.thermalRebind g then s.needBind g 4 else s

/-- Clocks of the dies that hold a group's cores are set (R20, R295, R297). -/
def State.clockStep (s : State) (g : Nat) : State :=
  (allDies.filter (fun d => (s.groupCores g).any (fun c => decide (coreDie c = d.val)))).foldl State.applyDie s

/-! ### The start of a tick (R137, R151, R152, R246, R253) -/

/-- Cores without the mark sit the tick out, are counted and recorded, and are fenced from the next
boundary (R137). -/
def State.markStep (s : State) (g : Nat) : State :=
  let x := s.grp g
  let missing := fun (c : Nat) => !x.markSent || x.unmarked.contains c
  let s1 := (x.placed.filter missing).foldl (fun (s : State) c =>
    ((s.bump ((Blk.carq (coreIx c)).at Reg.MARK_MISMATCH) 1).error sevError 0x0402 (unitCore c) (some g) none
      0xFFFFFFFF).fence c 6) s
  let run := x.placed.filter (fun c => !(missing c))
  let s2 := run.foldl (fun (s : State) c => s.updCore c (fun k => { k with running := true })) s1
  s2.updGrp g (fun y => { y with unmarked := [], markSent := false })

/-- The reserve is fixed and local credits are dealt (R151, R152). -/
def State.dealStep (s : State) (g : Nat) : State :=
  let x := s.grp g
  match x.variant with
  | none => s
  | some v =>
    let rres := v.period * x.mhz * v.permille / 1000
    let mine := s.groupCores g
    let a := dealCredit rres mine.length
    let s1 := s.updGrp g (fun y => { y with rres := rres, ledger := rres - a * mine.length })
    mine.foldl (fun (s : State) c => s.updCore c (fun k => { k with credit := a })) s1

/-- The end of the tick or stride that a boundary starts (R253). -/
def Group.strideEnd (x : Group) : Nat :=
  match x.variant with
  | some v => x.next + (x.stride - 1 - x.phase) * v.ns
  | none => x.next

/-- Deadlines are compared (R253): what is not seated ends, what is seated is late. -/
def State.deadlineStep (s : State) (g : Nat) : State :=
  let e := (s.grp g).strideEnd
  let beyond := fun (r : Req) => r.group == g && decide (0 < r.f.deadline) && decide (r.f.deadline < e)
  let s1 := (s.reqs.filter (fun r => beyond r && !r.f.continueLate && decide (r.phase ≠ .seated))).foldl
    (fun (s : State) r => s.endReq r 2 (endEntry r.f.id 2)) s
  { s1 with reqs := s1.reqs.map (fun r => if beyond r then { r with late := true } else r) }

def State.updReq (s : State) (sess id : Nat) (f : Req → Req) : State :=
  { s with reqs := s.reqs.map (fun r => if r.sess = sess ∧ r.f.id = id then f r else r) }

/-- Tokens of the next rows of a request. -/
def Req.rows (r : Req) (n : Nat) : List Nat := (r.f.tokens.drop (r.f.tokens.length - r.rowsLeft)).take n

/-- Admit a request's rows to the tick: its last row takes a slot, the lowest free on its home die (R246,
R251). A request whose slot is not there keeps its last row back. -/
def State.admitOne (s : State) (g : Nat) (a : Admit) : State :=
  match s.req? a.sess a.req with
  | none => s
  | some r =>
    let n := min a.rows r.rowsLeft
    let free := s.freeSlots g (((s.ctx? r.f.ctx).map (·.homeDie)).getD 0)
    let last := decide (n = r.rowsLeft)
    let n := if last ∧ free = [] then n - 1 else n
    let seat := last && !free.isEmpty
    if n = 0 then s
    else
      let toks := r.rows n
      let s1 := s.updReq a.sess a.req (fun r => { r with
        pos := r.pos + n, rowsLeft := r.rowsLeft - n, passed := 0
        phase := if seat then .seated else .prefilling, slot := if seat then free.head? else r.slot })
      let s2 := s1.updCtx r.f.ctx (fun c => { c with grow := toks, growBy := (r.gen, r.f.adapter, r.adapterGen) })
      s2.updGrp g (fun x => { x with 
        admitted := x.admitted ++ [{ a with rows := n, last := seat }]
        finishing := x.finishing ++ (if seat then [(a.sess, r.f.ctx, r.gen, r.f.adapter, r.adapterGen)] else []) })

/-- Rows chosen by the balancer enter the tick in the first phase of a token step (R164, R257). -/
def State.admitStep (s : State) (g : Nat) : State :=
  let x := s.grp g
  if x.phase ≠ 0 then s
  else
    let s1 := s.updGrp g (fun y => { y with chosen := [], admitted := [], finishing := [] })
    x.chosen.foldl (fun (s : State) a => s.admitOne g a) s1

/-- Decoding sequences write the position of their last token (R212, R164). -/
def State.decodeStep (s : State) (g : Nat) : State :=
  let x := s.grp g
  if x.phase ≠ 0 then s
  else
    (s.reqs.filter (fun r => r.group == g && r.slot.isSome && !(x.admitted.any (fun a => a.sess == r.sess && a.req == r.f.id)))).foldl
      (fun (s : State) r => match r.last with
        | some t => s.updCtx r.f.ctx (fun c => { c with grow := [t], growBy := (r.gen, r.f.adapter, r.adapterGen) })
        | none => s) s

/-- A prepared page enters its table, its victim leaves (R216). -/
def State.applyPrep (s : State) (p : PagePrep) : State :=
  match s.ctx? p.ctx with
  | none => s
  | some c =>
    match s.attnEntry c.group p.layer with
    | none => s
    | some a =>
      let t := c.tables.getD p.layer []
      let out := fun (v : Nat) => t.filter (fun e => e.page != v)
      let fresh : Pte := { frame := p.frame, sink := decide (p.page = 0), kv8 := a.kv8, fill := 0, first := 0, page := p.page
                           score := p.score }
      let add := fun (l : List Pte) => sortBy (fun (a b : Pte) => decide (a.page < b.page)) (fresh :: l)
      match p.victim.bind (fun v => t.find? (fun e => e.page == v)) with
      | none => s.updCtx p.ctx (fun c => { c with
          tables := c.tables.put p.layer (add t), free := c.free.upd p.layer [] (·.filter (· != p.frame)) })
      | some e =>
        let s1 := (s.updCtx p.ctx (fun c => { c with tables := c.tables.put p.layer (add (out e.page)), evicted := true })).bump
          (Blk.walk.at Reg.EVICTIONS) 1
        if p.lent then
          { s1 with spill := { s1.spill with
              lentGranules := s1.spill.lentGranules + a.pageGranules
              queue := s1.spill.queue ++ [⟨p.ctx, p.layer, e.page, e.frame, p.frame, a.pageGranules, false⟩] } }
        else
          let s2 := s1.bump (Blk.walk.at Reg.EVICT_DISCARDS) 1
          if c.policy = 0 then s2.bump (Blk.walk.at Reg.SPILL_DROPS) 1 else s2

/-- Page tables prepared for the tick take effect, for the contexts it writes (R216). -/
def State.prepStep (s : State) (g : Nat) : State :=
  let x := s.grp g
  if x.phase ≠ 0 then s
  else
    let writes := fun (p : PagePrep) => match s.ctx? p.ctx with
      | some c => !c.grow.isEmpty
      | none => false
    (x.preps.filter writes).foldl State.applyPrep (s.updGrp g (fun y => { y with preps := [] }))

/-- Flags and token of every sequence start clear. -/
def State.clearTokens (s : State) (g : Nat) : State :=
  { s with reqs := s.reqs.map (fun r => if r.group = g then { r with token := none, degraded := false, replayed := false } else r) }

/-- The walks of the tick are known (R204): decode walks of the sequences that hold a slot and run no prefill, prefill walks
of the contexts whose rows were admitted. -/
def State.planWalks (s : State) (g : Nat) : State :=
  let x := s.grp g
  let pre := x.admitted.filterMap (fun a => (s.req? a.sess a.req).map (·.f.ctx))
  let seats := (s.reqs.filter (fun r => r.group == g && !(pre.contains r.f.ctx))).filterMap (fun r => r.slot.map (fun k => (k, r.f.ctx)))
  s.updGrp g (fun y => { y with
    walkSlots := sortBy (fun (a b : Nat × Nat) => decide (a.1 < b.1)) seats, walkPre := pre })

/-- The state of the boundary that CTX_INFO and CTX_LENGTH show (R225). -/
def State.snapCtxs (s : State) (g : Nat) : State :=
  { s with ctxView := (s.ctxView.filter (fun p => p.2.group != g))
      ++ (s.contexts.filter (fun p => p.2.group == g)).map (fun p => (p.1, p.2.view)) }

/-- The tick starts. -/
def State.startTick (s : State) (g : Nat) : State :=
  let x := s.grp g
  if x.current.isNone ∨ x.suspended then s.updGrp g (fun y => { y with unmarked := [], markSent := false })
  else
    let s1 := s.updGrp g (fun y => { y with
      started := y.started + 1, ticks := y.ticks + 1, running := true, ticked := true, framed := [], descs := 0
      lateWalks := [], walked := [], firesAt := ((s.groupCores g).map coreDie).eraseDups.map (fun d => (d, s.dieFires d)) })
    let s2 := ((s1.markStep g).dealStep g).clearTokens g
    ((((s2.deadlineStep g).admitStep g).decodeStep g).prepStep g).planWalks g

/-! ### The window (Table 6-1) -/

/-- A tick that still runs at its boundary puts the group in overrun: the boundary is skipped (R23). -/
def State.skipBoundary (s : State) (g b : Nat) : State :=
  let x := s.grp g
  let s1 := if x.overrun then s else s.bump (grpReg g Reg.OVERRUNS) 1
  s1.updGrp g (fun y => { y with overrun := true, next := s.nextBoundary g b, unmarked := [], markSent := false })

/-- Calibration step of the window: every array of the group's cores (R129), and of cores whose own group has no
boundaries (log 134). -/
def State.calibrateGroup (s : State) (g : Nat) : State :=
  (s.arrayKeys.filter (fun k => (s.core (arrCore k)).group == some g || !(s.hasBoundaries (arrCore k)))).foldl State.calArray s

/-- Clocks 2,048 to 4,095: commands, register writes and switches of instances and adapters. -/
def State.commandStep (s : State) (g tick b : Nat) : State :=
  let s0 := if s.usher.moving then s.reassign (some g) else s
  let s1 := ((s0.switchAdapters g).applyDeferred g).applyCommands g tick b
  let s2 := (((s1.endDue g).takePack).returnSegments).retireBlocks
  s2.freeOrphans g

/-- Clocks 4,096 to 8,191: variant, fences and binding. -/
def State.placeStep (s : State) (g tick : Nat) : State :=
  let s1 := (s.afterBreak.failLost.applyFences g).dropRedundancy g
  let old := (s1.grp g).kind
  let had := (s1.grp g).current.isSome
  let r := s1.placePlan g tick
  let s2 := (r.1.variantStep g r.2)
  let s3 := (s2.thermalStep g).bindStep g
  let s4 := if r.2 then s3.announceSwitch g (if had then old else (s3.grp g).kind) 0 else s3
  s4.detourStep.clockStep g

/-- A boundary of a group at a device time. -/
def State.window (s : State) (g b : Nat) : State :=
  let n := s.tickNumber g b
  let s1 := (s.closeTick g).updGrp g (fun x => { x with tick := n, boundary := b })
  let s2 := ((s1.calibrateGroup g).commandStep g n b).showRejects g
  if !(s2.grp g).formed then s2.flushHeld
  else
    let s3 := (s2.placeStep g n).sweepOver
    let s4 := s3.updGrp g (fun x => { x with next := s3.nextBoundary g b })
    ((s4.startTick g).snapCtxs g).snapQuote.flushHeld

/-- The boundary of a group, the device time counter standing at it or past it. -/
def State.boundaryAt (s : State) (g : Nat) : State :=
  match s.boundaryOf g with
  | none => s
  | some b =>
    if !s.serving then s
    else
      let s1 := { s with time := { s.time with ns := max s.time.ns b } }
      if (s.grp g).running then s1.skipBoundary g b else s1.window g b

end Sys2Proof.Machine
end

