-- ==== Sys2Proof/Machine/Carousel.lean ====
section
/-!
DEFINITION. The Carousels (R21, R137, R140, R168): which record of the running plan each unit of a core issues next,
what its issue leaves, and when the plan work of a tick is done.
-/

namespace Sys2Proof.Machine

open Sys2Proof

/-- Units of a core act: the map enables it (R4, R13), it is not stopped (R191) and has a clock (R302, R303, R312,
R361). -/
def State.unitRuns (s : State) (c : Nat) : Bool :=
  s.good c && !(s.core c).stopped && !s.clocks.allGated && !(s.mon (c / 144)).lost

/-! ### Records and units -/

/-- What a record names within its core: array, engine, tile or accumulate group (R147, R63). -/
def OpRec.part (op : OpRec) : Nat :=
  if op.cls = clsExpert then op.unit % 16
  else if op.cls < clsExpert then op.unit % 32
  else if op.cls ≤ clsMerge then op.unit % 64
  else if op.cls = clsAoa then op.unit % 16 / 4 else 0

/-- The unit of a core that a class and part issue on (Table 6-3), as a key. Transfers of one core are kept in record
order too, and so are its SYNCs. -/
def unitKey (cls part : Nat) : Nat :=
  if cls = clsLoad then 100 + part
  else if cls ≤ clsExpert then 200 + part % 16
  else if cls ≤ clsMerge then 300
  else if cls = clsQuant then 400
  else if cls ≤ clsAssign then 500
  else if cls = clsAoa then 600 + part
  else 1000 + cls

def OpRec.key (op : OpRec) : Nat := unitKey op.cls op.part

/-- Classes whose number of issues the data of the tick decide: streams, pages, sampled sequences and frames. -/
def dataDriven (cls : Nat) : Bool := [clsMemRead, clsMemWrite, clsAttn, clsSample, clsFrame].contains cls

/-- A record has issued all its repetitions on its unit, by what the unit issued last. -/
def issuedAll (last : Option (Nat × Nat)) (r : Nat × OpRec) : Bool :=
  match last with
  | none => false
  | some (i, n) => decide (r.1 < i) || (r.1 == i && decide (r.2.rep ≤ n))

/-- What a record has begun on a core is still going on: an expert run, or operations held on its tile. -/
def State.recordOpen (s : State) (c : Nat) (r : OpRec) : Bool :=
  if r.cls = clsExpert then !(s.eng (c * 16 + r.part)).run.isEmpty
  else clsExpert < r.cls && r.cls ≤ clsMerge && !(((s.core c).tiles.getD r.part CasTile.init).held.isEmpty)

/-- A record of a group's tick is done (R140): issued on the core that carries it. What a stopped core owes is taken as
zeros (R191), and in overrun so is what a core that sits the tick out owes (R137). -/
def State.recordDone (s : State) (g : Nat) (r : Nat × OpRec) : Bool :=
  let x := s.grp g
  match x.bind.get? r.2.lcore with
  | none => true
  | some c =>
    let k := s.core c
    dataDriven r.2.cls || k.stopped || (x.overrun && !k.running)
      || (issuedAll (k.issued.get? r.2.key) r && !(s.recordOpen c r.2))

/-- A record's dependencies within its phase are met (R147). -/
def State.depsMet (s : State) (g : Nat) (r : OpRec) : Bool :=
  [r.dep0, r.dep1].all (fun d => match (s.grp g).records.find? (fun q => q.1 == d) with
    | some q => s.recordDone g q
    | none => true)

/-- The next record of a unit of a core that has repetitions left; of a class whose issues the data decide, the last to
issue may issue again. -/
def State.nextOn (s : State) (c cls part : Nat) : Option (Nat × OpRec) :=
  let last := (s.core c).issued.get? (unitKey cls part)
  (s.coreRecords c).find? (fun r => r.2.key == unitKey cls part
    && (if dataDriven cls then decide ((last.map (·.1)).getD 0 ≤ r.1) else !issuedAll last r))

/-- A core's Carousel issues an operation now (R140): its units act, and it is the next record of its unit, with its
dependencies met. -/
def State.mayIssue (s : State) (c cls part : Nat) : Bool :=
  s.unitRuns c && (match (s.core c).group, s.nextOn c cls part with
    | some g, some r => r.2.cls == cls && r.2.part == part && s.depsMet g r.2
    | _, _ => false)

/-- A core stopped in the tick owes the next record of a unit (R191). -/
def State.owesRecord (s : State) (c cls part : Nat) : Bool :=
  (s.core c).stopped && (match s.nextOn c cls part with
    | some r => r.2.cls == cls && r.2.part == part
    | none => false)

/-- The record issues. -/
def State.issue (s : State) (c cls part : Nat) : State :=
  match s.nextOn c cls part with
  | none => s
  | some r => s.updCore c (fun k => { k with
      opIndex := r.1, opClass := cls
      issued := k.issued.upd (unitKey cls part) (r.1, 0) (fun q => if q.1 = r.1 then (r.1, q.2 + 1) else (r.1, 1)) })

/-- An operation of the plan on a core: its effect as its record issues; nothing where its turn has not come. -/
def State.planOp (s : State) (c cls part : Nat) (act : State → State) : State :=
  if s.mayIssue c cls part then act (s.issue c cls part) else s

/-! ### The work of a tick -/

/-- A stream operation of a layer and kind stands in the running phase of a group. -/
def State.streams (s : State) (g cls layer : Nat) (kv : Bool) : Bool :=
  (s.grp g).records.any (fun r => r.2.cls == cls && r.2.args.layer == layer && r.2.args.kv == kv)

/-- Some work of a core is still to come: a split, a replay, a re-read, a run in progress or a held operation. -/
def State.owes (s : State) (c : Nat) : Bool :=
  (List.range 16).any (fun e => !(s.eng (c * 16 + e)).split.isEmpty || !(s.eng (c * 16 + e)).replays.isEmpty
    || !(s.eng (c * 16 + e)).run.isEmpty)
  || (s.core c).tiles.any (fun t => t.2.pending.isSome || !t.2.held.isEmpty)
  || (List.range 32).any (fun a => (s.arr (c * 32 + a)).reread.isSome)

/-- The plan work of an engine of a core is done (R155): its loads, fires and expert runs have issued, and it owes no
split, replay or re-read. -/
def State.engineDone (s : State) (g e : Nat) : Bool :=
  let c := e / 16
  ((s.coreRecords c).filter (fun r => decide (r.2.cls ≤ clsExpert) && decide (r.2.part % 16 = e % 16))).all (s.recordDone g)
    && (s.eng e).split.isEmpty && (s.eng e).replays.isEmpty && (s.eng e).run.isEmpty
    && (s.arr (2 * e)).reread.isNone && (s.arr (2 * e + 1)).reread.isNone
    && !((s.core c).tiles.any (fun t => t.2.pending.isSome))

/-- The plan work of a group's tick is done: every record has issued, and no running core owes a correction. -/
def State.workDone (s : State) (g : Nat) : Bool :=
  let x := s.grp g
  x.records.all (s.recordDone g) && x.bind.all (fun b => (s.core b.2).stopped || !(s.owes b.2))

end Sys2Proof.Machine
end

