-- ==== Sys2Proof/Machine/TickCmds.lean ====
section
/-!
DEFINITION. The events of a group's tick: marks (R137), the boundary (R136), the maintenance window (R155),
the completion of a tick and its token frames (R251 to R253, R282 to R284).
-/

namespace Sys2Proof.Machine

open Sys2Proof

/-! ### Marks (R137) -/

/-- Tick number and variant that a mark carries. -/
def State.markOf (s : State) (g b : Nat) (mesh : Bool) : OutMsg := .mark g (s.tickNumber g b) (s.grp g).kind mesh

/-- A mark leaves on the control network, on the data mesh, or on both: as the segments to the group's cores allow (R185). -/
def State.sendMarks (s : State) (g b : Nat) : State :=
  let ways := ((s.groupCores g).map s.coreOnMesh).eraseDups
  (if ways.isEmpty then [false] else ways).foldl (fun (s : State) w => s.send (s.markOf g b w)) s

/-- The master sends the mark of a group's next boundary; some cores do not get it. -/
def State.sendMark (s : State) (g : Nat) (lost : List Nat) : State :=
  match s.boundaryOf g with
  | none => s
  | some b =>
    if !s.serving || (s.grp g).markSent then s
    else (s.updGrp g (fun x => { x with
      markSent := true, unmarked := (s.groupCores g).filter lost.contains })).sendMarks g b

/-- Where a core has not acknowledged, the mark is sent again on the data mesh. -/
def State.resendMark (s : State) (g : Nat) (lost : List Nat) : State :=
  match s.boundaryOf g with
  | none => s
  | some b =>
    let x := s.grp g
    if !s.serving || !x.markSent || x.unmarked.isEmpty then s
    else (s.updGrp g (fun x => { x with unmarked := x.unmarked.filter lost.contains })).send (s.markOf g b true)

/-- BOUNDARY_MARK_SEND. -/
def execBoundaryMarkSend (g : GroupIx) (lost : List CoreIx) (s : State) : Host.Outcome State Fault Refusal :=
  .next (s.sendMark g.val (lost.map (·.val)))

/-- BOUNDARY_MARK_RESEND. -/
def execBoundaryMarkResend (g : GroupIx) (lost : List CoreIx) (s : State) : Host.Outcome State Fault Refusal :=
  .next (s.resendMark g.val (lost.map (·.val)))

/-- GROUP_TICK_BOUNDARY (R136). -/
def execGroupTickBoundary (g : GroupIx) (s : State) : Host.Outcome State Fault Refusal :=
  .next (s.boundaryAt g.val)

/-! ### The maintenance window (R155) -/

/-- The window of a tick begins: the engines of the group whose plan work has finished take maintenance work, each
for as long as the window lasts. -/
def State.maintWindow (s : State) (g : Nat) : State :=
  let x := s.grp g
  match x.variant with
  | none => s
  | some v =>
    if !x.ticked || x.maint || v.maint = 0 then s
    else
      let mine := s.groupCores g
      let free := (mine.flatMap (fun c => (List.range 16).map (· + 16 * c))).filter (s.engineDone g)
      let s1 := s.updGrp g (fun x => { x with maint := true, idleEngs := free.map (fun e => (e, v.maint)) })
      mine.foldl (fun (s : State) c => s.updCore c (fun k => { k with maint := true })) s1

/-- MAINTENANCE_WINDOW. -/
def execMaintenanceWindow (g : GroupIx) (s : State) : Host.Outcome State Fault Refusal :=
  .next (s.maintWindow g.val)

/-! ### Token frames (R251 to R253, R282 to R284) -/

/-- Reason with which a request ends on a token of the tick, if it ends (R251 to R253). -/
def State.endReason (s : State) (r : Req) (token : Nat) : Option Nat :=
  let ends := ((s.inst r.group).active.map (fun x => x.load.manifest.endTokens)).getD []
  if r.ending = some 5 then some 5
  else if r.f.stops.contains token || (!r.f.ignoreEnd && ends.contains token) then some 0
  else if r.f.maxNew ≤ r.sent + 1 then some 1
  else if r.late && !r.f.continueLate then some 2 else none

/-- The entry of a token of the tick (R284). -/
def State.tokenEntry (s : State) (r : Req) (token : Nat) (why : Option Nat) : TokenEntry :=
  let x := s.grp r.group
  { req := r.f.id, token := token, noToken := false, late := r.late || x.overrun, degraded := r.degraded
    wide := decide (x.kind = 1), replayed := r.replayed
    evicted := ((s.ctx? r.f.ctx).map (·.evicted)).getD false, done := why.isSome, reason := why.getD 0 }

/-- A token of the tick is delivered: the request goes on or ends. -/
def State.deliver (s : State) (r : Req) (token : Nat) : State :=
  let why := s.endReason r token
  let e := s.tokenEntry r token why
  let s1 := s.updCtx r.f.ctx (fun c => { c with evicted := false, generated := c.generated + 1 })
  let s2 := if e.late then s1.updGrp r.group (fun g => { g with lateTokens := g.lateTokens + 1 }) else s1
  match why with
  | some w => s2.endReq { r with sent := r.sent + 1, last := some token } w e
  | none => s2.updReq r.sess r.f.id (fun q => { q with sent := q.sent + 1, last := some token })

/-- As the last prefill row of requests has run, the state of their contexts is their generations' (R247). -/
def State.prefillDone (s : State) (g : Nat) (p : Nat → Bool) : State :=
  if (s.grp g).lastPhase then
    ((s.grp g).finishing.filter (fun a => p a.1)).foldl (fun (s : State) a => s.updCtx a.2.1 (fun c => { c with
      stateGen := a.2.2.1, adapter := a.2.2.2.1, adapterGen := a.2.2.2.2 })) s
  else s

/-- Flags of an entry that a session's version has (Table 10-5). -/
def TokenEntry.forVersion (e : TokenEntry) (v : Nat) : TokenEntry :=
  { e with replayed := e.replayed && decide (2 ≤ v), wide := e.wide && decide (3 ≤ v), evicted := e.evicted && decide (3 ≤ v) }

/-- Entries in ascending slot order, requests that hold no slot last, by identifier (R282). -/
def entryOrder (a b : Option Nat × TokenEntry) : Bool :=
  lexLt [a.1.getD 2048, a.2.req] [b.1.getD 2048, b.2.req]

/-- Parts of a frame: 1,123 entries each, one part at MCT 1 and at most four (R283, Table 10-5). -/
def frameParts (v : Nat) (l : List TokenEntry) : List (List TokenEntry) :=
  match (chunksOf 1123 (l.length + 1) l).take (if v = 1 then 1 else 4) with
  | [] => [[]]
  | x => x

/-- Entries of a session's frame: of requests that have ended and are not reported, and of those that go
on with a token. -/
def State.frameEntries (s : State) (g sess : Nat) (live : List (Option Nat × TokenEntry)) : List TokenEntry :=
  let gone := (s.ended.filter (fun e => e.group == g && e.sess == sess && !e.reported)).map (fun e => (e.slot, e.entry))
  (sortBy entryOrder (gone ++ live)).map (·.2)

/-- The sampled tokens of a session on a group, in the last phase of a token step (R164). -/
def State.sampled (s : State) (g sess : Nat) : List (Req × Nat) :=
  if (s.grp g).lastPhase then
    (s.reqs.filter (fun r => r.group == g && r.sess == sess && r.slot.isSome)).filterMap (fun r => r.token.map (fun t => (r, t)))
  else []

/-- Flags withheld from a session by its version still go to the recorder (R272). -/
def State.noteFlags (s : State) (v : Nat) (l : List TokenEntry) : State :=
  if l.any (fun e => decide (e.forVersion v ≠ e)) then
    s.note sevInfo "token flags" unitPort ((l.filter (fun e => decide (e.forVersion v ≠ e))).flatMap (fun e => Crypto.bytesLE 4 e.req))
  else s

/-- Send a session the frame of a group's tick (R282 to R284). -/
def State.sendFrame (s : State) (g sess : Nat) : State :=
  match s.session? sess with
  | none => s
  | some x =>
    let s0 := s.prefillDone g (· == sess)
    let toks := s0.sampled g sess
    let live := (toks.filter (fun p => (s0.endReason p.1 p.2).isNone)).map (fun p => (p.1.slot, s0.tokenEntry p.1 p.2 none))
    let s1 := toks.foldl (fun (s : State) p => s.deliver p.1 p.2) s0
    let entries := s1.frameEntries g sess live
    let q := s1.grp g
    let parts := frameParts x.version (entries.map (fun e => e.forVersion x.version))
    let s2 := parts.zipIdx.foldl (fun (s : State) p =>
      s.originate sess (.tokenFrame
        { group := g, variant := q.kind, phase := q.phase, parts := parts.length, part := p.2
          last := decide (p.2 + 1 = parts.length), boundary := q.boundary, tick := q.tick } p.1)) (s1.noteFlags x.version entries)
    { s2 with ended := s2.ended.map (fun (e : Ended) => if e.group = g ∧ e.sess = sess then { e with reported := true } else e)
      }.updGrp g (fun y => { y with framed := sess :: y.framed })

/-- Sessions due a frame of a group's tick (R282). -/
def State.frameSessions (s : State) (g : Nat) : List Nat :=
  ((s.sessions.map (·.id)).filter (fun id =>
    s.reqs.any (fun r => r.group == g && r.sess == id)
    || s.ended.any (fun e => e.group == g && e.sess == id && !e.reported)))

/-- A session's sampling of the tick is complete: every seated sequence has its token, in the last phase. -/
def State.samplingDone (s : State) (g sess : Nat) : Bool :=
  !(s.grp g).lastPhase || (s.reqs.filter (fun r => r.group == g && r.sess == sess && r.slot.isSome)).all (·.token.isSome)

/-- FRAME: the port sends a session's frame of the running tick once its sampling completes (R283). -/
def execFrame (g : GroupIx) (sess : Nat) (s : State) : Host.Outcome State Fault Refusal :=
  .next (if (s.grp g.val).running && (s.frameSessions g.val).contains sess && !((s.grp g.val).framed.contains sess)
      && s.samplingDone g.val sess then s.sendFrame g.val sess else s)

/-! ### The completion of a tick (R23, R94, R283) -/

/-- Snapshot of a core's tiles, with the lane that TILE_SEL names (R94). -/
def State.snapCore (s : State) (c : Nat) : State :=
  let k := s.core c
  let sel := (s.reg ((Blk.cas (coreIx c)).at Reg.TILE_SEL)).toNat
  let lane := (((k.tiles.get? (sel % 64)).bind (fun t => t.lanes[sel / 64 % 64]?)).getD 0)
  let src := k.peak % 65536 + 65536 * (((k.group.bind (fun g => (s.grp g).current)).map (·.plan.spillSrc)).getD 0 % 65536)
  let s1 := s.setReg ((Blk.cor (coreIx c)).at Reg.SRC_USE) (word src)
  s1.updCore c (fun k => { k with
    peak := 0, snap := ⟨k.satTick, k.uflTick, lane⟩, satTick := 0, uflTick := 0, running := false, waiting := false })

/-- Descriptors of the completed tick (R225). -/
def State.latchWalks (s : State) (g : Nat) : State :=
  let n := (s.grp g).descs
  (s.setReg (Blk.walk.at Reg.WALK_DESC_TICK) (word n)).peak (Blk.walk.at Reg.WALK_DESC_PEAK) n

/-- LAST_SLIP of a core is timing that the model does not carry: a free value (log 41). -/
def State.slipCore (s : State) (c : Nat) : State :=
  let r := s.freshValue 32
  r.2.updCore c (fun k => { k with slip := r.1.toNat })

/-- Every sequence that holds a slot has its token of the tick, or may not have one because some core of the binding did
not run (R22, R137). -/
def State.tokensDone (s : State) (g : Nat) : Bool :=
  let x := s.grp g
  !x.lastPhase || x.bind.any (fun b => !(s.core b.2).running)
  || (s.reqs.filter (fun r => r.group == g && r.slot.isSome)).all (·.token.isSome)

/-- A group's running tick completes at a clock of the tick, once its plan work is done (R21, R22). -/
def State.completeTick (s : State) (g clock : Nat) : State :=
  let x := s.grp g
  if !x.running || !(s.workDone g) || !(s.tokensDone g) then s
  else
    let s0 := s.prefillDone g (fun _ => true)
    let s1 := if x.overrun then s0.error sevError 0x0501 unitPackage (some g) none (clock - x.tickClocks) else s0
    let s2 := ((s1.frameSessions g).filter (fun id => !(x.framed.contains id))).foldl (fun (s : State) id => s.sendFrame g id) s1
    let s3 := x.placed.foldl (fun (s : State) c => (s.snapCore c).slipCore c) s2
    ((s3.latchWalks g).reportEnded g).updGrp g (fun y => { y with running := false, doneClk := clock })

/-- TICK_COMPLETE (R283). -/
def execTickComplete (g : GroupIx) (clock : Nat) (s : State) : Host.Outcome State Fault Refusal :=
  .next (s.completeTick g.val clock)

end Sys2Proof.Machine
end

