-- ==== Sys2Proof/Machine/FpFunc.lean ====
section
/-!
DEFINITION. Exponential, cosine and sine in FP32 (R208, R211): each is computed to far beyond FP32 and then taken at one
of the two FP32 values around it, which is every value with an error below one unit in the last place; which of the two
the spec leaves open (log 8).
-/

namespace Sys2Proof.Machine

/-! ### Narrowing -/

/-- FP32 magnitude bits of a fraction, rounded toward zero, and whether it is exact. -/
def truncMag (a : Frac) : Nat × Bool :=
  if a.num = 0 then (0, true)
  else
    let e := if a.log2 < -126 then -126 else a.log2
    let x := a.abs.mul (Frac.dyadic 1 (23 - e))
    let m := x.floor.toNat
    (((e + 126).toNat) * 2 ^ 23 + m, x.eq (Frac.ofNat m))

/-- One of the two FP32 values around a fraction; the value itself where FP32 holds it. -/
def fpNear (up : Bool) (a : Frac) : Word :=
  let m := truncMag a
  let mag := if m.2 || !up then m.1 else m.1 + 1
  BitVec.ofNat 32 (min mag 0x7F800000 + (if a.num < 0 then 0x80000000 else 0))

/-- FP64 value nearest to a fraction, of those whose exponent is in range. -/
def fp64 (a : Frac) : Frac :=
  if a.num = 0 then ⟨0, 1⟩
  else
    let q := a.log2 - 52
    Frac.dyadic ((a.mul (Frac.dyadic 1 (-q))).round) q

/-! ### Power series in fixed point -/

/-- Scale of the fixed-point values: 2^320. -/
def fixOne : Nat := 2 ^ 320

/-- Sum of a series whose term of number k, from a first one, is the one before times x over a divisor of k; alternating
where the signs alternate. -/
def series (alternate : Bool) (divisor : Nat → Nat) (x : Nat) : Nat → Nat → Int → Int
  | 0, _, term => term
  | n + 1, k, term =>
    let next := term * x / (fixOne * divisor k : Nat)
    term + series alternate divisor x n (k + 1) (if alternate then -next else next)

/-- Exponential of minus a fixed-point value below one. -/
def expSmall (x : Nat) : Nat := (series true (fun k => k) x 80 1 fixOne).toNat

/-- A fixed-point value squared seven times. -/
def power128 : Nat → Nat → Nat
  | 0, v => v
  | n + 1, v => power128 n (v * v / fixOne)

/-- Exponential of minus a fraction that is not negative: beyond 110 it is below half of the smallest FP32 value, and
stands for it. -/
def expMinus (y : Frac) : Frac :=
  if (Frac.ofNat 110).lt y then ⟨1, fixOne⟩
  else ⟨power128 7 (expSmall ((y.mul ⟨fixOne, 128⟩).floor.toNat)), fixOne⟩

/-- FP32 exponential: its limits are exact. -/
def fpExp (w : Word) : Word :=
  if fpIsNaN w then fpNaN
  else if w = fpInf true then 0
  else if w = fpInf false then fpInf false
  else
    let v := fpValue w
    let r := if v.num ≤ 0 then expMinus v.neg else if (Frac.ofNat 100).lt v then Frac.dyadic 1 128 else (Frac.ofInt 1).div (expMinus v)
    fpNear (Config.expUp w) r

/-- The 128-bit value of 2π, in units of 2^-125 (R208). -/
def twoPi128 : Nat := 0xC90FDAA22168C234C4C6628B80DC1CD1

/-- A fraction reduced modulo 2π. -/
def reduceAngle (a : Frac) : Frac :=
  let p : Frac := ⟨twoPi128, 2 ^ 125⟩
  a.sub ((Frac.ofInt (a.div p).floor).mul p)

/-- Cosine and sine of a reduced angle. -/
def cosSeries (a : Frac) : Frac :=
  let x := (a.mul ⟨fixOne, 1⟩).floor.toNat
  ⟨series true (fun k => (2 * k - 1) * (2 * k)) (x * x / fixOne) 60 1 fixOne, fixOne⟩
def sinSeries (a : Frac) : Frac :=
  let x := (a.mul ⟨fixOne, 1⟩).floor.toNat
  ⟨series true (fun k => (2 * k) * (2 * k + 1)) (x * x / fixOne) 60 1 x, fixOne⟩

/-- The angle of a position, formed in FP64 (R208): each of its two products is rounded. -/
def ropeAngle (pos : Nat) (scale freq : Word) : Frac :=
  fp64 ((fp64 ((Frac.ofNat pos).mul (fpValue scale))).mul (fpValue freq))

/-- FP32 cosine, or sine, of a position's angle; open where a factor of it is no number (log 8). -/
def ropeTrig (sine : Bool) (pos : Nat) (scale freq : Word) : Frac :=
  if fpNonFinite scale || fpNonFinite freq then fpValue (Config.ropeOpen sine pos scale freq)
  else
    let a := reduceAngle (ropeAngle pos scale freq)
    fpValue (fpNear (Config.ropeUp sine pos scale freq) (if sine then sinSeries a else cosSeries a))

end Sys2Proof.Machine
end

