-- ==== Sys2Proof/Machine/Ledger.lean ====
section
/-!
DEFINITION. The replay reserve: local credits, the group's ledger, top-ups and refusals (R109, R110, R151 to
R153).
-/

namespace Sys2Proof.Machine

open Sys2Proof

/-- The credit A that the ledger deals every core of a group (R152). -/
def State.deal (s : State) (g : Nat) : Nat := dealCredit (s.grp g).rres (s.groupCores g).length

/-- Group of a core. -/
def State.groupOf (s : State) (c : Nat) : Group := ((s.core c).group.map s.grp).getD Group.init

/-- A request for a top-up leaves for the ledger. -/
def State.askTopup (s : State) (c n : Nat) : State :=
  match (s.core c).group with
  | none => s
  | some g => (s.updGrp g (fun x => { x with topups := x.topups ++ [(c, n)] })).updCore c (fun k => { k with
      inflight := k.inflight + n })

/-- Charge clocks to a core: the group's sum of the tick rises, and a credit that falls below half of A
asks for a top-up (R152). -/
def State.charge (s : State) (c n : Nat) : State :=
  match (s.core c).group with
  | none => s
  | some g =>
    let a := s.deal g
    let old := (s.core c).credit
    let s1 := (s.updGrp g (fun x => { x with charged := x.charged + n })).updCore c (fun k => { k with
      credit := k.credit - n })
    let s2 := s1.bump ((Blk.cor (coreIx c)).at Reg.REPLAY_CLOCKS) n
    if (a : Int) ≤ 2 * old ∧ 2 * (old - n) < (a : Int) then s2.askTopup c a else s2

/-- LAST_REPLAY (R113). -/
def State.lastReplay (s : State) (c eng : Nat) (arrB : Bool) (cause tile : Nat) (refused again : Bool) : State :=
  s.updCore c (fun k => { k with
    lastReplay := eng + 16 * flag arrB + 32 * cause + 256 * (tile % 64) + 16384 * flag refused + 32768 * flag again })

/-- What becomes of a replay that would cost some clocks (R110, R152, R153). -/
inductive Grant where
  /-- It is charged and issues. -/
  | served
  /-- It waits for a top-up. -/
  | waits
  /-- It is refused. -/
  | refused
  deriving DecidableEq, Repr

/-- Ask for a replay: served against the core's credit, held for a top-up where the credit does not cover
it, refused where the top-ups did not help or the notice of R153 has arrived. -/
def State.askReplay (s : State) (c cost : Nat) : Grant × State :=
  let k := s.core c
  let refuse := fun (s : State) =>
    let s1 := (s.updCore c (fun k => { k with waiting := false, waitClocks := 0 })).bump
      ((Blk.cor (coreIx c)).at Reg.REPLAYS_REFUSED) 1
    match k.group with
    | some g => s1.updGrp g (fun x => { x with refused := true })
    | none => s1
  match k.group with
  | none => (.served, s)
  | some g =>
    let need := cost + k.waitClocks
    if k.noticed then (.refused, refuse s)
    else if (need : Int) ≤ k.credit then
      (.served, (s.updCore c (fun k => { k with waiting := false, waitClocks := 0 })).charge c need)
    else if k.inflight ≠ 0 ∧ (need : Int) ≤ k.credit + k.inflight then
      (.waits, if k.waiting then s else (s.updCore c (fun k => { k with waiting := true })).bump
        ((Blk.carq (coreIx c)).at Reg.CREDIT_WAITS) 1)
    else if k.waiting && k.inflight == 0 then (.refused, refuse s)
    else if k.waiting then (.waits, s)
    else
      let short := ((need : Int) - k.credit - k.inflight).toNat
      let s1 := (s.updCore c (fun k => { k with waiting := true })).bump ((Blk.carq (coreIx c)).at Reg.CREDIT_WAITS) 1
      (.waits, s1.askTopup c (max (s.deal g) short))

/-- The request of a core reaches the ledger, which grants it in full or what it holds. -/
def State.topup (s : State) (c waited : Nat) : State :=
  match (s.core c).group with
  | none => s
  | some g =>
    let x := s.grp g
    match x.topups.find? (fun t => t.1 == c) with
    | none => s
    | some t =>
      let n := min t.2 x.ledger
      let s1 := s.updGrp g (fun y => { y with topups := y.topups.erase t, ledger := y.ledger - n })
      s1.updCore c (fun k => { k with
        credit := k.credit + n, inflight := k.inflight - t.2
        waitClocks := if k.waiting then min 96 (k.waitClocks + waited) else k.waitClocks })

/-- REPLAY_CREDIT_TOPUP (R152). -/
def execReplayCreditTopup (core : CoreIx) (waited : Nat) (s : State) : Host.Outcome State Fault Refusal :=
  .next (s.topup core.val waited)

/-- EXHAUSTED_NOTICE (R153): once a replay of the group has been refused, its notice reaches a core; a
replay waiting there will be refused without charge. -/
def execExhaustedNotice (core : CoreIx) (s : State) : Host.Outcome State Fault Refusal :=
  .next (if (s.groupOf core.val).refused then
      s.updCore core.val (fun k => { k with noticed := true, waitClocks := 0 }) else s)

end Sys2Proof.Machine
end

