-- ==== Sys2Proof/Machine/Walks.lean ====
section
/-!
DEFINITION. Page descriptors (R205), the order of the walkers (R204), and the pages that the Sluices have delivered to a
core (R206).
-/

namespace Sys2Proof.Machine

open Sys2Proof

/-! ### Descriptors -/

/-- A page descriptor (Table 8-5); `prefill` is KIND. -/
structure PageDesc where
  frame : Nat
  granules : Nat
  fill : Nat
  start : Nat
  prefill : Bool
  posBase : Nat
  ctx : Nat
  layer : Nat
  slot : Nat
  lcore : Nat
  span : Nat
  pte : Nat
  kv8 : Bool
  sink : Bool
  first : Bool
  last : Bool
  tag : Nat
  group : Nat
  deriving DecidableEq, Repr

/-- The granule of a descriptor. -/
def PageDesc.word (d : PageDesc) : Nat :=
  fld d.frame 0 35 + fld d.granules 35 12 + fld d.fill 47 8 + fld d.start 55 7 + fld (flag d.prefill) 62 1
    + fld d.posBase 64 31 + fld d.ctx 96 12 + fld d.layer 108 10 + fld d.slot 118 11 + fld d.lcore 129 10
    + fld d.span 139 4 + fld d.pte 143 9 + fld (flag d.kv8) 152 1 + fld (flag d.sink) 153 1
    + fld (flag d.first) 154 1 + fld (flag d.last) 155 1 + fld d.tag 156 8 + fld d.group 164 4

/-- The descriptor of a granule. -/
def PageDesc.ofWord (w : Nat) : PageDesc :=
  { frame := bitsAt w 0 35, granules := bitsAt w 35 12, fill := bitsAt w 47 8, start := bitsAt w 55 7
    prefill := w.testBit 62, posBase := bitsAt w 64 31, ctx := bitsAt w 96 12, layer := bitsAt w 108 10
    slot := bitsAt w 118 11, lcore := bitsAt w 129 10, span := bitsAt w 139 4, pte := bitsAt w 143 9
    kv8 := w.testBit 152, sink := w.testBit 153, first := w.testBit 154, last := w.testBit 155
    tag := bitsAt w 156 8, group := bitsAt w 164 4 }

/-- A descriptor is of the running tick of its group (R206). -/
def State.descLive (s : State) (d : PageDesc) : Bool :=
  (s.grp d.group).running && decide (d.tag = (s.grp d.group).tick % 256)

/-- First position of the window of a query at a position (R205). -/
def AttnEnt.windowFirst (a : AttnEnt) (q : Nat) : Nat := if a.window = 0 then 0 else q + 1 - a.window

/-- The descriptors of a walk, in ascending page position; the query is the context's first position of the tick
(R205, R209). -/
def State.walkDescs (s : State) (g ctx layer : Nat) (prefill : Bool) (slot lcore span : Nat) (c : Ctx) (a : AttnEnt) :
    List PageDesc :=
  let from' := a.windowFirst c.length
  let pages := ((c.tables.getD layer []).zipIdx.filter (fun p => decide (from' < 128 * p.1.page + 128)))
  pages.zipIdx.map (fun p =>
    let e := p.1.1
    { frame := e.frame, granules := a.pageGranules, fill := e.fill, start := max e.first (from' - 128 * e.page)
      prefill := prefill, posBase := 128 * e.page, ctx := ctx, layer := layer, slot := slot, lcore := lcore, span := span
      pte := p.1.2, kv8 := e.kv8, sink := e.sink, first := decide (p.2 = 0), last := decide (p.2 + 1 = pages.length)
      tag := (s.grp g).tick % 256, group := g })

/-! ### Walkers (R204) -/

/-- Logical cores that a layer's decode walks go to: eight query heads to each (R210). -/
def AttnEnt.spanCores (a : AttnEnt) : Nat := (a.kvHeads * a.qPerKv + 7) / 8

/-- A walk of the tick has been emitted. -/
def State.walkMade (s : State) (g ctx layer : Nat) (prefill : Bool) : Bool :=
  (List.range 8).any (fun w => ((s.walkList g w).take ((s.grp g).walked.getD w 0)).any (fun p =>
    p.1 == layer && p.2.1 == ctx && p.2.2.1 == prefill))

/-! ### Pages delivered -/

/-- Granules of a page as read; an absent one was uncorrectable. -/
abbrev PageRead := List (Option Nat)

/-- Granules of a delivered page in order. -/
def PageIn.read (p : PageIn) : PageRead := (List.range (bitsAt p.desc 35 12)).map (fun i => (p.got.get? i).bind (·.1))

/-- The page of a prefill walk that a core has been delivered. -/
def State.prefillPage (s : State) (c ctx layer page : Nat) : Option PageIn :=
  (s.core c).pages.find? (fun p => let d := PageDesc.ofWord p.desc
    d.prefill && d.ctx == ctx && d.layer == layer && d.posBase == 128 * page)

/-- A page of a prefill walk is still to come to a core: its walk is not made, a Sluice still holds its descriptor, or
granules of it are missing. -/
def State.pageAwaited (s : State) (c g ctx layer page : Nat) : Bool :=
  !(s.walkMade g ctx layer true)
  || (match s.ctx? ctx with
    | none => false
    | some x => (s.frameStacks x).any (fun k => (s.stack k).descs.any (fun w => let d := PageDesc.ofWord w
        d.prefill && d.ctx == ctx && d.layer == layer && d.posBase == 128 * page)))
  || (match s.prefillPage c ctx layer page with
    | some p => !p.complete
    | none => false)

end Sys2Proof.Machine
end

