-- ==== Sys2Proof/Machine/KvPages.lean ====
section
/-!
DEFINITION. Key-value pages (R78, R79, R198, R208, R209): reading the values of a page, rotation, and the key
and value tiles of prefill attention.
-/

namespace Sys2Proof.Machine

open Sys2Proof

/-- Values of a head record rounded up to whole blocks, in blocks. -/
def AttnEnt.headBlocks (a : AttnEnt) : Nat := a.headRecord / 64

/-- First scale granule of a page (Table 8-2). -/
def AttnEnt.scaleBase (a : AttnEnt) : Nat := (if a.kv8 then 256 else 128) * a.nb

/-- E8 of block b of position offset p. -/
def AttnEnt.blockE8 (a : AttnEnt) (pg : PageRead) (p b : Nat) : Nat :=
  let i := p * a.nb + b
  bitsAt ((pg.getD (a.scaleBase + i / 32) none).getD 0) (8 * (i % 32)) 8

/-- Codes of block b of position offset p. -/
def AttnEnt.blockCodes (a : AttnEnt) (pg : PageRead) (p b : Nat) : List Int :=
  let i := p * a.nb + b
  let g := fun (k : Nat) => (pg.getD k none).getD 0
  if a.kv8 then decodeKv [g (2 * i), g (2 * i + 1)] true else decodeKv [g i] false

/-- Value i of a key-value head at position offset p: exact. -/
def AttnEnt.headVal (a : AttnEnt) (pg : PageRead) (p head i : Nat) : Frac :=
  let b := head * a.headBlocks + i / 64
  let e := a.blockE8 pg p b
  if e = 0 then ⟨0, 1⟩ else Frac.dyadic ((a.blockCodes pg p b).getD (i % 64) 0) ((e : Int) - 127)

/-- A page is unreadable: a granule of it is uncorrectable, or a block scale of a written position is
0xFF (R69, R219). -/
def AttnEnt.pageBad (a : AttnEnt) (pg : PageRead) (fill : Nat) : Bool :=
  pg.any (·.isNone) || (List.range (fill * a.nb)).any (fun i => decide (a.blockE8 pg (i / a.nb) (i % a.nb) = 255))

/-- The other index of a rotated pair, the pair's index, and whether i is its second value (R208). -/
def AttnEnt.ropePair (a : AttnEnt) (i : Nat) : Option (Nat × Nat × Bool) :=
  if a.cross ∨ i < a.ropeFirst ∨ a.ropeFirst + a.ropeDims ≤ i then none
  else
    let k := i - a.ropeFirst
    if a.interleaved then some (if k % 2 = 0 then i + 1 else i - 1, k / 2, decide (k % 2 = 1))
    else if k < a.ropeDims / 2 then some (i + a.ropeDims / 2, k, false)
    else some (i - a.ropeDims / 2, k - a.ropeDims / 2, true)

/-- Inverse frequency of pair k of a layer, from the instance's bytes. -/
def State.invFreq (s : State) (g : Nat) (a : AttnEnt) (k : Nat) : Word :=
  match (s.inst g).active with
  | some x => BitVec.ofNat 32 (Crypto.natLE (x.load.stream (a.invFreq + 4 * k) 4))
  | none => 0

/-- A rotated value, rounded once to FP32 (R208). -/
def State.rotated (s : State) (g : Nat) (a : AttnEnt) (pos i : Nat) (val : Nat → Frac) : Frac :=
  match a.ropePair i with
  | none => val i
  | some (j, k, second) =>
    let c := ropeTrig false pos a.ropeScale (s.invFreq g a k)
    let n := ropeTrig true pos a.ropeScale (s.invFreq g a k)
    let x := val i
    let y := val j
    fpValue (fpOfFrac (if second then (y.mul n).add (x.mul c) else (x.mul c).sub (y.mul n)))

/-- A page of a context's layer. -/
def State.pte? (s : State) (ctx layer page : Nat) : Option Pte :=
  match s.ctx? ctx with
  | some c => (c.tables.getD layer []).find? (fun e => e.page == page)
  | none => none

/-- Pages a tile draws on. -/
def KvTile.pages : KvTile → List Nat
  | .key _ _ page _ _ => [page]
  | .value _ _ pair _ => [2 * pair, 2 * pair + 1]
def KvTile.ctx : KvTile → Nat
  | .key c _ _ _ _ => c
  | .value c _ _ _ => c

/-- A position of a resident page is present (R203). -/
def Pte.present (e : Pte) (p : Nat) : Bool := decide (e.first ≤ p) && decide (p < e.fill)

/-- A position of a context's layer is present to prefill attention: in a resident page, or written by the running tick
(R203, R213). -/
def State.positionPresent (s : State) (ctx layer pos : Nat) : Bool :=
  match s.ctx? ctx, s.pte? ctx layer (pos / 128) with
  | some c, some e => e.present (pos % 128)
      || (decide (c.length ≤ pos) && decide (pos < c.length + c.grow.length) && decide (e.first ≤ pos % 128))
  | _, _ => false

/-- Columns of a key or value tile as 256 exact values each, absent positions as zeros (R213). -/
def State.kvColumns (s : State) (g : Nat) (a : AttnEnt) (layer : Nat) (t : KvTile) (pg : Nat → Option PageRead) :
    List (List Frac) :=
  let at' := fun (page p : Nat) (v : PageRead → Frac) =>
    match pg page with
    | some d => if s.positionPresent t.ctx layer (128 * page + p) then v d else ⟨0, 1⟩
    | none => ⟨0, 1⟩
  match t with
  | .key _ head page span half =>
    (List.range 64).map (fun o =>
      let p := 64 * half + o
      (List.range 256).map (fun r =>
        let i := 256 * span + r
        if a.keyDim ≤ i then ⟨0, 1⟩
        else at' page p (fun d => s.rotated g a (128 * page + p) i (fun i => a.headVal d p head i))))
  | .value _ head pair block =>
    (List.range 64).map (fun j =>
      (List.range 256).map (fun r =>
        if a.valueDim ≤ 64 * block + j then ⟨0, 1⟩
        else at' (2 * pair + r / 128) (r % 128) (fun d => a.headVal d (r % 128) head (a.valueOff + 64 * block + j))))

/-- The rounded tile: codes by row in full width, its scales, and the spans that rounded to zero. -/
def kvTileOf (kv8 : Bool) (cols : List (List Frac)) : List (List Int) × List Nat × Nat :=
  let r := cols.map (fun c => roundSpan c kv8)
  ((List.range 256).map (fun i => r.map (fun c => c.1.getD i 0)), r.map (·.2.1), (r.filter (·.2.2)).length)

end Sys2Proof.Machine
end

