-- ==== Sys2Proof/Machine/LoadExec.lean ====
section
/-!
DEFINITION. Loading an array (R57 to R60, R69 to R72, R79, R97, R219, R337, R338): LOAD and LOAD_REREAD.
-/

namespace Sys2Proof.Machine

open Sys2Proof

/-- Address of a register of an engine's block. -/
def engReg (c e o : Nat) : Nat := (Blk.eng (coreIx c) (engIx e)).at o

/-- Granules of a tile's outlier list: as the instance's tile directory has it (R97), and as the load names it where the
directory has no entry for the address. -/
def State.listLength (s : State) (d : LoadDesc) : Nat :=
  match (s.core d.core.val).group.bind (fun g => (s.inst g).active) with
  | some x => min 66 ((x.load.dir.get? d.addr).getD d.listGranules)
  | none => min 66 d.listGranules

/-- Granules of a weight tile with its scales and list. -/
def State.tileLength (s : State) (d : LoadDesc) : Nat := d.fmt.bodyGranules + s.listLength d

/-- A granule of weights has been read in the group's tick (R22). -/
def Group.hasRead (x : Group) (a : Nat) : Bool := x.weightsRead.any (fun r => stripeHolds (x.stripeStacks r.1) r.1 r.2 a)

/-- Granule i of a tile of weights that begins at a granule, striped as the loader placed it (R17, R182). -/
def State.weightAt (s : State) (d : LoadDesc) (a i : Nat) : Nat := stripe ((s.groupOf d.core.val).stripeStacks a) a i

/-- Group and attention entry that a key-value tile is formed under. -/
def State.kvEntry (s : State) (d : LoadDesc) : Option (Nat × AttnEnt) :=
  match (s.core d.core.val).group with
  | some g => (s.attnEntry g d.layer).map (fun a => (g, a))
  | none => none

/-- Granules a load reads: the tile's, or those of the resident pages a key or value tile draws on. -/
def State.loadAddrs (s : State) (d : LoadDesc) : List Nat :=
  match d.kv with
  | none => (List.range (s.tileLength d)).map (s.weightAt d d.addr)
  | some t => match s.kvEntry d with
    | none => []
    | some (_, a) => t.pages.flatMap (fun p => match s.pte? t.ctx d.layer p, s.ctx? t.ctx with
        | some e, some c => s.frameGranules c e.frame a.pageGranules
        | _, _ => [])

/-- Read every granule once, with the errors of the first reading. -/
def State.loadRead (s : State) (addrs : List Nat) (errs : List GranErr) : List (Option Nat × Bool) :=
  addrs.zipIdx.map (fun p => s.readOnce p.1 (errsAt errs p.2 false))

/-- A page is found damaged (R219): a record is written, and it leaves its context at the next boundary. -/
def State.pageLost (s : State) (core : Option Nat) (unit : Nat) (grp : Option Nat) (ctx layer page : Nat) : State :=
  if ((s.ctx? ctx).map (fun x => x.dropPages.any (fun d => d.1 == layer && d.2.1 == page))).getD true then s
  else (s.updCtx ctx (fun x => { x with dropPages := x.dropPages ++ [(layer, page, core)] })).error sevError 0x0205
    unit grp (some layer) ctx

/-- A core finds a page damaged. -/
def State.damagePage (s : State) (c ctx layer page : Nat) : State :=
  s.pageLost (some c) (unitCore c) (s.core c).group ctx layer page

/-- Its group's active generation is DAMAGED by a poisoned weight (R337). -/
def State.damageGen (s : State) (g addr : Nat) : State :=
  match (s.inst g).active with
  | none => s
  | some x =>
    if x.damaged then s
    else (s.updInst g (fun i => { i with active := some { x with damaged := true } })).note sevError "generation damaged"
      (unitStack (stackOf addr)) (s.groupInfo g addr)

/-- The tile is abandoned (R60): the array is empty, and the tokens its fires feed carry DEGRADED. -/
def State.abandonTile (s : State) (d : LoadDesc) (addr : Nat) : State :=
  let s1 := s.updArr (arrKey d.core d.eng d.arrB) (fun a => { a with
    phase := .empty, tile := none, cells := [], abandoned := true, lost := some d.fmt, reread := none })
  (s1.degrade d.feeds).error sevError 0x0204 (unitArray d.core.val d.eng.val d.arrB) (s.core d.core.val).group
    (some d.layer) addr

/-- Write a tile's rows into an array under its own repair maps (R57), and into the twin's (R338). -/
def State.writeTile (s : State) (d : LoadDesc) (rows : List (List Int)) (t : Tile) : State :=
  let put := fun (s : State) (k : Nat) => s.updArr k (fun a => { a with
    phase := .loaded, tile := some t, cells := loadCells a.cal d.fmt rows, abandoned := false, lost := none, reread := none })
  let s1 := put s (arrKey d.core d.eng d.arrB)
  let s2 := match (s.groupOf d.core.val).bind.find? (fun p => p.2 == d.core.val) with
    | some p => match (s.groupOf d.core.val).twins.get? p.1 with
      | some k => put s1 (arrKey (coreIx k) d.eng d.arrB)
      | none => s1
    | none => s1
  s2.bump (engReg d.core.val d.eng.val Reg.LOADS) 1

/-- Low codes of the partner of a high tile, as memory holds them. -/
def State.partnerRows (s : State) (d : LoadDesc) : List (List Int) :=
  match decodeTile .mv4 ((List.range WFmt.mv4.bodyGranules).map (fun i => s.granule (s.weightAt d d.partner i))) with
  | some x => x.1
  | none => []

/-- Full weights of an MV8 pair from its high and low codes (R72). -/
def fullWeights (hi lo : List (List Int)) : List (List Int) :=
  List.zipWith (List.zipWith (fun (h l : Int) => 16 * h + l + 8)) hi lo

/-- A weight tile whose granules were all read; each MT row loaded as zeros is recorded (R71). -/
def State.loadWeights (s : State) (d : LoadDesc) (gs : List Nat) : Option State :=
  (decodeTile d.fmt gs).map (fun x =>
    let t : Tile := { fmt := d.fmt, half := d.half, addr := d.addr, granules := gs.length, partner := d.partner, kv := false
                      layer := d.layer, scales := x.2.2.1, listE8 := x.2.2.2.1, list := x.2.2.2.2
                      full := if d.half = .high then fullWeights x.1 (s.partnerRows d) else [], desc := d }
    (if d.fmt = .mt then code10Granules gs else []).foldl (fun (s : State) i =>
      s.error sevError 0x0204 (unitArray d.core.val d.eng.val d.arrB) (s.core d.core.val).group (some d.layer) (s.weightAt d d.addr i))
      (s.writeTile d x.1 t))

/-- Pages of a key or value tile that have been delivered to its core (R206). -/
def State.tilePages (s : State) (d : LoadDesc) (t : KvTile) : List (Nat × PageRead) :=
  t.pages.filterMap (fun p => (s.prefillPage d.core.val t.ctx d.layer p).map (fun x => (p, x.read)))

/-- A key or value tile formed from the pages that the Sluices delivered; damaged pages count as absent. -/
def State.loadKv (s : State) (d : LoadDesc) (t : KvTile) : State :=
  match s.kvEntry d with
  | none => s
  | some (g, a) =>
    let pages := s.tilePages d t
    let bad := fun (p : Nat × PageRead) => a.pageBad p.2 (((s.pte? t.ctx d.layer p.1).map (·.fill)).getD 0)
    let gone := fun (p : Nat) => ((s.ctx? t.ctx).map (fun c =>
      c.dropPages.any (fun x => x.1 == d.layer && x.2.1 == p))).getD false
    let s1 := (pages.filter bad).foldl (fun (s : State) p =>
      (s.damagePage d.core.val t.ctx d.layer p.1).degrade d.feeds) s
    let good := (pages.filter (fun p => !(bad p) && !(gone p.1)))
    let cols := s.kvColumns g a d.layer t (fun p => (good.find? (fun q => q.1 == p)).map (·.2))
    let r := kvTileOf a.kv8 cols
    let part := fun (w : Int) => match d.half with
      | .high => (mv8Split w).1
      | .low => (mv8Split w).2
      | .none => w
    let tile : Tile := { fmt := .mv4, half := d.half, addr := d.addr, granules := 2 * a.pageGranules, partner := 0, kv := true
                         layer := d.layer, scales := r.2.1, listE8 := 0, list := []
                         full := if d.half = .high then r.1 else [], desc := d }
    (s1.writeTile d (r.1.map (fun row => row.map part)) tile).bump ((Blk.se d.core).at Reg.KV_ZERO_SPANS) r.2.2

/-- Granules whose second read was uncorrectable too, or that are still corrupt: each is poisoned, the generation is
damaged, and the tile is abandoned (R60, R337). -/
def State.loseTile (s : State) (d : LoadDesc) (bad : List Nat) : State :=
  (bad.foldl (fun (s : State) a =>
    let s1 := s.poisonGranule a
    match (s.core d.core.val).group with
    | some g => s1.damageGen g a
    | none => s1) s).abandonTile d (bad.headD d.addr)

/-- A load of weights completes with what was read. -/
def State.loadFinish (s : State) (d : LoadDesc) (got : List (Option Nat)) : State :=
  if got.any (·.isNone) then s.abandonTile d d.addr
  else (s.loadWeights d (got.filterMap id)).getD
    (s.loseTile d ((corruptGranules d.fmt (got.filterMap id)).map (s.weightAt d d.addr)))

/-- The reads of a load: weights that the tick has read before come with the stream that delivered them then (R22), and
only a replay's reload reads them again. -/
def State.freshAddrs (s : State) (d : LoadDesc) (again : Bool) : List Nat :=
  let x := ((s.core d.core.val).group.map s.grp).getD Group.init
  (s.loadAddrs d).filter (fun a => again || !(x.hasRead a))

/-- The granules of a weight tile count as read in the tick. -/
def State.markRead (s : State) (d : LoadDesc) : State :=
  match (s.core d.core.val).group with
  | some g => s.updGrp g (fun x => { x with weightsRead := (d.addr, s.tileLength d) :: x.weightsRead })
  | none => s

/-- A load of a weight tile (R57): the granules are read and checked; those uncorrectable at the first reading, or corrupt,
await their re-read (R60, R69, R97). -/
def State.loadTile (s : State) (d : LoadDesc) (errs : List GranErr) (late : Nat) (again : Bool) : State :=
  let addrs := s.loadAddrs d
  let fresh := s.freshAddrs d again
  let r := s.loadRead addrs (errs.filter (fun e => fresh.contains (addrs.getD e.idx 0)))
  let got := r.map (·.1)
  let bad := (got.zipIdx.filter (fun p => p.1.isNone)).map (·.2)
  let corrupt := if bad.isEmpty then corruptGranules d.fmt (got.filterMap id) else []
  let todo := bad ++ corrupt
  let fixed := (addrs.zip r).filter (fun p => p.2.2)
  let s1 := ((s.countReads fresh).markRead d).bump (engReg d.core.val d.eng.val Reg.STALL_CLOCKS) late
  let s2 := fixed.foldl (fun (s : State) p => s.countFixed p.1) s1
  let s3 := (s2.bump (engReg d.core.val d.eng.val Reg.LOAD_CORRECTED) fixed.length).bump
    (engReg d.core.val d.eng.val Reg.LOAD_UNCORRECTABLE) todo.length
  if todo.isEmpty then s3.loadFinish d got
  else s3.updArr (arrKey d.core d.eng d.arrB) (fun a => { a with
    phase := .loading, tile := none, cells := [], abandoned := false, lost := none, reread := some ⟨d, got, todo⟩ })

/-- An array load: of a weight tile, or of a key or value tile from the pages delivered (R57, R213). -/
def State.loadArray (s : State) (d : LoadDesc) (errs : List GranErr) (late : Nat) (again : Bool) : State :=
  match d.kv with
  | some t => (s.bump (engReg d.core.val d.eng.val Reg.STALL_CLOCKS) late).loadKv d t
  | none => s.loadTile d errs late again

/-- The pages of a key or value tile have come, where the walk of its context includes them (R206). -/
def State.pagesCome (s : State) (d : LoadDesc) : Bool :=
  match d.kv, (s.core d.core.val).group with
  | some t, some g => !(t.pages.any (fun p => s.pageAwaited d.core.val g t.ctx d.layer p))
  | _, _ => true

/-- The entry that describes a tile, or its layer, is lost (R412). -/
def State.entryLost (s : State) (d : LoadDesc) : Bool :=
  match (s.core d.core.val).group.bind (fun g => (s.inst g).active) with
  | some x => (d.kv.isNone && x.lostTiles.contains d.addr) || x.lostLayers.contains d.layer
  | none => false

/-- A split or a replay of an array is pending: a load of it waits (R106). -/
def State.arrayBusy (s : State) (k : Nat) : Bool :=
  let e := s.eng (k / 2)
  e.split.any (fun p => arrKey p.op.core p.op.eng p.op.arrB == k)
  || e.replays.any (fun p => arrKey p.op.core p.op.eng p.op.arrB == k)
  || (s.arr k).reread.isSome

/-- What an array may be loaded with now: nothing while it is busy, and MV4 tiles only in compatibility mode (R64). -/
def State.loadOpen (s : State) (d : LoadDesc) : Bool :=
  s.mayIssue d.core.val clsLoad (d.eng.val + 16 * flag d.arrB) && !(s.arrayBusy (arrKey d.core d.eng d.arrB))
  && s.pagesCome d && (s.eng (engKey d.core d.eng)).run.isEmpty && (!(s.compat d.core.val) || decide (d.fmt = .mv4))

/-- Resends of stream reads for a core, which the load path makes where no answer comes (R192): counted, at most four. -/
def State.resendReads (s : State) (c n : Nat) : State :=
  (s.bump (Blk.usher.at Reg.E2E_RESENDS) (min n 4)).bump ((Blk.crt (coreIx c)).at Reg.RESENDS) (min n 4)

/-- The reads of a load are never answered: after four resends they fail, and the load is owed as by a stopped core: its
array stays empty, and every fire on it contributes exact zeros (R191, R192). -/
def State.loadFails (s : State) (d : LoadDesc) : State :=
  let c := d.core.val
  let s1 := s.updArr (arrKey d.core d.eng d.arrB) (fun a => { a with
    phase := .empty, tile := none, cells := [], abandoned := true, lost := some d.fmt, reread := none })
  ((s1.degrade d.feeds).bump (Blk.usher.at Reg.E2E_FAILED) 1).error sevError 0x0301 (unitCore c) (s.core c).group (some d.layer) c

/-- LOAD; the fault of an address beyond the stacks. -/
def execLoad (d : LoadDesc) (errs : List GranErr) (late resends : Nat) (s : State) : Host.Outcome State Fault Refusal :=
  if !(s.loadOpen d) then .next s
  else
    let s1 := s.issue d.core.val clsLoad (d.eng.val + 16 * flag d.arrB)
    if s.entryLost d then .next (s1.abandonTile d d.addr)
    else match (s.loadAddrs d).find? (fun a => decide (deviceGranules ≤ a)) with
      | some a => .fault (.noSuchGranule a)
      | none =>
        let s2 := s1.resendReads d.core.val resends
        .next (if 4 < resends then s2.loadFails d else s2.loadArray d errs late false)

/-- The re-read of the next granule that awaits one (R60, R335): its clocks are charged, and a weight granule that is
uncorrectable again costs the load its tile. -/
def State.reread (s : State) (c e : Nat) (b : Bool) (errs : SymErrs) (stall : Nat) : State :=
  match (s.arr ((c * 16 + e) * 2 + flag b)).reread with
  | none => s
  | some r =>
    match r.todo with
    | [] => s
    | i :: rest =>
      let addr := (s.loadAddrs r.desc).getD i 0
      let again := s.readOnce addr errs
      let s1 := ((s.charge c stall).lastReplay c e b 6 0 false false).bump (engReg c e Reg.STALL_CLOCKS) stall
      let s2 := if again.2 then (s1.countFixed addr).bump (engReg c e Reg.LOAD_CORRECTED) 1 else s1
      let s3 := s2.countReads [addr]
      let got := r.got.set i again.1
      let goOn := fun (s : State) =>
        if rest.isEmpty then s.loadFinish r.desc got
        else s.updArr ((c * 16 + e) * 2 + flag b) (fun a => { a with reread := some ⟨r.desc, got, rest⟩ })
      match again.1 with
      | none =>
        let s4 := s3.bump (engReg c e Reg.LOAD_UNCORRECTABLE) 1
        s4.loseTile r.desc [addr]
      | some _ => goOn s3

end Sys2Proof.Machine
end

