-- ==== Sys2Proof/Machine/FireExec.lean ====
section
/-!
DEFINITION. Fires, splits and replays (R48 to R56, R61 to R64, R105 to R112, R339): what each does to the
engine, the array's statistics and the Cascade.
-/

namespace Sys2Proof.Machine

open Sys2Proof

/-- Key of the array a fire uses. -/
def FireOp.key (op : FireOp) : Nat := arrKey op.core op.eng op.arrB

/-- Zero detection is on (R49, R64). -/
def State.zeroDetect (s : State) (op : FireOp) : Bool :=
  !(s.compat op.core.val) && decide ((s.reg (engReg op.core.val op.eng.val Reg.ENG_CTRL)).toNat % 2 = 1)

def State.engBump (s : State) (op : FireOp) (r n : Nat) : State := s.bump (engReg op.core.val op.eng.val r) n
def State.corBump (s : State) (c r n : Nat) : State := s.bump ((Blk.cor (coreIx c)).at r) n

/-- Fires performed are counted (R65, R126). -/
def State.countFires (s : State) (op : FireOp) (n : Nat) : State :=
  (s.bumpWide (engReg op.core.val op.eng.val Reg.FIRES_LO) n).updEng (engKey op.core op.eng) (fun e => { e with
    fired := e.fired + n })

/-! ### The tests' statistics (R47, R103, R115) -/

/-- A fire offered to the calibration sampler (R115): one in 2^SAMPLE_LOG2 is captured by a run in its span. -/
def State.sampleFire (s : State) (k : Nat) (act : List (Nat × Elem)) (r : FireResult) : State :=
  let a := s.arr k
  let n := a.cal.tested + 1
  let s1 := s.updCal k (fun c => { c with tested := n })
  match a.cal.run with
  | some run =>
    if run.phase = .sampling ∧ n % 2 ^ s.sampleLog = 0 then s1.updCal k (fun c => { c with run := some (run.sample a act r) })
    else s1
  | none => s1

/-- A tested fire enters the drift tracker and the statistics of a run in its span (R47, R117), and its failures are
counted. -/
def State.testFire (s : State) (op : FireOp) (r : FireResult) : State :=
  let s1 := s.updCal op.key (fun c => { c with
    drift := c.drift.account r
    run := c.run.map (fun x => if x.phase = .sampling then x.observe c.drift.mask r else x) })
  let s2 := if r.csFail then s1.engBump op Reg.CHECKSUM_FAILS 1 else s1
  let s3 := if r.refFails.isEmpty then s2 else s2.engBump op Reg.REF_FAILS 1
  if r.csFail ∨ r.refFails ≠ [] then
    let k := r.refFails.headD 0
    let res := if r.csFail then r.csRes else r.refRes.getD k 0
    s3.setReg (engReg op.core.val op.eng.val Reg.LAST_CHECK)
      (word (fieldOfInt 16 (clampInt res (-32767) 32767) + 65536 * flag op.arrB + 131072 * flag (!r.csFail)
        + 262144 * (if r.csFail then 0 else k)))
  else s3

def FireResult.half (r : FireResult) : HalfRes := ⟨r.counts, r.csFail, !r.refFails.isEmpty, r.csRes⟩

/-- Counts of a skipped fire. -/
def zeroHalf (f : WFmt) : HalfRes := ⟨List.replicate f.outs 0, false, false, 0⟩

/-- LAST_WEIR: the lowest flagged column, P where both chains flag. -/
def State.lastWeir (s : State) (op : FireOp) (flags : List (Nat × Bool)) (inSplit : Bool) : State :=
  let f := (sortBy (fun (a b : Nat × Bool) => decide (a.1 < b.1) || (a.1 == b.1 && !a.2 && b.2)) flags).headD (0, false)
  (s.engBump op Reg.WEIR_FLAGS 1).setReg (engReg op.core.val op.eng.val Reg.LAST_WEIR)
    (word (f.1 + 1024 * flag op.arrB + 2048 * flag f.2 + 4096 * flag inSplit))

/-- A core is the twin of another in a redundant group: it runs no Rill (R338). -/
def State.isTwin (s : State) (c : Nat) : Bool :=
  let x := s.groupOf c
  x.redundant && x.twins.any (fun p => p.2 == c)

/-- The member of a fire waits for the Rill for some clocks (R101). -/
def State.rillHold (s : State) (op : FireOp) (n : Nat) : State :=
  if n = 0 || s.isTwin op.core.val then s
  else (s.corBump op.core.val Reg.RILL_HOLD_CLOCKS n).updCore op.core.val (fun k => { k with rillClocks := k.rillClocks + n })

/-- The read of the Rill's store and of the Spillway source of a fire (R332): an uncorrectable one is taken as a
checksum mismatch, recorded, and counted against the core. -/
def State.rillRead (s : State) (op : FireOp) (e : SymErrs) : Bool × State :=
  let c := op.core.val
  let r := eccRead 0 e
  let at' := (Blk.lm op.core).at Reg.RILL_ECC
  if s.isTwin c then (false, s)
  else if r.1.isNone then
    (true, ((s.bumpHi at' 1).error sevError 0x0206 (unitCore c) (s.core c).group (some op.layer) op.entry).countError c 1 2 2)
  else (false, if r.2 then s.bumpLo at' 1 else s)

/-! ### One fire of an array -/

/-- One fire of elements on an array: absent where the Weir flags it (R39, R49). -/
def State.fireOnce (s : State) (op : FireOp) (t : Tile) (elems : List Elem) (env : FireEnv) : Option HalfRes × State :=
  let a := s.arr op.key
  let act := driven elems 0 256
  if act.isEmpty && s.zeroDetect op then (some (zeroHalf t.fmt), s.engBump op Reg.ZERO_SKIPS 1)
  else
    let flags := weirFlags a act ++ env.faults
    let s1 := s.countFires op 1
    if !flags.isEmpty then (none, s1.lastWeir op flags false)
    else
      let r := evaluate a t.fmt t.half act (readings a act env.dev)
      let q := ((s1.sampleFire op.key act r).testFire op r).rillRead op env.store
      (some { r.half with cs := r.half.cs || q.1 }, q.2)

/-- Row-group fires of elements (R52 to R55): the sums of the four partial readings are tested; a Weir flag
in one is an engine fault. Planned ones are offered to the sampler. Of a block of zeros each group counts one
GROUP_SKIPS and the fire no ZERO_SKIPS (DESIGN CHOICE: R53 and Table 2-10 name no counter for it; log 123). -/
def State.fireGroups (s : State) (op : FireOp) (t : Tile) (elems : List Elem) (envs : List FireEnv) (planned : Bool) :
    HalfRes × State :=
  let a := s.arr op.key
  let r := (List.range 4).foldl (fun (acc : List Int × State) g =>
    let act := driven elems (rowGroup g).1 (rowGroup g).2
    let env := envs.getD g FireEnv.clean
    if act.isEmpty && s.zeroDetect op then (acc.1, acc.2.engBump op Reg.GROUP_SKIPS 1)
    else
      let d := groupReadings a act env.dev env.faults
      let s1 := acc.2.countFires op 1
      let s2 := if planned then s1.sampleFire op.key act (evaluate a t.fmt t.half act d) else s1
      let s3 := if env.faults.isEmpty then s2
        else
          let f := (s2.lastWeir op env.faults true).error sevError 0x0102 (unitEngine op.core.val op.eng.val)
            (s.core op.core.val).group (some op.layer) ((env.faults.map (·.1)).foldl min 1023)
          (f.degrade op.feeds).countError op.core.val 2 2 3
      (addLists acc.1 d, s3)) (List.replicate 530 0, s)
  let act := driven elems 0 256
  if act.isEmpty && s.zeroDetect op then (zeroHalf t.fmt, r.2)
  else
    let f := evaluate a t.fmt t.half act r.1
    let q := (r.2.testFire op f).rillRead op (envs.getD 0 FireEnv.clean).store
    ({ f.half with cs := f.half.cs || q.1 }, q.2)

/-- A fire or a nibble half as its step is planned: over all rows, or of a dense step at once in row groups, which
SPLITS_PLANNED counts (R48, R55, R61). -/
def State.fireHalf (s : State) (op : FireOp) (t : Tile) (elems : List Elem) (envs : List FireEnv) : Option HalfRes × State :=
  let s1 := s.rillHold op (envs.headD FireEnv.clean).hold
  if op.dense then
    let r := (s1.engBump op Reg.SPLITS_PLANNED 1).fireGroups op t elems envs true
    (some r.1, r.2)
  else s1.fireOnce op t elems (envs.headD FireEnv.clean)

/-- An unplanned split of a fire or half (R52): its row-group fires, counted, and charged 96 clocks always. -/
def State.splitHalf (s : State) (op : FireOp) (t : Tile) (elems : List Elem) (envs : List FireEnv) : HalfRes × State :=
  let r := s.fireGroups op t elems envs false
  (r.1, ((r.2.engBump op Reg.SPLITS_UNPLANNED 1).charge op.core.val 96).lastReplay op.core.val op.eng.val op.arrB 0 op.tile
    false false)

/-- A fire or half whose split follows at once where the Weir flags it: the first environment is the fire's, the rest
are the split's. -/
def State.fireNow (s : State) (op : FireOp) (t : Tile) (elems : List Elem) (envs : List FireEnv) : HalfRes × State :=
  let r := s.fireHalf op t elems envs
  match r.1 with
  | some h => (h, r.2)
  | none => r.2.splitHalf op t elems (envs.drop 1)

/-! ### Delivery (R84, R85, R100) -/

/-- Counts of a fire from its halves (R61). -/
def Shot.counts (x : Shot) (hi lo : HalfRes) : List Int :=
  if x.pair then List.zipWith (fun (h l : Int) => 16 * h + l) hi.counts lo.counts else lo.counts

/-- A fire's result from its halves: it fails where a half of it fails. -/
def Shot.whole (x : Shot) (hi lo : HalfRes) : HalfRes :=
  let cs := lo.cs || (x.pair && hi.cs)
  ⟨x.counts hi lo, cs, !cs && (lo.ref || (x.pair && hi.ref)), if hi.cs && x.pair then hi.res else lo.res⟩

/-- What the Rill and the alignment need of a fire. -/
def State.fireInput (s : State) (op : FireOp) (t : Tile) (x : Shot) : FireInput :=
  let a := s.arr op.key
  { tile := t
    codes := (List.range 256).map (fun r =>
      if x.extracted.any (fun e => e.1 == r) then
        (if t.half = .high then t.full.getD r [] else (List.range t.fmt.outs).map (cellCode a t.fmt r))
      else [])
    xs := (List.range 256).map (rowVal x.hi x.lo x.pair), e8 := x.e8, extracted := x.extracted }

/-- Change a tile of a core; its flags mark the tick (R93). -/
def State.updTile (s : State) (c t : Nat) (f : CasTile → CasTile) : State :=
  s.updCore c (fun k =>
    let u := f (k.tiles.getD t CasTile.init)
    { k with tiles := k.tiles.put t u, satTick := k.satTick ||| (if u.sat then 2 ^ t else 0)
             uflTick := k.uflTick ||| (if u.ufl then 2 ^ t else 0) })
def State.tile (s : State) (c t : Nat) : CasTile := (s.core c).tiles.getD t CasTile.init

/-- Members of a fire for its tiles, in the windows these have, but for the tiles it skips. -/
def State.members (s : State) (op : FireOp) (t : Tile) (x : Shot) (counts : List Int) : List (Nat × Member × Bool) :=
  ((fireContributions (s.fireInput op t x) counts).zipIdx.map (fun (c, i) =>
    let k := (op.tile + i) % 64
    let m := memberOf op.member c (s.tile op.core.val k).w
    (k, m.1, m.2))).filter (fun p => !(x.skip.contains p.1))

/-- Accumulators of a core's accumulate groups (R63). -/
def accZero : List Int := List.replicate 64 0

/-- The terms that a fire adds to the lanes of an accumulate group (R83, R92). -/
def accTerms (f : FireInput) (counts : List Int) : List Term := counts.zipIdx.map (fun (c, j) => countTerm f c j)

/-- The contribution of a fire arrives: at its tiles, or in compatibility mode at its accumulate group, whose
lanes carry the exponent of the last term added (log 117). A fifth add before a drain adds like the others: R63 names
no check of its limit of four, and the lanes grow without bound (DESIGN CHOICE, log 124). -/
def State.deliverFire (s : State) (op : FireOp) (t : Tile) (x : Shot) (counts : List Int) : State :=
  let c := op.core.val
  if s.compat c then
    let ts := accTerms (s.fireInput op t x) counts
    s.updCore c (fun k => { k with
      acc := k.acc.upd (op.eng.val / 4) accZero (fun a => addLists a (ts.map (·.i)))
      accExp := k.accExp.upd (op.eng.val / 4) accZero (fun e =>
        List.zipWith (fun (t : Term) (old : Int) => if t.i = 0 then old else t.p) ts e) })
  else
    let s1 := s.corBump c Reg.RILL_WENTRIES (listApplied (s.fireInput op t x))
    (s.members op t x counts).foldl (fun (s : State) m =>
      let s2 := s.updTile c m.1 (fun u => u.arrive m.2.1 m.2.2)
      if m.2.2 then s2.bump ((Blk.cas (coreIx c)).at Reg.UFL_DROPS) 1 else s2) s1

/-- An entry of nothing: rows that hold no element are magnitude 0 (R50). -/
def BufEntry.empty : BufEntry :=
  { elems := List.replicate 256 (false, 0), e8 := 0, zero := true, groupZero := List.replicate 4 true, clamped := false
    wide := false, nibble := .whole, extracted := [], src := 0, rho := 0 }

def State.entry (s : State) (op : FireOp) : BufEntry := (s.eng (engKey op.core op.eng)).buf.getD op.entry BufEntry.empty

/-- The fire of an entry joins the step of its tiles (R107); on an array above the extrapolation bound it degrades the
tokens it feeds (R128). -/
def State.joinStep (s : State) (op : FireOp) (b : BufEntry) (outs : Nat) (t : Option Tile) : State :=
  let s := if (s.arr op.key).cal.aboveBound then s.degrade op.feeds else s
  (List.range (outs / 64)).foldl (fun (s : State) i => s.updTile op.core.val ((op.tile + i) % 64) (fun u => { u with
    step := u.step ++ [op], stepTiles := u.stepTiles ++ [(t.map (·.desc), b)] })) s

/-! ### The end of a fire -/


/-- A mark among a core's counted errors that does not expire: the class-1 run asked for an array. -/
def noExpiry : Nat := 2 ^ 60

/-- A replay whose result fails again is used (R108): counted, recorded, and charged to its array. -/
def State.failAgain (s : State) (op : FireOp) (cause : Nat) (res : Int) : State :=
  let c := op.core.val
  let s1 := (s.corBump c Reg.REPLAY_FAILS 1).error sevWarn 0x0101 (unitArray c op.eng.val op.arrB) (s.core c).group
    (some op.layer) (fieldOfInt 32 res)
  let s2 := (s1.degrade op.feeds).lastReplay c op.eng.val op.arrB cause op.tile false true
  let kind := 1000 + op.key
  let now := s2.opS
  let s3 := s2.updCore c (fun k => { k with
    errors := (k.errors.filter (fun e => decide (now < e.2 + 60))) ++ [(kind, now)] })
  let n := ((s3.core c).errors.filter (fun e => e.1 == kind)).length
  if n < 4 then s3
  else
    let drop := fun (s : State) => s.updCore c (fun k => { k with errors := k.errors.filter (fun e => e.1 != kind) })
    let cal := (s3.arr op.key).cal
    match (s3.core c).errors.find? (fun e => e.1 == 5000 + op.key) with
    | none => ((drop s3).updCore c (fun k => { k with errors := (5000 + op.key, now + noExpiry) :: k.errors })).requestRun op.key 1
    | some e =>
      if cal.run.isNone ∧ e.2 - noExpiry ≤ cal.lastCommit ∧ cal.lastCommit ≠ 0 then (drop s3).fence c 3 else s3

/-- Cascade tiles that a fire contributes to (R43). -/
def FireOp.tiles (op : FireOp) (outs : Nat) : List Nat := (List.range (outs / 64)).map (fun i => (op.tile + i) % 64)

/-- A step replay is pending for every step the fire is a member of, so that a fire replay is dropped (R107). -/
def State.stepsPend (s : State) (op : FireOp) (outs : Nat) (skip : List Nat) : Bool :=
  (op.tiles outs).all (fun k => skip.contains k || (s.tile op.core.val k).pending.isSome)

/-- Compare a fire with its twin's (R339): the first output whose counts differ by more than the bound. -/
def twinMismatch (f : WFmt) (pair : Bool) (a b : List Int) : Option Nat :=
  let tol : Nat := (match f with
    | .mv4 => 16
    | .mv2 => 8
    | .mt => 4) * (if pair then 17 else 1)
  (List.range f.outs).find? (fun j => decide (tol < (a.getD j 0 - b.getD j 0).natAbs))

/-- A twin mismatch is counted and recorded (R339). -/
def State.twinWarn (s : State) (op : FireOp) (j : Nat) : State :=
  (s.bump (Blk.err.at Reg.TWIN_MISMATCHES) 1).error sevWarn 0x0105
    (unitArray op.core.val op.eng.val op.arrB) (s.core op.core.val).group (some op.layer) j

/-- A fire's result awaits a replay. -/
def State.queueReplay (s : State) (p : PendingReplay) : State :=
  s.updEng (engKey p.op.core p.op.eng) (fun e => { e with replays := e.replays ++ [p] })

/-- Both halves of a fire are there, and its twin's result: a first fire that fails its tests or departs from its
twin awaits its replay, unless a step replay is pending for it, and anything else is delivered. A replay that departs
from its twin is used, with DEGRADED (log 125). -/
def State.fireDone (s : State) (op : FireOp) (t : Tile) (b : BufEntry) (x : Shot) (hi lo : HalfRes) (twin : Option HalfRes)
    (replay : Option Nat) : State :=
  let w := x.whole hi lo
  let miss := twin.bind (fun h => (twinMismatch t.fmt x.pair w.counts h.counts).map (fun j => (h.counts, j)))
  let s0 := match miss with
    | some m => s.twinWarn op m.2
    | none => s
  match replay with
  | some cause =>
    let s1 := (if miss.isSome then s0.degrade op.feeds else s0).deliverFire op t x w.counts
    if w.cs || w.ref then s1.failAgain op cause w.res else s1
  | none =>
    if s0.stepsPend op t.fmt.outs x.skip then s0.deliverFire op t x w.counts
    else match miss with
      | some m => s0.queueReplay ⟨op, 7, b, x, w, m.1⟩
      | none =>
        if w.cs || w.ref then s0.queueReplay ⟨op, if w.cs then 2 else 3, b, x, w, []⟩ else s0.deliverFire op t x w.counts

/-- Twin of a core in a redundant group. -/
def State.twinOf (s : State) (c : Nat) : Option Nat :=
  let x := s.groupOf c
  if x.redundant then (x.bind.find? (fun p => p.2 == c)).bind (fun p => x.twins.get? p.1) else none

/-- A shot fired to its end, splits included. -/
def State.fireThrough (s : State) (op : FireOp) (t : Tile) (x : Shot) (env : PairEnv) : HalfRes × State :=
  let h := if x.pair then s.fireNow op t x.hi env.hi else (zeroHalf t.fmt, s)
  let l := h.2.fireNow op t x.lo env.lo
  (x.whole h.1 l.1, if x.pair then l.2.engBump op Reg.NIBBLE_PAIRS 1 else l.2)

/-- The twin of a core fires what the core fires (R338); none where the group is not redundant. -/
def State.twinFire (s : State) (op : FireOp) (t : Tile) (x : Shot) (env : PairEnv) : Option HalfRes × State :=
  match s.twinOf op.core.val with
  | none => (none, s)
  | some c =>
    let r := s.fireThrough { op with core := coreIx c } t x env
    (some r.1, r.2)

/-- Fire a shot, on the twin too: halves that the Weir flags await their split. -/
def State.fireShot (s : State) (op : FireOp) (t : Tile) (b : BufEntry) (x : Shot) (env twin : PairEnv) (replay : Option Nat) :
    State :=
  let h := if x.pair then s.fireHalf op t x.hi env.hi else (some (zeroHalf t.fmt), s)
  let l := h.2.fireHalf op t x.lo env.lo
  let w := (if x.pair then l.2.engBump op Reg.NIBBLE_PAIRS 1 else l.2).twinFire op t x twin
  match h.1, l.1 with
  | some a, some c => w.2.fireDone op t b x a c w.1 replay
  | _, _ => w.2.updEng (engKey op.core op.eng) (fun e => { e with
      splitActive := true, split := e.split ++ [⟨op, b, x, h.1, l.1, w.1, replay⟩] })

/-- An entry as one fire presents it. -/
def BufEntry.shot (b : BufEntry) : Shot := ⟨false, [], b.elems, b.e8, b.extracted, []⟩

/-- The AS8 block whose high and low halves stand in two entries (R61), and the pair as its fires present it. -/
def BufEntry.paired (b l : BufEntry) : BufEntry :=
  { b with nibble := .whole, elems := List.zipWith (fun (h l : Elem) => (h.1, 16 * h.2 + l.2)) b.elems l.elems }
def BufEntry.pairShot (b l : BufEntry) : Shot := ⟨true, b.elems, l.elems, b.e8, b.extracted, []⟩

/-- High and low halves of AS8 elements (R61). -/
def highElems (l : List Elem) : List Elem := l.map (fun e => (e.1, e.2 / 16))
def lowElems (l : List Elem) : List Elem := l.map (fun e => (e.1, e.2 % 16))

/-- A block whose source was not finite asks for a step replay of each step that fires it (R77, R108); compatibility
mode has none (R112). -/
def State.nonFinite (s : State) (op : FireOp) (b : BufEntry) (outs : Nat) : State :=
  if !b.clamped || s.compat op.core.val then s
  else (List.range (outs / 64)).foldl (fun (s : State) i => s.updTile op.core.val ((op.tile + i) % 64) (fun u => { u with
    pending := if u.replayed || u.pending.isSome then u.pending else some 5 })) s

/-- A fire planned on an array without its tile is skipped and contributes exactly 0 to each tile that the tile's
format gives it (R60). -/
def State.fireEmpty (s : State) (op : FireOp) (b : BufEntry) : State :=
  let outs := ((s.arr op.key).lost.map WFmt.outs).getD 64
  let s1 := s.degrade op.feeds
  if s.compat op.core.val then s1
  else (op.tiles outs).foldl (fun (s : State) k => s.updTile op.core.val k (fun u =>
    u.arrive ⟨op.member, List.replicate 64 0, []⟩ false)) (s1.joinStep op b outs none)

/-- A planned fire of a block on the array's tile: a wide block waits to be issued as a nibble pair (R105, R106). -/
def State.fireBlock (s : State) (op : FireOp) (b : BufEntry) (x : Shot) (env twin : PairEnv) : State :=
  match (s.arr op.key).tile with
  | none => s.fireEmpty op b
  | some t =>
    let s1 := (s.joinStep op b t.fmt.outs (some t)).nonFinite op b t.fmt.outs
    if b.wide && !x.pair then s1.queueReplay ⟨op, 1, b, b.shot, zeroHalf t.fmt, []⟩
    else s1.fireShot op t b x env twin none

/-- FIRE (R48), or of a dense step FIRE_DENSE (R55). -/
def State.fire (s : State) (op : FireOp) (env : List FireEnv) (twin : PairEnv) : State :=
  s.fireBlock op (s.entry op) (s.entry op).shot ⟨[], env⟩ twin

/-- FIRE_PAIR (R61): the high half in the entry named, the low half in the next, entry 63 being followed by entry 0. -/
def State.firePair (s : State) (op : FireOp) (env twin : PairEnv) : State :=
  let l := s.entry { op with entry := (op.entry + 1) % 64 }
  s.fireBlock op ((s.entry op).paired l) ((s.entry op).pairShot l) env twin

/-- Record part of a fire: its array. -/
def FireOp.part (op : FireOp) : Nat := op.eng.val + 16 * flag op.arrB

/-- An engine takes its next planned fire: no split or replay of it is pending (R52, R106), no expert run is in progress
on it, the array is not loading (R58), and no operation of its tiles is held before it (R89). -/
def State.fireOpen (s : State) (op : FireOp) : Bool :=
  let e := s.eng (engKey op.core op.eng)
  let a := s.arr op.key
  let outs := ((a.tile.map (·.fmt)).orElse (fun _ => a.lost)).map WFmt.outs
  e.split.isEmpty && e.replays.isEmpty && e.run.isEmpty && decide (a.phase ≠ .loading)
  && (op.tiles (outs.getD 64)).all (fun k => (s.tile op.core.val k).held.isEmpty)

/-- A fire's record issues and its fire is performed. -/
def State.fireOp (s : State) (op : FireOp) (cls : Nat) (act : State → State) : State :=
  if s.fireOpen op then s.planOp op.core.val cls op.part act else s

/-- FIRE. -/
def execFire (op : FireOp) (env : FireEnv) (twin : PairEnv) (s : State) : Host.Outcome State Fault Refusal :=
  .next (s.fireOp op clsFire (fun s => s.fire { op with dense := false } [env] twin))

/-- FIRE_PAIR. -/
def execFirePair (op : FireOp) (env twin : PairEnv) (s : State) : Host.Outcome State Fault Refusal :=
  .next (s.fireOp op clsFirePair (fun s => s.firePair op env twin))

/-- FIRE_DENSE. -/
def execFireDense (op : FireOp) (env : List FireEnv) (twin : PairEnv) (s : State) : Host.Outcome State Fault Refusal :=
  .next (s.fireOp op clsFireDense (fun s => s.fire { op with dense := true } env twin))

/-! ### Splits (R52) -/

/-- The next half that awaits its split is fired in four row groups; 96 clocks are charged, always. -/
def State.splitNext (s : State) (c e : Nat) (envs : List FireEnv) : State :=
  let k := c * 16 + e
  match (s.eng k).split with
  | [] => s
  | p :: rest =>
    match (s.arr p.op.key).tile with
    | none => s.updEng k (fun q => { q with split := rest, splitActive := !rest.isEmpty })
    | some t =>
      let high := p.hi.isNone
      let r := s.splitHalf p.op t (if high then p.shot.hi else p.shot.lo) envs
      let hi := if high then some r.1 else p.hi
      let lo := if high then p.lo else some r.1
      match hi, lo with
      | some a, some b =>
        (r.2.updEng k (fun q => { q with split := rest, splitActive := !rest.isEmpty })).fireDone p.op t p.ent p.shot a b p.twin
          p.replay
      | _, _ => r.2.updEng k (fun q => { q with split := { p with hi := hi, lo := lo } :: rest })

/-! ### Fire replays and wide fires (R105, R106, R110, R112) -/

/-- FP32 source of an entry: what the Spillway holds, else the exact values its record stands for (R106). -/
def State.sourceOf (s : State) (c : Nat) (b : BufEntry) : List Num :=
  match (s.core c).sources.get? b.src with
  | some v => v
  | none => recordValues
      { elems := b.elems, e8 := b.e8, zero := b.zero, flushed := false, clamped := b.clamped
        extracted := b.extracted.map (fun x => (x.1, numOfFp x.2)), exceeded := false }

/-- A block re-quantised to AS8 as a nibble pair. -/
def wideShot (vs : List Num) (rho : Nat) : Shot :=
  let q := quantise vs rho true false
  ⟨true, highElems q.elems, lowElems q.elems, q.e8, q.extracted.map (fun x => (x.1, fpOfNum x.2)), []⟩

/-- A block in AS4 with its 8 largest candidates extracted: what a refused wide fire uses (Table 4-5). -/
def narrowShot (vs : List Num) (rho : Nat) : Shot :=
  let q := quantise vs rho false false
  ⟨false, [], q.elems, q.e8, q.extracted.map (fun x => (x.1, fpOfNum x.2)), []⟩

/-- Clocks of a replay (Table 4-4, R112). -/
def replayCost (cause : Nat) (compat : Bool) : Nat := if compat ∨ cause = 1 then 24 else 48

/-- Both arrays of a twin mismatch fire again (R339). -/
def State.twinReplay (s : State) (p : PendingReplay) (t : Tile) (env twin : PairEnv) : State :=
  let a := s.fireThrough p.op t p.shot env
  let b := a.2.twinFire p.op t p.shot twin
  let q := b.1.getD a.1
  let agree := (twinMismatch t.fmt p.shot.pair a.1.counts q.counts).isNone
  let far := fun (x y : List Int) => ((List.range t.fmt.outs).map (fun j => (x.getD j 0 - y.getD j 0).natAbs)).foldl max 0
  let mine := if agree then decide (far p.twin q.counts ≤ far p.first.counts a.1.counts)
    else decide (q.res.natAbs ≤ a.1.res.natAbs)
  let s1 := b.2.deliverFire p.op t p.shot a.1.counts
  let s2 := if agree then s1 else s1.degrade p.op.feeds
  let who := if mine then p.op.core.val else (s.twinOf p.op.core.val).getD p.op.core.val
  let s3 := s2.countError who (3000 + p.op.eng.val * 2 + flag p.op.arrB) 8 9
  if a.1.cs || a.1.ref then s3.failAgain p.op 0 a.1.res else s3

/-- A replay is served: its fires, on the entry that was fired (R106). The cause of a twin mismatch shows as 0 in
LAST_REPLAY, for which Table 4-6 has no code (DESIGN CHOICE, log 126). -/
def State.replayServed (s : State) (c e : Nat) (p : PendingReplay) (t : Tile) (env twin : PairEnv) : State :=
  let s1 := ((s.corBump c Reg.FIRE_REPLAYS 1).markReplayed p.op.feeds).lastReplay c e p.op.arrB (p.cause % 7) p.op.tile
    false false
  if p.cause = 7 then s1.twinReplay p t env twin
  else if s.compat c then s1.fireShot p.op t p.ent p.shot env twin (some p.cause)
  else s1.fireShot p.op t p.ent { wideShot (s.sourceOf c p.ent) p.ent.rho with skip := p.shot.skip } env twin (some p.cause)

/-- A replay is refused (Table 4-5). -/
def State.replayRefused (s : State) (c e : Nat) (p : PendingReplay) (t : Tile) (env twin : PairEnv) : State :=
  let s1 := (s.degrade p.op.feeds).lastReplay c e p.op.arrB (p.cause % 7) p.op.tile true false
  if p.cause = 1 then
    s1.fireShot p.op t p.ent { narrowShot (s.sourceOf c p.ent) p.ent.rho with skip := p.shot.skip } env twin none
  else s1.deliverFire p.op t p.shot p.first.counts

/-- A pending fire replay is to be asked for: a step replay does not stand for it on all of its tiles (R107). -/
def State.replayStands (s : State) (p : PendingReplay) : Bool :=
  !(s.stepsPend p.op (((s.arr p.op.key).tile.map (·.fmt.outs)).getD 64) p.shot.skip)

/-- The replay of a core whose turn it is, if any (R109): none before the splits of its engines; the one that waits for
a top-up; else the fire replays by engine, array A before array B, and after them the step replays by tile. Those pending
together are taken to have arisen together (DESIGN CHOICE, log 127). A fire replay is named by its array, a step replay
by 32 plus its tile. -/
def State.nextReplay (s : State) (c : Nat) : Option Nat :=
  if (List.range 16).any (fun e => !(s.eng (c * 16 + e)).split.isEmpty) then none
  else
    let fires := (List.range 32).filter (fun a =>
      (s.eng (c * 16 + a / 2)).replays.any (fun p => p.op.key == c * 32 + a && s.replayStands p))
    let steps := ((List.range 64).filter (fun t => (s.tile c t).pending.isSome)).map (· + 32)
    let all := fires ++ steps
    match (s.core c).waitsFor.filter all.contains with
    | some w => some w
    | none => all.head?

/-- The next replay of an engine, if it is its turn, is asked for: served, refused with the outcome of Table 4-5, or
held, and holding the later ones back. -/
def State.replayNext (s : State) (c e : Nat) (env twin : PairEnv) : State :=
  match s.nextReplay c with
  | none => s
  | some w =>
    match (s.eng (c * 16 + e)).replays.find? (fun p => p.op.key == c * 32 + w && s.replayStands p) with
    | none => s
    | some p =>
      match (s.arr p.op.key).tile with
      | none => s.updEng (c * 16 + e) (fun q => { q with replays := q.replays.erase p })
      | some t =>
        let g := s.askReplay c (replayCost p.cause (s.compat c))
        let s1 := (g.2.updEng (c * 16 + e) (fun q => { q with replays := q.replays.erase p })).updCore c (fun k => { k with
          waitsFor := none })
        match g.1 with
        | .waits => g.2.updCore c (fun k => { k with waitsFor := some w })
        | .served => s1.replayServed c e p t env twin
        | .refused => s1.replayRefused c e p t env twin

end Sys2Proof.Machine
end

