-- ==== Sys2Proof/Machine/LocalMem.lean ====
section
/-!
DEFINITION. The bytes of local memories and of the Basins' regions (R138, R173, R188): nothing of them outlives a tick.
-/

namespace Sys2Proof.Machine

open Sys2Proof

/-- Number of a memory: cores, then the Basins by group and cluster. -/
def memNum : MemUnit → Nat
  | .core c => c.val
  | .basin g c => 576 + 32 * g.val + c.val

/-- Group whose regions a memory holds. -/
def State.memGroup (s : State) : MemUnit → Option Nat
  | .core c => (s.core c.val).group
  | .basin g _ => some g.val

/-- A byte that nothing has written in the tick (R188; log 15). -/
def State.undefinedByte (s : State) (u : MemUnit) (off : Nat) : Byte :=
  match s.memGroup u with
  | some g => Config.undefinedByte g (s.grp g).memTicks (memNum u * 2 ^ 25 + off)
  | none => Config.undefinedByte 12 0 (memNum u * 2 ^ 25 + off)

/-- What has been written at a byte of a memory in the tick. -/
def State.memAt? (s : State) (u : MemUnit) (off : Nat) : Option Byte :=
  match u with
  | .core c => (s.core c.val).lmem.get? off
  | .basin _ _ => s.basin.get? (memNum u * 2 ^ 25 + off)

def State.memAt (s : State) (u : MemUnit) (off : Nat) : Byte := (s.memAt? u off).getD (s.undefinedByte u off)

/-- Bytes of a memory. -/
def putBytes (t : Tbl Byte) (off : Nat) (bytes : List Byte) : Tbl Byte :=
  bytes.zipIdx.foldl (fun (t : Tbl Byte) p => t.put (off + p.2) p.1) t
def State.putMem (s : State) (u : MemUnit) (off : Nat) (bytes : List Byte) : State :=
  match u with
  | .core c => s.updCore c.val (fun k => { k with lmem := putBytes k.lmem off bytes })
  | .basin _ _ => { s with basin := putBytes s.basin (memNum u * 2 ^ 25 + off) bytes }
def State.getMem (s : State) (u : MemUnit) (off n : Nat) : List Byte :=
  (List.range n).map (fun i => s.memAt u (off + i))

/-- A memory acts: its core runs, or its Basin has a clock (R191, R303, R312, R361). -/
def State.memRuns (s : State) : MemUnit → Bool
  | .core c => s.unitRuns c.val
  | .basin _ c => !s.clocks.allGated && !(s.mon (c.val / 8)).lost

/-- Granules of a core's local memory, 32 bytes each, from an offset. -/
def State.localGranules (s : State) (c : CoreIx) (off n : Nat) : List Granule :=
  (List.range n).map (fun i => Crypto.natLE (s.getMem (.core c) (off + 32 * i) 32))

/-! ### Owed data and regions (R138, R191, R192) -/

/-- Tokens of every sequence of a group carry DEGRADED: a stopped core owes to all of a tick's steps (R191). -/
def State.degradeGroup (s : State) (g : Nat) : State :=
  s.degrade ((s.reqs.filter (fun r => r.group == g)).filterMap (·.slot))

/-- Tokens of a core's group carry DEGRADED. -/
def State.degradeCore (s : State) (c : Nat) : State :=
  match (s.core c).group with
  | some g => s.degradeGroup g
  | none => s

/-- A memory's core as a record names it; 0xFFFFFFFF for a Basin. -/
def memCoreNum : MemUnit → Nat
  | .core c => c.val
  | .basin _ _ => 0xFFFFFFFF

/-- Unit of the records of a memory's faults. -/
def memErrUnit : MemUnit → Nat
  | .core c => unitCore c.val
  | .basin _ c => unitCluster c.val

/-- Tokens of the group whose regions a memory holds carry DEGRADED. -/
def State.degradeMem (s : State) (u : MemUnit) : State :=
  match s.memGroup u with
  | some g => s.degradeGroup g
  | none => s

/-- A place in memory is the one that an operand of a record names: an offset in a region that the binding placed (R138). -/
def regionIs (regions : Tbl RegionAt) (region : Option Nat) (regionOff : Nat) (u : MemUnit) (off : Nat) : Bool :=
  match region with
  | none => true
  | some i => match regions.get? i with
    | none => false
    | some r => off == 32 * r.base + regionOff && (match u with
      | .core c => r.kind == 0 && r.unit == c.val
      | .basin _ c => r.kind == 1 && r.unit == c.val)

/-- Bytes of memory that lie in a region that the binding placed. -/
def regionHolds (regions : Tbl RegionAt) (region : Option Nat) (u : MemUnit) (off n : Nat) : Bool :=
  match region with
  | none => true
  | some i => match regions.get? i with
    | none => false
    | some r => decide (32 * r.base ≤ off) && decide (off + n ≤ 32 * (r.base + r.size)) && (match u with
      | .core c => r.kind == 0 && r.unit == c.val
      | .basin _ c => r.kind == 1 && r.unit == c.val)

end Sys2Proof.Machine
end

