-- ==== Sys2Proof/Machine/CasExec.lean ====
section
/-!
DEFINITION. The Cascade's operations, step replays, the input quantiser and the accumulate groups (R63, R75 to
R77, R85 to R92, R98, R99, R105 to R109).
-/

namespace Sys2Proof.Machine

open Sys2Proof

def State.casBump (s : State) (c r n : Nat) : State := s.bump ((Blk.cas (coreIx c)).at r) n

/-- Sequence slots that a step feeds. -/
def CasTile.feeds (t : CasTile) : List Nat := (t.step.flatMap (·.feeds)).eraseDups

/-- Cascade tiles that a fire still contributes to. -/
def State.reach (s : State) (op : FireOp) (x : Shot) : List Nat :=
  (op.tiles (((s.arr op.key).tile.map (·.fmt.outs)).getD 64)).filter (fun k => !(x.skip.contains k))

/-- Contributions to a tile are outstanding: a split or a replay awaits, so that operations on it are held
(R89). -/
def State.tileHeld (s : State) (c t : Nat) : Bool :=
  (List.range 16).any (fun e =>
    let q := s.eng (c * 16 + e)
    q.split.any (fun p => (s.reach p.op p.shot).contains t) || q.replays.any (fun p => (s.reach p.op p.shot).contains t))

/-- Groups added are counted; a tile that saturates asks for its step replay, or, after it, its tokens carry
DEGRADED (R86, R105, R108). -/
def State.added (s : State) (c t n lanes : Nat) (u : CasTile) : State :=
  let fresh := decide (lanes ≠ 0)
  let u1 := if fresh && !u.replayed && u.pending.isNone then { u with pending := some 4 } else u
  let s1 := (s.updTile c t (fun _ => u1)).casBump c Reg.SAT_EVENTS lanes
  let s2 := s1.bumpWide ((Blk.cas (coreIx c)).at Reg.CONTRIB_LO) n
  if fresh && u.replayed then s2.degrade u.feeds else s2

/-- Close the open groups of a tile. -/
def State.closeTile (s : State) (c t : Nat) : State :=
  let r := (s.tile c t).close
  s.added c t r.2.1 r.2.2 r.1

/-- Vector register of a core. -/
def State.vreg (s : State) (c : Nat) (r : VReg) : List Word := (s.core c).vreg.getD r []
def State.setVreg (s : State) (c : Nat) (r : VReg) (v : List Word) : State :=
  s.updCore c (fun k => { k with vreg := k.vreg.put r v })

/-- An uncorrectable error of a tile sets its SAT flag (R88). -/
def State.badTile (s : State) (c t n : Nat) : State :=
  let u := s.tile c t
  let s1 := s.updTile c t (fun u => { u with
    sat := true, pending := if u.replayed || u.pending.isSome then u.pending else some 4 })
  let s2 := (s1.bumpHi ((Blk.cas (coreIx c)).at Reg.TILE_ECC) n).error sevError 0x0206 (unitCore c) (s.core c).group none t
  let s3 := s2.countError c 1 2 2
  if u.replayed then s3.degrade u.feeds else s3

/-- The checked read of a tile's 24 granules, with the errors of some of them (R88): corrected ones are counted. -/
def State.readTile (s : State) (c t : Nat) (errs : List (Nat × SymErrs)) : State :=
  let r := (List.range 24).map (fun i => eccRead 0 (((errs.find? (fun e => e.1 == i)).map (·.2)).getD []))
  let bad := (r.filter (·.1.isNone)).length
  let s1 := s.bumpLo ((Blk.cas (coreIx c)).at Reg.TILE_ECC) (r.filter (·.2)).length
  if bad = 0 then s1 else s1.badTile c t bad

/-! ### Operations on a tile, and those held (R89, R107) -/

/-- Sources that the Spillway still holds (R106): those of a buffer entry of the core, of an open step, or of a fire that
awaits its split or replay. -/
def State.dropSources (s : State) (c : Nat) : State :=
  let engs := (List.range 16).map (fun e => s.eng (c * 16 + e))
  let used := engs.flatMap (fun e => e.buf.map (·.2.src) ++ e.split.map (·.ent.src) ++ e.replays.map (·.ent.src))
    ++ (s.core c).tiles.flatMap (fun t => t.2.stepTiles.map (·.2.src))
  s.updCore c (fun k => { k with sources := k.sources.filter (fun p => used.contains p.1) })

/-- The step of a tile has closed: its members, merges and replay are past (R85, R107, R108). -/
def State.endStep (s : State) (c t : Nat) : State :=
  (s.updTile c t (fun u => { u with step := [], stepTiles := [], merged := [], formed := 0, replayed := false })).dropSources c

/-- Bytes of drained values in local memory: FP32, or BF16, the upper half of it. -/
def drainBytes (bf16 : Bool) (v : List Word) : List Byte :=
  v.flatMap (fun w => if bf16 then Crypto.bytesLE 2 (w.toNat / 65536) else Crypto.bytesLE 4 w.toNat)

/-- DRAIN of a closed tile (R90, Table 3-8). -/
def State.drainTile (s : State) (c t : Nat) (factors : Option VReg) (bf16 toMemory : Bool) (dst : Nat) : State :=
  let r := (s.tile c t).drain ((factors.map (s.vreg c)).getD []) bf16
  let s1 := if toMemory then s.putMem (.core (coreIx c)) dst (drainBytes bf16 r.1) else s.setVreg c dst r.1
  (s1.casBump c Reg.DRAIN_OVF r.2).endStep c t

/-- EXPORT of a closed tile: the raw lanes leave for a tile of another core; a stopped core refuses them (R191). -/
def State.sendTile (s : State) (c t dstCore dstTile : Nat) : State :=
  if (s.core dstCore).stopped then (s.bump ((Blk.crt (coreIx dstCore)).at Reg.FENCE_NACKS) 1).endStep c t
  else (s.updCore dstCore (fun k => { k with exports := k.exports ++ [⟨c, t, dstTile, (s.tile c t).toExport⟩] })).endStep c t

/-- MERGE of an export that has arrived into a closed tile; one of another window is no legal operation (R91). -/
def State.takeExport (s : State) (c t srcCore srcTile : Nat) : State :=
  match (s.core c).exports.find? (fun e => e.srcCore == srcCore && e.srcTile == srcTile && e.dstTile == t) with
  | none => s
  | some e =>
    if e.exp.w ≠ (s.tile c t).w then s
    else
      let r := (s.tile c t).merge e.exp
      let s1 := (s.updCore c (fun k => { k with exports := k.exports.erase e })).casBump c Reg.MERGES 1
      let u := if e.exp.sat && !r.1.replayed && r.1.pending.isNone then { r.1 with pending := some 4 } else r.1
      let s2 := s1.added c t r.2.1 r.2.2 u
      if e.exp.sat && u.replayed then s2.degrade u.feeds else s2

/-- An operation of a tile whose contributions have all been added. -/
def State.performTileOp (s : State) (c t : Nat) : TileOp → State
  | .clear w g => (s.updTile c t (fun u => { CasTile.clear w g with held := u.held })).dropSources c
  | .drain factors bf16 toMemory dst => s.drainTile c t factors bf16 toMemory dst
  | .send dstCore dstTile => s.sendTile c t dstCore dstTile
  | .take srcCore srcTile => s.takeExport c t srcCore srcTile

/-- Every contribution that has arrived is added before an operation: of a clear the groups that are full, of a closing
operation the open group too. A clear drops the members of a group that is not full (DESIGN CHOICE: the spec closes an
open group at a drain, an export and a merge only; log 128). -/
def State.addBefore (s : State) (c t : Nat) : TileOp → State
  | .clear _ _ => (((s.tile c t).openGroups).filter (s.tile c t).groupFull).foldl (fun (s : State) n =>
      let r := (s.tile c t).sumGroup n
      s.added c t r.2.1 r.2.2 r.1) s
  | _ => s.closeTile c t

/-- The first operation held on a tile is performed, unless contributions or a step replay hold it. -/
def State.nextHeld (s : State) (c t : Nat) : State :=
  match (s.tile c t).held with
  | [] => s
  | o :: rest =>
    if s.tileHeld c t || (s.tile c t).pending.isSome then s
    else
      let s1 := s.addBefore c t o
      if (s1.tile c t).pending.isSome then s1
      else (s1.updTile c t (fun u => { u with held := rest })).performTileOp c t o

/-- Operations held on a tile go on as far as nothing holds them. -/
def State.releaseTile (s : State) (c t : Nat) : State :=
  (s.tile c t).held.foldl (fun (s : State) _ => s.nextHeld c t) s

/-- Operations held on the tiles of a core go on. -/
def State.releaseTiles (s : State) (c : Nat) : State :=
  (s.core c).tiles.foldl (fun (s : State) p => s.releaseTile c p.1) s

/-- An operation of the plan on a tile: the tile is read, and the operation is performed as soon as nothing holds it;
clocks lost to the hold are counted (R89, R168). -/
def State.tileOp (s : State) (c t : Nat) (o : TileOp) (errs : List (Nat × SymErrs)) (hold : Nat) : State :=
  let s1 := ((s.readTile c t errs).updTile c t (fun u => { u with held := u.held ++ [o] })).releaseTile c t
  if (s1.tile c t).held.isEmpty then s1 else s1.bump ((Blk.carq (coreIx c)).at Reg.HOLD_CLOCKS) hold

/-- CAS_CLEAR (R89). -/
def execCasClear (core : CoreIx) (tile : Fin 64) (w : Int) (g hold : Nat) (s : State) : Host.Outcome State Fault Refusal :=
  .next (s.planOp core.val clsClear tile.val (fun s => s.tileOp core.val tile.val (.clear w g) [] hold))

/-- CAS_DRAIN (R90). -/
def execCasDrain (core : CoreIx) (tile : Fin 64) (factors : Option VReg) (bf16 toMemory : Bool) (dst : Nat)
    (errs : List (Nat × SymErrs)) (hold : Nat) (s : State) : Host.Outcome State Fault Refusal :=
  .next (s.planOp core.val clsDrain tile.val (fun s =>
    s.tileOp core.val tile.val (.drain factors bf16 toMemory dst) errs hold))

/-- An export that a stopped core owes is taken as exact zeros with no flags, and the tokens of the step that takes it carry
DEGRADED (R191). -/
def State.owedExport (s : State) (c t dstCore dstTile : Nat) : State :=
  let zero : Export := ⟨List.replicate 64 0, (s.tile dstCore dstTile).w, false, false⟩
  let s1 := s.issue c clsExport t
  (s1.updCore dstCore (fun k => { k with exports := k.exports ++ [⟨c, t, dstTile, zero⟩] })).degrade (s.tile dstCore dstTile).feeds

/-- CAS_EXPORT (R89). -/
def execCasExport (core : CoreIx) (tile : Fin 64) (dstCore : CoreIx) (dstTile : Fin 64) (errs : List (Nat × SymErrs))
    (hold : Nat) (s : State) : Host.Outcome State Fault Refusal :=
  .next (if s.owesRecord core.val clsExport tile.val && !(s.core dstCore.val).stopped then
      s.owedExport core.val tile.val dstCore.val dstTile.val
    else s.planOp core.val clsExport tile.val (fun s =>
      s.tileOp core.val tile.val (.send dstCore dstTile.val) errs hold))

/-- The export that a merge takes has arrived. -/
def State.exportHere (s : State) (c t srcCore srcTile : Nat) : Bool :=
  (s.core c).exports.any (fun e => e.srcCore == srcCore && e.srcTile == srcTile && e.dstTile == t)

/-- CAS_MERGE (R89, R91), once the export has arrived. -/
def execCasMerge (core : CoreIx) (tile : Fin 64) (srcCore : CoreIx) (srcTile : Fin 64) (errs : List (Nat × SymErrs))
    (hold : Nat) (s : State) : Host.Outcome State Fault Refusal :=
  .next (if s.exportHere core.val tile.val srcCore.val srcTile.val then
    s.planOp core.val clsMerge tile.val (fun s => s.tileOp core.val tile.val (.take srcCore.val srcTile.val) errs hold) else s)

/-- CASCADE_GROUP_SUM (R85, R86, R88): a group whose last member has arrived is added. -/
def State.groupSum (s : State) (c t n : Nat) (errs : List (Nat × SymErrs)) : State :=
  let s1 := s.readTile c t errs
  let u := s1.tile c t
  if u.groupFull n then
    let r := u.sumGroup n
    (s1.added c t r.2.1 r.2.2 r.1).releaseTile c t
  else s1

def execCascadeGroupSum (core : CoreIx) (tile : Fin 64) (group : Nat) (errs : List (Nat × SymErrs)) (s : State) :
    Host.Outcome State Fault Refusal :=
  .next (if s.unitRuns core.val then s.groupSum core.val tile.val group errs else s)

/-! ### Step replays (R107, R108) -/

/-- The load that wrote the tile an array holds. -/
def State.loadedAs (s : State) (k : Nat) : Option LoadDesc := (s.arr k).tile.map (fun (t : Tile) => t.desc)

/-- The load of the tile that each array of a step holds when the members fired in turn have been replayed, and the
reloads that this takes (R107): one for every member whose array then holds another tile than its own. -/
def State.reloads (s : State) (u : CasTile) : List LoadDesc :=
  ((u.step.zip u.stepTiles).foldl (fun (acc : Tbl LoadDesc × List LoadDesc) (p : FireOp × Option LoadDesc × BufEntry) => match p.2.1 with
    | none => acc
    | some d =>
      let now := (acc.1.get? p.1.key).or (s.loadedAs p.1.key)
      if now = some d then acc else (acc.1.put p.1.key d, acc.2 ++ [d])) ([], [])).2

/-- Memory time of the reload of a tile under R141. -/
def State.reloadClocks (s : State) (d : LoadDesc) : Nat :=
  let x := s.groupOf d.core.val
  match x.current, x.variant with
  | some p, some v => streamClocks (32 * (s.loadAddrs d).length) (layerShare p.plan d.layer d.kv.isSome) p.plan.channels v.clock
  | _, _ => 0

/-- Clocks of a step replay (R107): 48 a member, 132 an array reloaded, the memory time of each reload, 6 a group that the
contributions and merges of the step form. -/
def State.stepCost (s : State) (u : CasTile) : Nat :=
  let l := s.reloads u
  48 * u.step.length + 132 * (l.map (fun d => arrKey d.core d.eng d.arrB)).eraseDups.length
    + sumNats (l.map s.reloadClocks) + 6 * (u.formed + u.openGroups.length)

/-- Fires of a step that await a split or a replay leave its tile to the step replay. -/
def State.leaveStep (s : State) (c t : Nat) (step : List FireOp) : State :=
  let gone := fun (op : FireOp) (x : Shot) => if step.contains op then { x with skip := t :: x.skip } else x
  { s with engines := s.engines.map (fun (e : Nat × EngState) =>
    if e.1 / 16 = c then
      let sp := (e.2.split.map (fun (p : PendingSplit) => { p with shot := gone p.op p.shot })).filter
        (fun (p : PendingSplit) => !(s.reach p.op p.shot).isEmpty)
      (e.1, { e.2 with
        replays := (e.2.replays.map (fun (p : PendingReplay) => { p with shot := gone p.op p.shot })).filter
          (fun (p : PendingReplay) => !(s.reach p.op p.shot).isEmpty)
        split := sp, splitActive := e.2.splitActive && !sp.isEmpty })
    else e) }

/-- One member of a step fires again as a nibble pair for this tile alone, its array reloaded first where it holds
another tile. -/
def State.replayMember (s : State) (c t cause : Nat) (op : FireOp) (d : Option LoadDesc) (b : BufEntry) (env twin : PairEnv) :
    State :=
  let s1 := match d with
    | some d => if s.loadedAs op.key = some d then s else s.loadArray d [] 0 true
    | none => s
  match d, (s1.arr op.key).tile with
  | some _, some w => s1.fireShot op w b { wideShot (s1.sourceOf c b) b.rho with skip := (List.range 64).filter (fun k => k != t) }
      env twin (some cause)
  | _, _ => s1.updTile c t (fun v => v.arrive ⟨op.member, List.replicate 64 0, []⟩ false)

/-- A step replay is served (R107): the tile is cleared, every member fires again, and the exports are merged again.
LAST_REPLAY shows it on engine 0, array A, though it may span several arrays (DESIGN CHOICE, log 126). -/
def State.replayStep (s : State) (c t cause : Nat) (envs : List PairEnv) : State :=
  let u := s.tile c t
  let clamps := ((u.stepTiles.map (fun x => s.sourceOf c x.2)).eraseDups.filter (fun v => !(v.all Num.isFin))).length
  let s1 := (s.leaveStep c t u.step).updTile c t (fun _ => { CasTile.clear u.w u.g with
    step := u.step, stepTiles := u.stepTiles, replayed := true, merged := [], held := u.held })
  let s2 := (u.step.zip u.stepTiles).zipIdx.foldl (fun (s : State) p =>
    s.replayMember c t cause p.1.1 p.1.2.1 p.1.2.2 (envs.getD p.2 ⟨[], []⟩) (envs.getD (u.step.length + p.2) ⟨[], []⟩)) s1
  let s3 := u.merged.foldl (fun (s : State) e =>
    let r := (s.tile c t).merge e
    let s1 := s.added c t r.2.1 r.2.2 r.1
    if e.sat then s1.degrade u.feeds else s1) (s2.casBump c Reg.Q_NONFINITE clamps)
  let s4 := if 0 < clamps then (s3.degrade u.feeds).error sevError 0x0106 (unitCore c) (s.core c).group none t else s3
  ((s4.corBump c Reg.STEP_REPLAYS 1).markReplayed u.feeds).lastReplay c 0 false cause t false false

/-- STEP_REPLAY (R107, R109, R110), when it is its turn. -/
def State.stepNext (s : State) (c t : Nat) (envs : List PairEnv) : State :=
  let u := s.tile c t
  match u.pending with
  | none => s
  | some cause =>
    if s.nextReplay c ≠ some (32 + t) then s
    else
      let g := s.askReplay c (s.stepCost u)
      let s1 := g.2.updCore c (fun k => { k with waitsFor := none })
      match g.1 with
      | .waits => g.2.updCore c (fun k => { k with waitsFor := some (32 + t) })
      | .served => s1.replayStep c t cause envs
      | .refused =>
        let s2 := (s1.updTile c t (fun u => { u with pending := none, replayed := true })).degrade u.feeds
        let s3 := s2.lastReplay c 0 false cause t true false
        if cause = 5 then s3.error sevError 0x0106 (unitCore c) (s.core c).group none t else s3

/-! ### The input quantiser (R75 to R77, R92, R98, R99) -/

/-- 256 values from a vector register, rows beyond its end as zeros (R50). -/
def State.block (s : State) (c : Nat) (r : VReg) : List Num :=
  (List.range 256).map (fun i => numOfFp ((s.vreg c r).getD i 0))

/-- The input outlier ratio of a step: a power of two from 4 to 64, by default 16 (R98). -/
def rhoOf : Option (Fin 5) → Nat
  | none => 16
  | some k => 4 * 2 ^ k.val

/-- Entries that a quantised block fills: two halves in AS8, else one. -/
def blockEntries (b : ActBlock) (src rho : Nat) (wide whole : Bool) (entry : Nat) : List (Nat × BufEntry) :=
  if wide && !whole then [(entry % 64, entryOf b src rho false .high), ((entry + 1) % 64, entryOf b src rho false .low)]
  else [(entry % 64, entryOf b src rho whole .whole)]

/-- A block enters the input buffers of some engines. -/
def State.fillEntries (s : State) (c : Nat) (engines : List (EngIx × Nat)) (ents : Nat → List (Nat × BufEntry)) : State :=
  engines.foldl (fun (s : State) p => s.updEng (engKey (coreIx c) p.1) (fun e => { e with
    buf := (ents p.2).foldl (fun (t : Tbl BufEntry) x => t.put x.1 x.2) e.buf })) s

/-- The Spillway keeps the source of a block while its declared area has room (R106). -/
def State.keepSource (s : State) (c src : Nat) (vals : List Num) : State :=
  let room := ((s.groupOf c).current.map (·.plan.spillSrc)).getD 0
  s.updCore c (fun k =>
    let l := k.sources.del src
    let l1 := if l.length < room then l.put src vals else l
    { k with sources := l1, peak := max k.peak l1.length })

/-- QUANT of values (R75): the block enters the input buffers named, and is stored as a record where the plan says so; one
whose outlier budget is exceeded enters as a wide block (R98, R106). -/
def State.quantBlock (s : State) (c : Nat) (src : VReg) (srcBlock : Nat) (engines : List (EngIx × Nat)) (rho : Nat)
    (wide : Bool) (set : List VReg) (store : Option Nat) : State :=
  let vals := s.block c src
  let compat := s.compat c
  let q := if compat then (quantiseSet (vals :: set.map (s.block c))).headD (quantise vals rho false true)
    else quantise vals rho wide false
  let grow := q.exceeded && !wide && !compat
  let b := if grow then quantise vals rho true false else q
  let s1 := (s.fillEntries c engines (blockEntries b srcBlock rho wide grow)).dropSources c
  let s2 := if compat then s1 else s1.keepSource c srcBlock vals
  let s3 := match store with
    | some off => s2.putMem (.core (coreIx c)) off ((actRecord b (wide || grow)).flatMap (Crypto.bytesLE 32))
    | none => s2
  let s4 := ((s3.casBump c Reg.Q_BLOCKS 1).casBump c Reg.Q_ZERO (flag (q.zero && !q.flushed))).casBump c Reg.Q_FLUSHED
    (flag q.flushed)
  ((s4.casBump c Reg.Q_NONFINITE (flag q.clamped)).corBump c Reg.RILL_INPUTS b.extracted.length).corBump c
    Reg.BUDGET_EXCEEDED (flag q.exceeded)

/-- A stored record enters the input buffers named as it stands (R76, R106). -/
def State.recordBlock (s : State) (c off srcBlock : Nat) (engines : List (EngIx × Nat)) (rho : Nat) (wide : Bool) : State :=
  let b := decodeActRecord (s.localGranules (coreIx c) off (if wide then 12 else 8)) wide
  (s.fillEntries c engines (blockEntries b srcBlock rho wide false)).dropSources c

/-- QUANT. -/
def execQuant (core : CoreIx) (src : QuantSrc) (srcBlock : Nat) (engines : List (EngIx × Nat)) (rho : Option (Fin 5))
    (wide : Bool) (set : List VReg) (store : Option Nat) (s : State) : Host.Outcome State Fault Refusal :=
  .next (s.planOp core.val clsQuant 0 (fun s => match src with
    | .values r => s.quantBlock core.val r srcBlock engines (rhoOf rho) wide set store
    | .record off => s.recordBlock core.val off srcBlock engines (rhoOf rho) wide))

/-! ### Accumulate groups of compatibility mode (R63, R92) -/

/-- An accumulate group is zeroed. -/
def State.zeroAcc (s : State) (c g : Nat) : State :=
  s.updCore c (fun k => { k with acc := k.acc.put g accZero, accExp := k.accExp.put g accZero })

/-- AOA_CLEAR. -/
def execAoaClear (core : CoreIx) (grp : Fin 4) (s : State) : Host.Outcome State Fault Refusal :=
  .next (if s.compat core.val then s.planOp core.val clsAoa grp.val (fun s => s.zeroAcc core.val grp.val) else s)

/-- An accumulate group is drained: each lane scaled by the E8 of its output channel and of the scale set, rounded once,
and the accumulator cleared (R92). -/
def State.drainAcc (s : State) (c g : Nat) (dst : VReg) : State :=
  let k := s.core c
  (s.setVreg c dst (List.zipWith (fun a p => fpOfFrac (Frac.dyadic a p)) (k.acc.getD g accZero)
    (k.accExp.getD g accZero))).zeroAcc c g

/-- AOA_DRAIN. -/
def execAoaDrain (core : CoreIx) (grp : Fin 4) (dst : VReg) (s : State) : Host.Outcome State Fault Refusal :=
  .next (if s.compat core.val then s.planOp core.val clsAoa grp.val (fun s => s.drainAcc core.val grp.val dst) else s)

end Sys2Proof.Machine
end

