-- ==== Sys2Proof/Machine/RunExec.lean ====
section
/-!
DEFINITION. Expert runs (R156), and the corrections that let held work go on: re-reads, splits, fire replays and step
replays (R52, R60, R106, R107).
-/

namespace Sys2Proof.Machine

open Sys2Proof

/-! ### Expert runs (R156) -/

/-- An empty slot: a skipped fire whose exact zeros join the step. -/
def State.skipSlot (s : State) (op : FireOp) (nibble : Bool) : State :=
  match (s.arr op.key).tile with
  | none => s.fireEmpty op BufEntry.empty
  | some t => ((s.joinStep op BufEntry.empty t.fmt.outs (some t)).engBump op Reg.ZERO_SKIPS (1 + flag nibble)).deliverFire op t
      BufEntry.empty.shot (zeroHalf t.fmt).counts

/-- One slot of an expert run. -/
def State.runSlot (s : State) (op : FireOp) (nibble : Bool) (f : SlotFire) : State :=
  if f.row.isNone then s.skipSlot op nibble
  else if nibble then s.firePair op f.env f.twin else s.fire op f.env.lo f.twin

/-- What an engine must wait for before it goes on with its run. -/
def State.runWaits (s : State) (c e : Nat) : RunItem → Bool
  | .load d _ _ => s.arrayBusy (arrKey d.core d.eng d.arrB)
  | .slot op _ _ => !(s.eng (c * 16 + e)).split.isEmpty || !(s.eng (c * 16 + e)).replays.isEmpty
      || decide ((s.arr op.key).phase = .loading)

/-- The next item of an engine's run. -/
def State.runItem (s : State) (c e : Nat) : State :=
  match (s.eng (c * 16 + e)).run with
  | [] => s
  | i :: rest =>
    if s.runWaits c e i then s
    else
      let s1 := s.updEng (c * 16 + e) (fun q => { q with run := rest })
      match i with
      | .load d errs late => s1.loadArray d errs late false
      | .slot op nibble f => s1.runSlot op nibble f

/-- An engine's run goes on until something holds it. -/
def State.runOn (s : State) (c e : Nat) : State := (s.eng (c * 16 + e)).run.foldl (fun (s : State) _ => s.runItem c e) s

/-- Work that a correction of a core has held goes on. -/
def State.resume (s : State) (c : Nat) : State := (List.range 16).foldl (fun (s : State) e => s.runOn c e) (s.releaseTiles c)

/-- Items of an expert run, tile by tile. -/
def runItems (op : FireOp) (nibble : Bool) (tiles : List ExpertTile) : List RunItem :=
  tiles.flatMap (fun t => RunItem.load t.desc t.errs t.late :: t.slots.map (fun f =>
    RunItem.slot { op with arrB := t.desc.arrB, entry := f.entry, tile := f.tile, member := f.member, feeds := f.feeds
                           dense := false } nibble f))

/-- Mixture-of-experts entry of a layer of a group's plan. -/
def State.moeEntry (s : State) (g layer : Nat) : Option MoeEnt := (s.grp g).current.bind (fun p => moeOf p.plan layer)

/-- Rows that the slots of a tile take (R156): the capacity slots of its expert, and the pool slots of its group that
went to it, with the rest of the pool, which is empty, on the last tile. -/
def slotRows (m : MoeEnt) (placed : List (Nat × Nat × Bool × Word)) (q i : Nat) : List (Option Nat) :=
  let e := q * m.groupSize + i
  let cap := (placed.filter (fun p => p.2.1 == e && !p.2.2.1)).map (fun p => some p.1)
  let pool := placed.filter (fun p => p.2.1 / m.groupSize == q && p.2.2.1)
  cap ++ List.replicate (m.capacity - cap.length) none ++ (pool.filter (fun p => p.2.1 == e)).map (fun p => some p.1)
    ++ (if i + 1 = m.groupSize then List.replicate (m.pool - pool.length) none else [])

/-- The tiles of a run are those of the experts of its pool group, each with the rows that ASSIGN gave it. -/
def State.runFits (s : State) (g layer q : Nat) (tiles : List ExpertTile) : Bool :=
  match s.moeEntry g layer with
  | none => false
  | some m =>
    let placed := ((s.grp g).routing.filter (fun p => p.1 / 1024 == layer)).flatMap (·.2.placed)
    tiles.length == m.groupSize && tiles.zipIdx.all (fun t => decide (t.1.slots.map (·.row) = slotRows m placed q t.2))

/-- An expert run may start: its record is next, its engine is free, and its slots are ASSIGN's. -/
def State.runOpen (s : State) (op : FireOp) (g q : Nat) (tiles : List ExpertTile) : Bool :=
  let e := s.eng (engKey op.core op.eng)
  s.mayIssue op.core.val clsExpert op.eng.val && e.split.isEmpty && e.replays.isEmpty && e.run.isEmpty
  && tiles.all (fun t => t.desc.core == op.core && t.desc.eng == op.eng) && s.runFits g op.layer q tiles

/-- EXPERT_RUN (R156): each tile is loaded and its slots are fired, an empty slot as a skipped fire. -/
def execExpertRun (op : FireOp) (group : GroupIx) (poolGroup : Nat) (nibble : Bool) (tiles : List ExpertTile) (s : State) :
    Host.Outcome State Fault Refusal :=
  if !(s.runOpen op group.val poolGroup tiles) then .next s
  else match (tiles.flatMap (fun t => s.loadAddrs t.desc)).find? (fun a => decide (deviceGranules ≤ a)) with
    | some a => .fault (.noSuchGranule a)
    | none => .next (((s.issue op.core.val clsExpert op.eng.val).updEng (engKey op.core op.eng) (fun e => { e with
        run := runItems op nibble tiles })).runOn op.core.val op.eng.val)

/-! ### Corrections -/

/-- LOAD_REREAD (R60). -/
def execLoadReread (core : CoreIx) (eng : EngIx) (arrB : Bool) (errs : SymErrs) (stall : Nat) (s : State) :
    Host.Outcome State Fault Refusal :=
  .next (if s.unitRuns core.val then (s.reread core.val eng.val arrB errs stall).resume core.val else s)

/-- SPLIT_REPLAY (R52). -/
def execSplitReplay (core : CoreIx) (eng : EngIx) (env : List FireEnv) (s : State) : Host.Outcome State Fault Refusal :=
  .next (if s.unitRuns core.val then (s.splitNext core.val eng.val env).resume core.val else s)

/-- FIRE_REPLAY (R106). -/
def execFireReplay (core : CoreIx) (eng : EngIx) (env twin : PairEnv) (s : State) : Host.Outcome State Fault Refusal :=
  .next (if s.unitRuns core.val then (s.replayNext core.val eng.val env twin).resume core.val else s)

/-- STEP_REPLAY (R107). -/
def execStepReplay (core : CoreIx) (tile : Fin 64) (envs : List PairEnv) (s : State) : Host.Outcome State Fault Refusal :=
  .next (if s.unitRuns core.val then (s.stepNext core.val tile.val envs).resume core.val else s)

end Sys2Proof.Machine
end

