-- ==== Sys2Proof/Machine/VecExec.lean ====
section
/-!
DEFINITION. The vector unit, routing and expert runs, and the streams between device memory and cores (R32, R78,
R141, R156 to R159, R212).
-/

namespace Sys2Proof.Machine

open Sys2Proof

/-! ### Vector operations (R32, R140) -/

/-- Position of a row of a context's tick (R209): a decoding sequence's is LENGTH. -/
def State.rowPos (s : State) (ctx row : Nat) : Nat := ((s.ctx? ctx).map (·.length)).getD 0 + row

/-- A value of a vector rotated as one of a layer's at a position (R208); open where it or its pair's other value is no
number (log 9). -/
def State.rotateLane (s : State) (g : Nat) (a : AttnEnt) (pos : Nat) (v : List Word) (i : Nat) : Word :=
  match a.ropePair i with
  | none => v.getD i 0
  | some (j, _, _) =>
    if fpNonFinite (v.getD i 0) || fpNonFinite (v.getD j 0) then Config.vecLane 0 0 0 [v] i
    else fpOfFrac (s.rotated g a pos i (fun k => fpValue (v.getD k 0)))

/-- A query at one position sees another (R213): it is present, within WINDOW, and not later, but that a cross-attention
layer has no order. -/
def State.sees (s : State) (a : AttnEnt) (ctx q pos : Nat) : Bool :=
  s.positionPresent ctx a.layer pos && (a.cross || decide (pos ≤ q)) && (decide (a.window = 0) || decide (q < pos + a.window))

/-- Results of a vector operation of a core (R209, R213; log 9). -/
def State.vecResult (s : State) (c cls : Nat) (fn : VecFn) (n : Nat) (srcs : List (List Word)) : List Word :=
  let x := srcs.headD []
  let y := (srcs.getD 1 []).headD 0
  let entry := fun (layer : Nat) => (s.core c).group.bind (fun g => (s.attnEntry g layer).map (fun a => (g, a)))
  match fn with
  | .other code => (List.range n).map (Config.vecLane cls code n srcs)
  | .rotate ctx layer row => match entry layer with
    | none => x
    | some (g, a) => (List.range n).map (s.rotateLane g a (s.rowPos ctx row) x)
  | .mask ctx layer row first => match entry layer with
    | none => x
    | some (_, a) => (List.range n).map (fun i =>
        if s.sees a ctx (s.rowPos ctx row) (first + i) then fpMul a.scale (x.getD i 0) else fpInf true)
  | .maximum => [x.foldl fpMax (fpInf true)]
  | .expBelow => x.map (fun v => if v = fpInf true then 0 else fpExp (fpSub v y))
  | .total => [Config.rowSum x]
  | .quotient => x.map (fun v => if v = 0 then 0 else fpDiv v y)

/-- A vector operation writes its results: the record and its non-finite results are counted. -/
def State.vecOp (s : State) (c cls : Nat) (fn : VecFn) (n : Nat) (srcs : List VReg) (dst : VReg) : State :=
  let out := s.vecResult c cls fn n (srcs.map (s.vreg c))
  ((s.setVreg c dst out).bumpWide ((Blk.vec (coreIx c)).at Reg.VU_RECORDS_LO) 1).bump
    ((Blk.vec (coreIx c)).at Reg.VU_NONFINITE) (out.filter fpNonFinite).length

/-- VEC_ELEM. -/
def execVecElem (core : CoreIx) (fn : VecFn) (n : Nat) (srcs : List VReg) (dst : VReg) (s : State) : Host.Outcome State Fault Refusal :=
  .next (s.planOp core.val clsVecElem 0 (fun s => s.vecOp core.val clsVecElem fn n srcs dst))

/-- VEC_TRANS. -/
def execVecTrans (core : CoreIx) (fn : VecFn) (n : Nat) (srcs : List VReg) (dst : VReg) (s : State) : Host.Outcome State Fault Refusal :=
  .next (s.planOp core.val clsVecTrans 0 (fun s => s.vecOp core.val clsVecTrans fn n srcs dst))

/-- VEC_REDUCE. -/
def execVecReduce (core : CoreIx) (fn : VecFn) (n : Nat) (srcs : List VReg) (dst : VReg) (s : State) : Host.Outcome State Fault Refusal :=
  .next (s.planOp core.val clsVecReduce 0 (fun s => s.vecOp core.val clsVecReduce fn n srcs dst))

/-- SYNC: joins dependencies, at no cost and with no result (R140). -/
def execSync (core : CoreIx) (s : State) : Host.Outcome State Fault Refusal := .next (s.planOp core.val clsSync 0 id)

/-! ### Routing (R157 to R159) -/

/-- The k choices of a row: its largest gates, ties to the lower expert. -/
def topChoices (m : MoeEnt) (layer : Nat) (logits : List Word) : List (Nat × Word) :=
  (sortBy (fun (a b : Nat × Word) => fpLt b.2 a.2 || (!(fpLt a.2 b.2) && decide (a.1 < b.1)))
    ((List.range m.experts).map (fun e => (e, Config.routeGate layer logits e)))).take m.topK

/-- ROUTE: gates and top-k choices of some rows, on a core. -/
def State.routeRows (s : State) (c g layer : Nat) (rows : List RouteIn) : State :=
  match s.moeEntry g layer with
  | none => s
  | some m =>
    let out := rows.map (fun r => (r.row, r.slot, topChoices m layer (s.vreg c r.gates)))
    let s1 := s.updGrp g (fun x => { x with routing := x.routing.upd (layer * 1024 + c) ⟨layer, [], []⟩ (fun q => { q with
      rows := q.rows ++ out }) })
    (s1.bump ((Blk.vec (coreIx c)).at Reg.ROUTE_ROWS) rows.length).bumpWide ((Blk.vec (coreIx c)).at Reg.VU_RECORDS_LO) 1

def execRoute (core : CoreIx) (group : GroupIx) (layer : Nat) (rows : List RouteIn) (s : State) :
    Host.Outcome State Fault Refusal :=
  .next (s.planOp core.val clsRoute 0 (fun s => s.routeRows core.val group.val layer rows))

/-- Rows in the order of R157: decoding rows by slot, then prefill rows in their order. -/
def rowOrder (a b : RouteRow) : Bool := lexLt [a.slot.getD 4096, a.row] [b.slot.getD 4096, b.row]

/-- Routed rows of a layer, from every core that routed some. -/
def Group.routed (x : Group) (layer : Nat) : List RouteRow :=
  sortBy rowOrder ((x.routing.filter (fun p => p.1 / 1024 == layer)).flatMap (fun p =>
    p.2.rows.map (fun r => (⟨r.1, r.2.1, r.2.2⟩ : RouteRow))))

/-- The admission of a tick that a prefill row belongs to, by its place among the tick's prefill rows. -/
def admitOf : List Admit → Nat → Option Admit
  | [], _ => none
  | a :: rest, i => if i < a.rows then some a else admitOf rest (i - a.rows)

/-- The slot of the sequence whose token of the tick a row feeds: a decoding row's own, a prefill row's request's. -/
def State.rowSlot (s : State) (g : Nat) (r : RouteRow) : Option Nat :=
  match r.slot with
  | some k => some k
  | none =>
    let first := ((s.grp g).current.map (fun p => p.plan.decodeRows)).getD 0
    ((admitOf (s.grp g).admitted (r.row - first)).bind (fun a => s.req? a.sess a.req)).bind (·.slot)

/-- ASSIGN, on the router core: places, drops and gates, with their counts. -/
def State.assign (s : State) (c g layer : Nat) : State :=
  match s.moeEntry g layer with
  | none => s
  | some m =>
    let rows := (s.grp g).routed layer
    let st := assignRows m rows
    let lost := unrouted rows st
    let placed := (rescale rows st).map (fun p => (p.row, p.expert, p.pool, p.gate))
    let fullest := (st.pool.map (·.2)).foldl max 0
    let s1 := s.updGrp g (fun x => { x with
      routing := x.routing.upd (layer * 1024 + c) ⟨layer, [], []⟩ (fun q => { q with placed := placed })
      moeDrops := x.moeDrops + st.drops.length, moeUnrouted := x.moeUnrouted + lost.length
      moePeak := if x.moePeak.1 < fullest then (fullest, layer) else x.moePeak })
    let s2 := (s1.bumpLo ((Blk.vec (coreIx c)).at Reg.ASSIGN_PLACED) (st.placed.filter (fun p => !p.pool)).length).bumpHi
      ((Blk.vec (coreIx c)).at Reg.ASSIGN_PLACED) (st.placed.filter (·.pool)).length
    let s3 := s2.bumpWide ((Blk.vec (coreIx c)).at Reg.VU_RECORDS_LO) 1
    s3.degrade ((rows.filter (fun r => lost.contains r.row)).filterMap (s.rowSlot g))

/-- ASSIGN; on a core that is not the layer's router it changes nothing. -/
def execAssign (core : CoreIx) (group : GroupIx) (layer : Nat) (s : State) : Host.Outcome State Fault Refusal :=
  let router := (s.moeEntry group.val layer).bind (fun m => (s.grp group.val).bind.get? m.router)
  .next (if router == some core.val then s.planOp core.val clsAssign 0 (fun s => s.assign core.val group.val layer) else s)

/-! ### Streams (R141, R335) -/

/-- One granule of a stream: read, read again where it was uncorrectable, and poisoned where it still is;
what cannot be read counts as zeros. -/
def State.streamGranule (s : State) (a : Nat) (errs : List GranErr) (i : Nat) : Option Nat × State :=
  let r := s.readOnce a (errsAt errs i false)
  let s1 := s.countReads [a]
  match r.1 with
  | some v => (some v, if r.2 then s1.countFixed a else s1)
  | none =>
    let q := s.readOnce a (errsAt errs i true)
    let s2 := s1.countReads [a]
    match q.1 with
    | some v => (some v, if q.2 then s2.countFixed a else s2)
    | none => (none, s2.poisonGranule a)

/-- A stream of a layer is in progress at the stacks of its group: MC_SHARE shows its share (R31, R141). -/
def State.showShare (s : State) (g layer : Nat) (kv : Bool) : State :=
  match (s.grp g).current with
  | none => s
  | some p =>
    let n := layerShare p.plan layer kv
    (s.grp g).chans.foldl (fun (s : State) k => s.updStack k (fun x =>
      if kv then { x with kvShare := n } else { x with weightShare := n })) s

/-- One granule of a group's stream; a weight that the tick has read before comes with the stream that delivered it then
(R22). -/
def State.memGranule (s : State) (g : Nat) (kv : Bool) (errs : List GranErr) (p : Nat × Nat) : Option Nat × State :=
  if kv then s.streamGranule p.1 errs p.2
  else if (s.grp g).hasRead p.1 then ((s.readOnce p.1 []).1, s)
  else
    let r := s.streamGranule p.1 errs p.2
    (r.1, r.2.updGrp g (fun x => { x with weightsRead := (p.1, 1) :: x.weightsRead }))

/-- MEM_READ: granules of a group's stream go to local memory or a Basin; a poisoned weight marks its
generation (R337). -/
def State.memRead (s : State) (g layer : Nat) (kv : Bool) (granules : List Nat) (errs : List GranErr) (dst : MemUnit)
    (off : Nat) : State :=
  granules.zipIdx.foldl (fun (s : State) p =>
    let r := s.memGranule g kv errs p
    let s1 := r.2.putMem dst (off + 32 * p.2) (Crypto.bytesLE 32 (r.1.getD 0))
    if r.1.isNone && !kv then s1.damageGen g p.1 else s1) (s.showShare g layer kv)

/-- A MEM_READ of a layer and kind stands in the running phase of a group, into the region that it names. -/
def State.readsInto (s : State) (g layer : Nat) (kv : Bool) (dst : MemUnit) (off n : Nat) : Bool :=
  (s.grp g).records.any (fun r => r.2.readsOf layer kv && regionHolds (s.grp g).regions r.2.args.dst dst off n)

/-- Resends of stream reads into a memory where no answer comes (R192): counted, at most four. -/
def State.countResends (s : State) (dst : MemUnit) (n : Nat) : State :=
  match dst with
  | .core c => s.resendReads c.val n
  | .basin _ _ => s.bump (Blk.usher.at Reg.E2E_RESENDS) (min n 4)

/-- Reads that are never answered fail after four resends, and are taken as zeros (R191, R192). -/
def State.readFails (s : State) (dst : MemUnit) (off n : Nat) : State :=
  (((s.putMem dst off (List.replicate n 0)).degradeMem dst).bump (Blk.usher.at Reg.E2E_FAILED) 1).error sevError 0x0301
    (memErrUnit dst) (s.memGroup dst) none (memCoreNum dst)

/-- MEM_READ; the fault of an address beyond the stacks. -/
def execMemRead (group : GroupIx) (layer : Nat) (kv : Bool) (granules : List Nat) (errs : List GranErr) (dst : MemUnit)
    (off resends : Nat) (s : State) : Host.Outcome State Fault Refusal :=
  if !s.memRuns dst || !(s.readsInto group.val layer kv dst off (32 * granules.length)) then .next s
  else match granules.find? (fun a => decide (deviceGranules ≤ a)) with
    | some a => .fault (.noSuchGranule a)
    | none =>
      let s1 := s.countResends dst resends
      .next (if 4 < resends then s1.readFails dst off (32 * granules.length) else s1.memRead group.val layer kv granules errs dst off)

/-- Write one byte of a granule of device memory. -/
def State.putByte (s : State) (g i : Nat) (b : Byte) : State := { s with mem := memPut s.mem (32 * g + i) b }

/-- One key-value block of a position enters its page (R78, Table 8-2). -/
def State.putKvBlock (s : State) (a : AttnEnt) (c : Ctx) (frame p b : Nat) (v : KvBlock) : State :=
  let i := p * a.nb + b
  let place := frameGranule (s.frameStacks c) frame
  let addrs := if a.kv8 then [place (2 * i), place (2 * i + 1)] else [place i]
  let scale := place (a.scaleBase + i / 32)
  ((s.putAt addrs (kvGranules v a.kv8)).putByte scale (i % 32) (BitVec.ofNat 8 v.e8)).countWrites [scale]

/-- The page of a cross-attention layer that the encoding pass writes a position to (R201): of a position written once
before, or that would take more than BUDGET pages, there is none. A new page takes a frame of the reservation. -/
def State.crossPage (s : State) (a : AttnEnt) (ctx pos : Nat) (c : Ctx) : Option Pte × State :=
  let t := c.tables.getD a.layer []
  let filled := fun (e : Pte) (s : State) => s.updCtx ctx (fun c => { c with
    crossFill := c.crossFill ++ [(a.layer, e.page, pos % 128 + 1)] })
  match t.find? (fun e => e.page == pos / 128), c.free.getD a.layer [] with
  | some e, _ => if e.fill ≤ pos % 128 then (some e, filled e s) else (none, s)
  | none, f :: rest =>
    let e : Pte := { frame := f, sink := decide (pos / 128 = 0), kv8 := a.kv8, fill := 0, first := 0, page := pos / 128, score := 0 }
    if t.length < c.budget then
      (some e, filled e (s.updCtx ctx (fun c => { c with
        free := c.free.put a.layer rest
        tables := c.tables.put a.layer (sortBy (fun (x y : Pte) => decide (x.page < y.page)) (e :: t)) })))
    else (none, s)
  | none, [] => (none, s)

/-- The page that a position of a layer is written to: of a position that the tick writes, its resident page (R212). -/
def State.writePage (s : State) (a : AttnEnt) (ctx pos : Nat) (c : Ctx) : Option Pte × State :=
  if a.cross then s.crossPage a ctx pos c
  else (if c.length ≤ pos ∧ pos < c.length + c.grow.length then s.pte? ctx a.layer (pos / 128) else none, s)

/-- MEM_WRITE: the keys and values of one position, a head record in each source register, go to its page
(R78, R212). A flushed block counts in Q_FLUSHED, like those of activations (DESIGN CHOICE: R78 names no counter; log 133). -/
def State.kvWrite (s : State) (g layer ctx pos c : Nat) (src : List VReg) : State :=
  match s.attnEntry g layer, s.ctx? ctx with
  | some a, some x => match s.writePage a ctx pos x with
   | (none, _) => s
   | (some e, s0) =>
    let vals := fun (head i : Nat) =>
      if max a.keyDim (a.valueOff + a.valueDim) ≤ i then Num.fin ⟨0, 1⟩ else numOfFp ((s.vreg c (src.getD head 0)).getD i 0)
    let blocks := (List.range a.nb).map (fun b =>
      roundKv ((List.range 64).map (fun k => vals (b / a.headBlocks) (64 * (b % a.headBlocks) + k))) a.kv8)
    let s1 := blocks.zipIdx.foldl (fun (s : State) p => s.putKvBlock a x e.frame (pos % 128) p.2 p.1) s0
    let s2 := s1.casBump c Reg.Q_FLUSHED (blocks.filter (·.flushed)).length
    if blocks.any (·.nonFinite) then
      (s2.degrade ((s.reqs.filter (fun r => r.f.ctx == ctx)).filterMap (·.slot))).error sevError 0x0106 (unitCore c) (some g)
        (some layer) 0xFFFFFFFF
    else s2
  | _, _ => s

def execMemWrite (group : GroupIx) (layer ctx pos : Nat) (core : CoreIx) (src : List VReg) (s : State) :
    Host.Outcome State Fault Refusal :=
  .next (if s.unitRuns core.val && s.streams group.val clsMemWrite layer true then
    (s.showShare group.val layer true).kvWrite group.val layer ctx pos core.val src else s)

end Sys2Proof.Machine
end

