-- ==== Sys2Proof/Machine/AttnExec.lean ====
section
/-!
DEFINITION. Page walks and decode attention (R204 to R211, R215, R219): descriptors, the Sluices and the
stream engines.
-/

namespace Sys2Proof.Machine

open Sys2Proof

/-! ### PAGE_WALK (R204 to R207) -/

/-- A descriptor reaches a Sluice (R206). -/
def State.queueDesc (s : State) (d k : Nat) : State :=
  let s1 := s.updStack k (fun x => { x with descs := x.descs ++ [d] })
  (s1.bump ((Blk.sluice (stackIx k)).at Reg.SL_DESC) 1).peak ((Blk.sluice (stackIx k)).at Reg.SL_QUEUE_PEAK)
    (s1.stack k).descs.length

/-- A walk that is late is counted, once a layer and tick (R207). -/
def State.walkLate (s : State) (g layer : Nat) (late : Bool) : State :=
  if late && !((s.grp g).lateWalks.contains layer) then
    (s.updGrp g (fun x => { x with lateWalks := x.lateWalks ++ [layer] })).bump (Blk.walk.at Reg.WALK_LATE) 1
  else s

/-- A walk's descriptors leave for the Sluices of the frames' stacks (R205). -/
def State.emit (s : State) (g : Nat) (sts : List Nat) (ds : List PageDesc) : State :=
  let s1 := ds.foldl (fun (s : State) d =>
    sts.foldl (fun (s : State) k => s.queueDesc d.word k) (s.send (.descriptor d.word))) s
  s1.updGrp g (fun x => { x with descs := x.descs + ds.length })

/-- The next walk of a walker is made (R204): it waits while a Sluice has no room for it. A layer whose entry is lost has
no walk, and degrades its tokens (R412). -/
def State.makeWalk (s : State) (g ctx layer : Nat) (prefill : Bool) (slot lcore span : Nat) (late : Bool) : State :=
  let w := (if prefill then ctx else slot) % 8
  let done := fun (s : State) => (s.updGrp g (fun x => { x with walked := x.walked.upd w 0 (· + 1) })).walkLate g layer late
  match s.ctx? ctx, s.attnEntry g layer with
  | some c, some a =>
    let lost := (((s.inst g).active).map (fun x => x.lostLayers.contains layer)).getD false
    let ds := s.walkDescs g ctx layer prefill slot lcore span c a
    if lost then done { s with reqs := s.reqs.map (fun (r : Req) => if r.f.ctx = ctx then { r with degraded := true } else r) }
    else if !prefill && decide (span + 1 ≠ a.spanCores) then s
    else if (s.frameStacks c).any (fun k => decide (4096 < (s.stack k).descs.length + ds.length)) then s
    else done (s.emit g (s.frameStacks c) ds)
  | _, _ => done s

/-- PAGE_WALK: the next walk of the walker that serves the slot or the context. -/
def State.pageWalk (s : State) (g ctx layer : Nat) (prefill : Bool) (lcore span : Nat) (late : Bool) : State :=
  let slot := if prefill then some 0 else ((s.grp g).walkSlots.find? (fun p => p.2 == ctx)).map (·.1)
  match slot with
  | none => s
  | some k =>
    let w := (if prefill then ctx else k) % 8
    if (s.grp g).running && (s.walkList g w)[(s.grp g).walked.getD w 0]? == some (layer, ctx, prefill, k) then
      s.makeWalk g ctx layer prefill k lcore span late
    else s

def execPageWalk (group : GroupIx) (ctx layer : Nat) (prefill : Bool) (lcore span : Nat) (late : Bool) (s : State) :
    Host.Outcome State Fault Refusal :=
  .next (s.pageWalk group.val ctx layer prefill lcore span late)

/-! ### SLUICE_DESCRIPTOR (R206) -/

/-- Cores that a descriptor's page goes to. -/
def State.descCores (s : State) (d : PageDesc) : List Nat :=
  (List.range (d.span + 1)).filterMap (fun i => (s.grp d.group).bound (d.lcore + i))

/-- Errors of a page's granules as a core's stream engine and load path see them. -/
def State.pageErrors (s : State) (c : Nat) (reads : List (Option Nat × Bool)) : State :=
  (s.bumpLo ((Blk.se (coreIx c)).at Reg.SE_PAGE_ECC) (reads.filter (·.2)).length).bumpHi
    ((Blk.se (coreIx c)).at Reg.SE_PAGE_ECC) (reads.filter (·.1.isNone)).length

/-- A Sluice reads a granule, once more where it was uncorrectable: what goes forward, and whether it was corrected. -/
def State.sluiceRead (s : State) (k : Nat) (errs : List GranErr) (p : Nat × Nat) : (Option Nat × Bool) × State :=
  let again := (s.readOnce p.1 (errsAt errs p.2 false)).1.isNone
  let s1 := (s.streamGranule p.1 errs p.2).2
  (s.readOnce p.1 (errsAt errs p.2 again), if again then s1.bump ((Blk.sluice (stackIx k)).at Reg.SL_REREADS) 1 else s1)

/-- Granules of a page come to a core. -/
def State.deliverPage (s : State) (w : Nat) (got : Tbl (Option Nat × Bool)) (c : Nat) : State :=
  (s.updCore c (fun k => { k with
    pages := if k.pages.any (fun p => p.desc == w) then
        k.pages.map (fun p => if p.desc = w then { p with got := got.foldl (fun (t : Tbl (Option Nat × Bool)) q => t.put q.1 q.2) p.got } else p)
      else k.pages ++ [⟨w, got⟩] })).pageErrors c (got.map (·.2))

/-- A Sluice takes the next descriptor of its queue: one of another tick is discarded and counted at its receivers; else
the stack's granules of the frame are read and delivered. -/
def State.sluiceTake (s : State) (k w : Nat) (errs : List GranErr) : State :=
  if (s.stack k).descs.head? ≠ some w then s
  else
    let d := PageDesc.ofWord w
    let s1 := s.updStack k (fun x => { x with descs := x.descs.tail })
    if !s.descLive d then
      (s.descCores d).foldl (fun (s : State) c => s.bump ((Blk.se (coreIx c)).at Reg.SE_STALE_DESC) 1) s1
    else match s.ctx? d.ctx with
      | none => s1
      | some c =>
        let mine := (s.frameGranules c d.frame d.granules).zipIdx.filter (fun p => stackOf p.1 == k)
        let r := mine.foldl (fun (acc : Tbl (Option Nat × Bool) × State) p =>
          let v := acc.2.sluiceRead k errs p
          (acc.1 ++ [(p.2, v.1)], v.2)) ([], s1)
        ((s.descCores d).foldl (fun (s : State) c => s.deliverPage w r.1 c) r.2).bumpWide
          ((Blk.sluice (stackIx k)).at Reg.SL_GRANULES_LO) mine.length

/-- SLUICE_DESCRIPTOR. -/
def execSluiceDescriptor (stack : StackIx) (desc : Nat) (errs : List GranErr) (s : State) :
    Host.Outcome State Fault Refusal :=
  .next (s.sluiceTake stack.val desc errs)

/-! ### ATTN_PAGE (R210, R211, R215, R219) -/

/-- Sum in ascending order. -/
def fpSum : List Word → Word
  | [] => 0
  | x :: rest => rest.foldl fpAdd x

/-- Pairs of neighbours added. -/
def pairSums : List Word → List Word
  | a :: b :: rest => fpAdd a b :: pairSums rest
  | l => l

/-- Sum of 64 values as a pairwise tree. -/
def treeSum (l : List Word) : Word := (pairSums (pairSums (pairSums (pairSums (pairSums (pairSums l)))))).headD 0

/-- A dot product: a tree within each block of 64 values, blocks in ascending order (R211). -/
def fpDot (q k : List Word) : Word :=
  let p := (q.zip k).map (fun x => fpMul x.1 x.2)
  fpSum ((chunksOf 64 p.length p).map (fun b => treeSum (b ++ List.replicate (64 - b.length) 0)))

/-- Score of a query and a rotated key; a NaN counts as minus infinity. -/
def score (scale : Word) (q k : List Word) : Word × Bool :=
  let v := fpMul scale (fpDot q k)
  if fpIsNaN v then (fpInf true, true) else (v, false)

/-- One page, or the current position, of the online softmax of a head: scores and values by position. The mass
is recorded for a page. -/
def HeadAcc.page (h : HeadAcc) (pg : Option Nat) (scores : List Word) (vals : List (List Word)) (dim : Nat) : HeadAcc :=
  let note := fun (m sum : Word) => match pg with
    | some p => h.pages ++ [(p, m, sum)]
    | none => h.pages
  let mp := scores.foldl fpMax (fpInf true)
  if mp = fpInf true then { h with pages := note mp 0 }
  else
    let mn := fpMax h.m mp
    let c := fpExp (fpSub h.m mn)
    let e := scores.map (fun x => fpExp (fpSub x mn))
    { m := mn
      l := fpAdd (fpMul h.l c) (fpSum e)
      o := (List.range dim).map (fun j =>
        fpAdd (fpMul (h.o.getD j 0) c) (fpSum ((e.zip vals).map (fun x => fpMul x.1 (x.2.getD j 0)))))
      pages := note mp (fpSum (scores.map (fun x => fpExp (fpSub x mp)))) }

/-- A head before any page. -/
def HeadAcc.start : HeadAcc := ⟨fpInf true, 0, [], []⟩

/-- Number of the first query head that a core carries in a walk: eight to a core (R210). -/
def State.firstHead (s : State) (c : Nat) (d : PageDesc) : Nat := 8 * ((((s.core c).lcore).getD d.lcore) - d.lcore)

/-- Query heads of a walk that a core carries, with their values. -/
def State.carried (s : State) (c : Nat) (d : PageDesc) (a : AttnEnt) (query : List VReg) : List (Nat × List Word) :=
  ((query.take 8).zipIdx.map (fun p => (s.firstHead c d + p.2, (s.vreg c p.1)))).filter
    (fun p => decide (p.1 < a.kvHeads * a.qPerKv))

/-- A page of the walk is taken in by every head that the core carries. -/
def State.takePage (s : State) (g : Nat) (a : AttnEnt) (d : PageDesc) (pg : PageRead) (heads : List (HeadAcc × Nat × List Word)) :
    List HeadAcc × Nat :=
  let ts := (List.range d.fill).filter (fun t => decide (d.start ≤ t))
  let r := heads.map (fun h =>
    let kv := h.2.1 / a.qPerKv
    let sc := ts.map (fun t => score a.scale h.2.2 ((List.range a.keyDim).map (fun i =>
      fpOfFrac (s.rotated g a (d.posBase + t) i (fun i => a.headVal pg t kv i)))))
    let vals := ts.map (fun t => (List.range a.valueDim).map (fun j => fpOfFrac (a.headVal pg t kv (a.valueOff + j))))
    (h.1.page (some (d.posBase / 128)) (sc.map (·.1)) vals a.valueDim, (sc.filter (·.2)).length))
  (r.map (·.1), sumNats (r.map (·.2)))

/-- The current position's key and value come from the vector unit (R211). -/
def State.takeCurrent (s : State) (c g pos : Nat) (a : AttnEnt) (cur : VReg) (heads : List (HeadAcc × Nat × List Word)) :
    List HeadAcc × Nat :=
  let r := heads.map (fun h =>
    let v := s.vreg c (cur + h.2.1 / a.qPerKv)
    let key := (List.range a.keyDim).map (fun i => match a.ropePair i with
      | none => v.getD i 0
      | some _ => fpOfFrac (s.rotated g a pos i (fun i => fpValue (v.getD i 0))))
    let sc := score a.scale h.2.2 key
    (h.1.page none [sc.1] [(List.range a.valueDim).map (fun j => v.getD (a.valueOff + j) 0)] a.valueDim, flag sc.2))
  (r.map (·.1), sumNats (r.map (·.2)))

/-- A head's sum of exponentials is zero: its walk has no valid position. -/
def HeadAcc.empty (h : HeadAcc) : Bool := h.l == 0 || h.l == 0x80000000

/-- Mass of a recorded page for a head at the end of its walk (R215); a mass that is no number is a free value
(log 6). -/
def State.pageMass (s : State) (h : HeadAcc) (p : Nat × Word × Word) : Frac × State :=
  if h.empty then (⟨0, 1⟩, s)
  else
    let v := fpDiv (fpMul p.2.2 (fpExp (fpSub p.2.1 h.m))) h.l
    if fpNonFinite v then
      let r := s.freshValue 16
      (⟨r.1.toNat, 65536⟩, r.2)
    else (fpValue v, s)

/-- Bytes of a head's output in the format that the plan names: FP32, or BF16 rounded once (R211). -/
def outBytes (bf16 : Bool) (v : List Word) : List Byte :=
  drainBytes bf16 (if bf16 then v.map (fun w =>
    if fpNonFinite w then w else BitVec.ofNat 32 (bf16OfFrac (fpValue w) * 65536)) else v)

/-- A walk ends: its outputs go to local memory, one head after another, and the masses of its pages are measured; an
empty walk is counted (R211, R215). -/
def State.endWalk (s : State) (c : Nat) (d : PageDesc) (a : AttnEnt) (heads : List HeadAcc) (out : Nat) (bf16 : Bool) : State :=
  let s1 := s.putMem (.core (coreIx c)) out (heads.flatMap (fun h =>
    outBytes bf16 (if h.empty then List.replicate a.valueDim 0 else h.o.map (fun x => fpDiv x h.l))))
  let s2 := if heads.any HeadAcc.empty then
    (s1.bump ((Blk.se (coreIx c)).at Reg.SE_EMPTY) 1).degrade [d.slot] else s1
  let s3 := if a.cross then s2 else heads.foldl (fun (s : State) h => h.pages.foldl (fun (s : State) p =>
    let r := s.pageMass h p
    r.2.updCtx d.ctx (fun x => { x with masses := x.masses ++ [(d.layer, p.1, r.1)] })) s) s2
  s3.updCore c (fun k => { k with walk := none })

/-- A walk that a descriptor opens or continues in a stream engine; an engine serves one walk at a time. -/
def State.openWalk (s : State) (c : Nat) (d : PageDesc) (n : Nat) : Option Walk :=
  if d.first then some ⟨d.group, d.ctx, d.layer, d.slot, List.replicate n HeadAcc.start⟩
  else (s.core c).walk.filter (fun w => w.group == d.group && w.ctx == d.ctx && w.layer == d.layer && w.slot == d.slot
    && w.heads.length == n)

/-- A page found damaged is absent for the rest of the tick, and its tokens carry DEGRADED (R219). -/
def State.pageDamaged (s : State) (ctx layer page : Nat) : Bool :=
  ((s.ctx? ctx).map (fun x => x.dropPages.any (fun d => d.1 == layer && d.2.1 == page))).getD false

/-- The stream engine takes the page that its core was delivered first of those of decode walks, once it is whole; after
the last page of a walk, the current position, but of a cross-attention layer (R206, R210, R211; log 138). -/
def State.attnPage (s : State) (c : Nat) (p : PageIn) (query : List VReg) (current : VReg) (wait out : Nat) (bf16 : Bool) :
    State :=
  let d := PageDesc.ofWord p.desc
  match s.attnEntry d.group d.layer, s.ctx? d.ctx with
  | some a, some x =>
    let qs := s.carried c d a query
    match s.openWalk c d qs.length with
    | none => s
    | some w =>
      let pg := p.read
      let page := d.posBase / 128
      let bad := a.pageBad pg d.fill || s.pageDamaged d.ctx d.layer page
      let s1 := ((s.updCore c (fun k => { k with pages := k.pages.erase p })).bumpWide
        ((Blk.se (coreIx c)).at Reg.SE_PAGES_LO) 1).bump ((Blk.se (coreIx c)).at Reg.SE_WAIT_CLOCKS) wait
      let s2 := if bad then (s1.damagePage c d.ctx d.layer page).degrade [d.slot] else s1
      let r1 := if bad then (w.heads, 0) else s.takePage d.group a d pg (w.heads.zip qs)
      let r2 := if d.last && !a.cross then s.takeCurrent c d.group x.length a current (r1.1.zip qs) else (r1.1, 0)
      let s3 := s2.bump ((Blk.se (coreIx c)).at Reg.SE_NAN_SCORES) (r1.2 + r2.2)
      if d.last then s3.endWalk c d a r2.1 out bf16
      else s3.updCore c (fun k => { k with walk := some { w with heads := r2.1 } })
  | _, _ => s

/-- ATTN_PAGE. -/
def execAttnPage (core : CoreIx) (desc : Nat) (query : List VReg) (current : VReg) (wait out : Nat) (bf16 : Bool) (s : State) :
    Host.Outcome State Fault Refusal :=
  .next (match (s.core core.val).nextPage with
    | some p => if p.desc = desc ∧ p.complete then
        s.planOp core.val clsAttn 0 (fun s => s.attnPage core.val p query current wait out bf16) else s
    | none => s)

end Sys2Proof.Machine
end

