-- ==== Sys2Proof/Machine/KvExec.lean ====
section
/-!
DEFINITION. Page tables between ticks (R214 to R217): allocation, eviction and spilling.
-/

namespace Sys2Proof.Machine

open Sys2Proof

/-! ### PAGE_TABLE_PREPARE (R216) -/

/-- Positions that the next tick writes for a context: its chosen prefill rows, or the one of a seated sequence. -/
def State.nextRows (s : State) (g ctx : Nat) : Nat × Bool :=
  match (s.grp g).chosen.find? (fun a => ((s.req? a.sess a.req).map (fun r => r.f.ctx == ctx)).getD false) with
  | some a => (a.rows, true)
  | none => (flag (s.reqs.any (fun r => r.f.ctx == ctx && r.slot.isSome)), false)

/-- Pages written by n positions from a start that a table does not hold. -/
def newPages (t : List Pte) (start n : Nat) : List Nat :=
  if n = 0 then []
  else ((List.range ((start + n - 1) / 128 + 1 - start / 128)).map (· + start / 128)).filter
    (fun j => !(t.any (fun e => e.page == j)))

/-- Pages of a table in ascending page position. -/
def byPage (t : List Pte) : List Pte := sortBy (fun (a b : Pte) => decide (a.page < b.page)) t

/-- The victim of a full layer: not the sink, not one of the four of highest page position, the lowest score, ties
to the lower page position (R216). -/
def victimOf (t : List Pte) : Option Pte :=
  let sorted := byPage t
  let top := (sorted.drop (sorted.length - 4)).map (·.page)
  let cands := sorted.filter (fun e => !e.sink && !(top.contains e.page))
  cands.foldl (fun (v : Option Pte) e => match v with
    | none => some e
    | some b => if e.score < b.score then some e else some b) none

/-- Preparation of one layer: pages left of the table as it stands, frames of the reservation, and what has been
allocated. -/
structure PrepAcc where
  s : State
  old : List Pte
  free : List Nat
  made : List PagePrep

/-- Mean score of a layer's other resident pages, rounded down (R215). -/
def PrepAcc.meanScore (p : PrepAcc) : Nat :=
  let l := p.old.map (·.score) ++ p.made.map (·.score)
  if l.isEmpty then 0xFFFF else sumNats l / l.length

/-- Granules of the spill pool: 256 MiB (R217). -/
def poolGranules : Nat := 8388608

/-- Granules of the pool that prepared pages will take at their boundary. -/
def State.poolAsked (s : State) : Nat :=
  sumNats (s.groups.flatMap (fun p => (p.2.preps.filter (·.lent)).map (fun q =>
    ((s.attnEntry p.1 q.layer).map AttnEnt.pageGranules).getD 0)))

/-- Allocate one page (R216). A page that a decoding sequence creates starts at a score the spec does not give, a
free value (log 6). -/
def PrepAcc.alloc (p : PrepAcc) (ctx : Nat) (c : Ctx) (a : AttnEnt) (prefill : Bool) (page : Nat) : PrepAcc :=
  let start := fun (p : PrepAcc) => if prefill then (p.meanScore, p.s) else
    let r := p.s.freshValue 16
    (r.1.toNat, r.2)
  let made := fun (p : PrepAcc) (frame : Nat) (victim : Option Nat) (lent : Bool) =>
    let r := start p
    { p with s := r.2, made := p.made ++ [⟨ctx, a.layer, page, frame, victim, lent, r.1⟩] }
  if p.old.length + p.made.length < c.budget then
    match p.free with
    | f :: rest => made { p with free := rest } f none false
    | [] => p
  else match victimOf p.old with
    | none => p
    | some v =>
      let p1 := { p with old := p.old.filter (fun e => e.page != v.page) }
      let lent := sumNats (p.made.map (fun m => if m.lent then a.pageGranules else 0))
      if c.policy = 0 ∧ p.s.spill.lentGranules + p.s.poolAsked + lent + a.pageGranules ≤ poolGranules then
        let st := (p.s.grp c.group).dieChans c.homeDie
        let mine := (p.made.filter (·.lent)).map (fun m => (m.frame % stackGranules, stripeRows st a.pageGranules))
        let r := p.s.newFrames c.group c.homeDie a.pageGranules 1 mine
        made { p1 with s := r.2.2 } (r.1.headD 0) (some v.page) true
      else made p1 v.frame (some v.page) false

/-- Prepare one layer of a context for positions from a start. -/
def State.prepLayer (s : State) (ctx : Nat) (c : Ctx) (a : AttnEnt) (start n : Nat) (prefill : Bool) : State × List PagePrep :=
  let t := c.tables.getD a.layer []
  let r := (newPages t start n).foldl (fun (p : PrepAcc) j => p.alloc ctx c a prefill j)
    { s := s, old := t, free := c.free.getD a.layer [], made := [] }
  (r.s, r.made)

/-- The page tables of a context for the group's next tick, as its pending truncation will leave them. -/
def State.prepare (s : State) (g i : Nat) : State :=
  match s.ctx? i with
  | none => s
  | some c =>
    if !(s.grp g).running || c.group != g then s
    else
      let rows := s.nextRows g i
      let start := match c.truncate with
        | some p => p
        | none => c.length + c.grow.length
      let c1 := match c.truncate with
        | some p => c.truncateAt p []
        | none => c
      let s0 := s.updGrp g (fun x => { x with preps := x.preps.filter (fun p => p.ctx != i) })
      ((s.attnOf g).filter (fun a => !a.cross)).foldl (fun (s : State) a =>
        let r := s.prepLayer i c1 a start rows.1 rows.2
        r.1.updGrp g (fun x => { x with preps := x.preps ++ r.2 })) s0

/-- PAGE_TABLE_PREPARE. -/
def execPageTablePrepare (group : GroupIx) (ctx : Nat) (s : State) : Host.Outcome State Fault Refusal :=
  .next (s.prepare group.val ctx)

/-! ### Spills (R217) -/

def Spill.names (q : Spill) (ctx layer page : Nat) : Bool := q.ctx == ctx && q.layer == layer && q.page == page

/-- Place of a page in a context's backing region, in blocks of 4 KiB from its base, and the blocks it takes. -/
def State.spillPlace (s : State) (g : Nat) (a : AttnEnt) (page : Nat) : Nat × Nat :=
  let ls := s.attnOf g
  let blocks := ceilDiv ((ls.foldl (fun m x => max m x.pageGranules) 0) * 32) 4096
  let idx := (ls.filter (fun x => decide (x.layer < a.layer))).length
  ((page * ls.length + idx) * blocks, ceilDiv (a.pageGranules * 32) 4096)

/-- A spill ends: the victim's frame returns to the pool, and the frame lent for it stays with the context. -/
def State.endSpill (s : State) (q : Spill) : State :=
  { s with spill := { lentGranules := s.spill.lentGranules - q.granules
                      queue := s.spill.queue.filter (fun (x : Spill) => !x.names q.ctx q.layer q.page) } }

/-- A spill that fails drops the page. -/
def State.dropSpill (s : State) (q : Spill) : State :=
  ((s.endSpill q).bump (Blk.walk.at Reg.SPILL_DROPS) 1).note sevWarn "spill failed" unitPackage
    (Crypto.bytesLE 4 q.ctx ++ Crypto.bytesLE 4 q.layer ++ Crypto.bytesLE 4 q.page)

/-- A queued spill is written from its stacks to the backing region, unless it would pass its end. -/
def State.spillWrite (s : State) (k ctx layer page : Nat) : State :=
  match s.spill.queue.find? (fun q => q.names ctx layer page && !q.writing), s.ctx? ctx with
  | some q, some c =>
    match s.attnEntry c.group layer with
    | none => s
    | some a =>
      if !((s.frameStacks c).contains k) then s
      else
        let p := s.spillPlace c.group a page
        if c.backing.len < p.1 + p.2 ∨ !(s.targetUsable c.backing.target c.backing.ns) then s.dropSpill q
        else
          let gs := s.frameGranules c q.frame q.granules
          let bytes := gs.flatMap (fun i => Crypto.bytesLE 32 (s.granule i))
          let s1 := { s with spill := { s.spill with
            queue := s.spill.queue.map (fun (x : Spill) => if x.names ctx layer page then { x with writing := true } else x) } }
          let s2 := (s1.countReads gs).send (.nvmeWrite ⟨c.backing.target, c.backing.ns, c.backing.base + p.1, bytes.length⟩ bytes 4)
          gs.foldl (fun (s : State) g => s.bumpWide ((Blk.sluice (stackIx (stackOf g))).at Reg.SL_GRANULES_LO) 1) s2
  | _, _ => s

/-- SPILL_WRITE. -/
def execSpillWrite (stack : StackIx) (ctx layer page : Nat) (s : State) : Host.Outcome State Fault Refusal :=
  .next (s.spillWrite stack.val ctx layer page)

/-- The write of a spill ends. -/
def State.spillDone (s : State) (ctx layer page : Nat) (ok : Bool) : State :=
  match s.spill.queue.find? (fun q => q.names ctx layer page && q.writing), s.ctx? ctx with
  | some q, some c =>
    if !ok then s.dropSpill q
    else (s.frameStacks c).foldl (fun (s : State) k => s.bump ((Blk.sluice (stackIx k)).at Reg.SL_SPILLED) 1) (s.endSpill q)
  | _, _ => s

/-- SPILL_WRITE_COMPLETE. -/
def execSpillWriteComplete (ctx layer page : Nat) (ok : Bool) (s : State) : Host.Outcome State Fault Refusal :=
  .next (s.spillDone ctx layer page ok)

end Sys2Proof.Machine
end

