-- ==== Sys2Proof/Machine/ServeExec.lean ====
section
/-!
DEFINITION. Events of serving (R148, R218, R236, R237, R249, R255 to R260): the balancer, the Tombola, contexts
moving to and from their backing regions, loads, and the end of a plan's verification.
-/

namespace Sys2Proof.Machine

open Sys2Proof

/-! ### BALANCER_CHOOSE_ROWS (R255 to R257) -/

/-- Order of a request under the policy: those passed over too often first, then by deadline or by acceptance,
ties to the lower context index. -/
def Req.rank (b : Balance) (r : Req) : List Nat :=
  let late := flag (decide (r.passed < b.passLimit))
  if b.order = 1 then [late, r.order, r.f.ctx]
  else [late, flag (r.f.deadline == 0), r.f.deadline, r.f.ctx]

/-- What the balancer has left as it works through the requests. -/
structure BalAcc where
  places : Nat
  pairs : Nat
  /-- Adapter generations in use in the next tick. -/
  gens : List (Nat × Nat)
  /-- Free slots taken, by die. -/
  taken : Tbl Nat
  admits : List Admit
  passed : List (Nat × Nat)
  usedPairs : Nat

/-- Rows that make at most n new pages in a layer from a position, whose part page is resident. -/
def roomRows (pos n : Nat) : Nat := 128 * n + (if pos % 128 = 0 then 0 else 128 - pos % 128)

/-- Pages that rows from a position create. -/
def madePages (pos rows : Nat) : Nat := (pos + rows + 127) / 128 - (pos + 127) / 128

/-- Largest resident page count over the layers of a context, its pending truncation made. -/
def Ctx.residentMax (c : Ctx) : Nat :=
  let c1 := match c.truncate with
    | some p => c.truncateAt p []
    | none => c
  c1.tables.foldl (fun m t => max m t.2.length) 0

/-- Choose rows for one request (R257). -/
def State.chooseFor (s : State) (g : Nat) (p : BalAcc) (r : Req) : BalAcc :=
  match s.ctx? r.f.ctx with
  | none => p
  | some c =>
    let b := (s.grp g).balance
    let noSlot := decide ((s.freeSlots g c.homeDie).length ≤ p.taken.getD c.homeDie 0)
    let rows := min (min r.rowsLeft b.chunkMax) p.places
    let rows := min rows (roomRows r.pos (c.budget - 5))
    let rows := if rows = r.rowsLeft ∧ noSlot then rows - 1 else rows
    let pages := if (s.attnOf g).isEmpty then 0 else c.residentMax + madePages r.pos rows
    let rows := if pages = 0 then rows else min rows (p.pairs / pages)
    let gen := (r.f.adapter, r.adapterGen)
    let slots := ((s.inst g).active.map (fun x => x.load.manifest.adapterSlots)).getD 0
    if rows = 0 ∨ (rows < b.chunkMin ∧ rows < r.rowsLeft)
        ∨ (r.f.adapter ≠ 0 ∧ !(p.gens.contains gen) ∧ slots ≤ p.gens.length) then
      { p with passed := p.passed ++ [(r.sess, r.f.id)] }
    else
      let last := decide (rows = r.rowsLeft)
      { places := p.places - rows
        pairs := p.pairs - rows * pages
        gens := if r.f.adapter = 0 ∨ p.gens.contains gen then p.gens else p.gens ++ [gen]
        taken := if last then p.taken.upd c.homeDie 0 (· + 1) else p.taken
        admits := p.admits ++ [⟨r.sess, r.f.id, rows, last⟩]
        passed := p.passed
        usedPairs := p.usedPairs + rows * pages }

/-- The prefill rows of a group's next token step. -/
def State.chooseRows (s : State) (g : Nat) : State :=
  let x := s.grp g
  match x.current with
  | none => s
  | some pl =>
    if !x.running || !x.lastPhase then s
    else
      let seated := s.reqs.filter (fun r => r.group == g && r.slot.isSome)
      let gens := ((seated.filter (fun r => r.f.adapter != 0)).map (fun r => (r.f.adapter, r.adapterGen))).eraseDups
      let todo := sortBy (fun (a b : Req) => lexLt (a.rank x.balance) (b.rank x.balance))
        (s.reqs.filter (fun r => r.group == g && r.slot.isNone && r.ending.isNone && decide (0 < r.rowsLeft)))
      let p := todo.foldl (s.chooseFor g)
        { places := min x.balance.cap (pl.plan.prefillRows + (pl.plan.decodeRows - seated.length))
          pairs := s.pairBudget g, gens := gens, taken := [], admits := [], passed := [], usedPairs := 0 }
      let s1 := p.passed.foldl (fun (s : State) q => s.updReq q.1 q.2 (fun r => { r with passed := r.passed + 1 })) s
      s1.updGrp g (fun y => { y with
        chosen := p.admits, rowsLast := sumNats (p.admits.map (·.rows)), pairsLast := p.usedPairs
        passesLast := p.passed.length })

/-- BALANCER_CHOOSE_ROWS. -/
def execBalancerChooseRows (group : GroupIx) (s : State) : Host.Outcome State Fault Refusal := .next (s.chooseRows group.val)

/-! ### SAMPLE (R258 to R260) -/

/-- High and low words of a 32-bit product. -/
def mulHiLo (a b : Nat) : Nat × Nat := (a * b / 2 ^ 32, a * b % 2 ^ 32)

/-- Rounds of Philox4x32 with a key that is bumped after each (log 14). -/
def philoxRounds : Nat → List Nat → Nat → Nat → List Nat
  | 0, c, _, _ => c
  | n + 1, c, k0, k1 =>
    let p0 := mulHiLo 0xD2511F53 (c.getD 0 0)
    let p1 := mulHiLo 0xCD9E8D57 (c.getD 2 0)
    philoxRounds n [(p1.1 ^^^ c.getD 1 0) ^^^ k0, p1.2, (p0.1 ^^^ c.getD 3 0) ^^^ k1, p0.2]
      ((k0 + 0x9E3779B9) % 2 ^ 32) ((k1 + 0xBB67AE85) % 2 ^ 32)

/-- The draw u of a seed and a position (R260). -/
def drawU (seed pos : Nat) : Word :=
  let out := philoxRounds 10 [pos % 2 ^ 32, pos / 2 ^ 32 % 2 ^ 32, 0, 0] (seed % 2 ^ 32) (seed / 2 ^ 32 % 2 ^ 32)
  fpOfFrac ⟨(out.getD 0 0) / 256, 2 ^ 24⟩

/-- The logit of a token after the penalties (R258 step 2). -/
def Req.penalised (r : Req) (id : Nat) (z : Word) : Word :=
  let z := if fpIsNaN z then fpInf true else z
  let n := countOf r.counts id
  if n = 0 then z
  else
    let a := if fpLt 0 z then fpDiv z r.f.repPenalty else fpMul z r.f.repPenalty
    fpSub a (fpAdd r.f.presence (fpMul r.f.frequency (fpOfFrac (Frac.ofNat n))))

/-- Tokens in descending value, ties to the lower id. -/
def byValue (l : List (Nat × Word)) : List (Nat × Word) :=
  sortBy (fun (a b : Nat × Word) => fpLt b.2 a.2 || (!fpLt a.2 b.2 && decide (a.1 < b.1))) l

/-- Shortest leading part whose running sum reaches a target, with the sum of each entry. -/
def reach (target : Word) : Word → List (Nat × Word) → List (Nat × Word)
  | _, [] => []
  | sum, (i, p) :: rest =>
    let sum' := fpAdd sum p
    if fpLt sum' target then (i, sum') :: reach target sum' rest else [(i, sum')]

/-- The largest logit, ties to the lower id; none where every one is minus infinity. -/
def argMax (l : List (Nat × Word)) : Option (Nat × Word) :=
  (l.foldl (fun (m : Option (Nat × Word)) (x : Nat × Word) => match m with
    | none => some x
    | some y => if fpLt y.2 x.2 then some x else some y) none).filter (fun x => x.2 != fpInf true)

/-- The token a request draws from penalised logits at a position (R258 steps 3 to 8); none where no token can be
drawn. -/
def Req.draw (r : Req) (l : List (Nat × Word)) (pos : Nat) : Option Nat :=
  match argMax l with
  | none => none
  | some top =>
    if fpValue r.f.temperature = ⟨0, 1⟩ ∨ (fpValue r.f.temperature).num = 0 then some top.1
    else
      let k := if r.f.topK = 0 then 1024 else r.f.topK
      let z := (byValue (l.map (fun x => (x.1, fpDiv x.2 r.f.temperature)))).take k
      let zmax := (z.headD (0, 0)).2
      let p := byValue (z.map (fun x => (x.1,
        if zmax = fpInf false then (if x.2 = fpInf false then fpOfFrac ⟨1, 1⟩ else 0) else fpExp (fpSub x.2 zmax))))
      let kept := reach (fpMul r.f.topP (fpSum (p.map (·.2)))) 0 p
      let u := fpMul (drawU r.f.seed pos) (kept.getLastD (0, 0)).2
      ((kept.find? (fun x => !fpLt x.2 u)).orElse (fun _ => kept.getLast?)).map (·.1)

/-- A core ranks its slice of the vocabulary. -/
def State.countSlice (s : State) (c : Nat) (slice : List (Nat × Word)) : State :=
  let s1 := s.bump ((Blk.vec (coreIx c)).at Reg.TOMBOLA_SLICES) 1
  if (argMax slice).isNone then s1.bump ((Blk.vec (coreIx c)).at Reg.TOMBOLA_EMPTY) 1 else s1

/-- A sampled token is taken by its request. -/
def State.takeToken (s : State) (r : Req) (token : Nat) (failed : Bool) : State :=
  s.updReq r.sess r.f.id (fun q => { (q.count token) with
    token := some token, degraded := q.degraded || failed, ending := if failed then some 5 else q.ending })

/-- SAMPLE: a sequence of the running tick draws its token from the logits that cores hold, slice by slice. -/
def State.sample (s : State) (g sess req : Nat) (logits : List (CoreIx × VReg)) : State :=
  match s.req? sess req with
  | none => s
  | some r =>
    if r.group ≠ g ∨ r.slot.isNone ∨ r.token.isSome ∨ !(s.grp g).running ∨ !(s.grp g).lastPhase then s
    else
      let slices := logits.foldl (fun (acc : List (Nat × List (Nat × Word)) × Nat) p =>
        let v := s.vreg p.1.val p.2
        (acc.1 ++ [(p.1.val, v.zipIdx.map (fun x => (acc.2 + x.2, r.penalised (acc.2 + x.2) x.1)))], acc.2 + v.length)) ([], 0)
      let s1 := slices.1.foldl (fun (s : State) p => s.countSlice p.1 p.2) s
      let pos := ((s.ctx? r.f.ctx).map (fun c => c.length + c.grow.length)).getD 0
      match r.draw (slices.1.flatMap (·.2)) pos with
      | some t => s1.takeToken r t false
      | none =>
        match ((s.inst g).active.bind (fun x => x.load.manifest.endTokens.head?)) with
        | some t => s1.takeToken r t true
        | none =>
          let v := s1.freshValue 32
          v.2.takeToken r v.1.toNat true

/-- SAMPLE, as the records of the cores that hold the slices. -/
def execSample (group : GroupIx) (sess req : Nat) (logits : List (CoreIx × VReg)) (s : State) :
    Host.Outcome State Fault Refusal :=
  .next (if logits.all (fun p => s.mayIssue p.1.val clsSample 0) then
    (logits.foldl (fun (s : State) p => s.issue p.1.val clsSample 0) s).sample group.val sess req logits else s)

/-! ### Contexts that leave and return (R218, R245, R248) -/

/-- Notice of a context's move, where its reply comes more than 1 s after the command took effect (Table 10-6). -/
def State.moveNotice (s : State) (opcode ctx : Nat) (c : Ctx) (moved left : Nat) : State :=
  match c.origin with
  | some (sess, seq) =>
    if c.originAt + 1000000000 < s.time.ns then s.notice sess opcode seq .ok [ctx, moved, left] else s
  | none => s

/-- Reply to the command that moves a context. -/
def State.moveReply (s : State) (c : Ctx) (st : Status) (body : List Nat) : State :=
  match c.origin with
  | some (sess, seq) => s.reply sess seq st 0 0 body
  | none => s

/-- Pages moved are counted at the Sluices of a context's stacks. -/
def State.countMoved (s : State) (c : Ctx) (reg pages granules : Nat) : State :=
  (s.frameStacks c).foldl (fun (s : State) k =>
    (s.bump ((Blk.sluice (stackIx k)).at reg) pages).bumpWide ((Blk.sluice (stackIx k)).at Reg.SL_GRANULES_LO)
      (granules / (s.frameStacks c).length)) s

/-- Granules of the pages of a context. -/
def State.pagesGranules (s : State) (c : Ctx) : Nat :=
  sumNats (c.tables.map (fun t => t.2.length * ((s.attnEntry c.group t.1).map AttnEnt.pageGranules).getD 0))

/-- The write of a suspended context ends: it is freed, and the command is answered. -/
def State.suspendDone (s : State) (i : Nat) (leftOut : List (Nat × Nat)) : State :=
  match s.ctx? i with
  | none => s
  | some c =>
    if c.state ≠ .suspending then s
    else
      let pages := sumNats (c.tables.map (·.2.length))
      let moved := pages - leftOut.length
      let s1 := s.countMoved c Reg.SL_SPILLED moved (s.pagesGranules c)
      ((s1.freeCtx i).moveReply c .ok []).moveNotice 0x44 i c moved leftOut.length

/-- CTX_SUSPEND_COMPLETE. -/
def execCtxSuspendComplete (ctx : Nat) (leftOut : List (Nat × Nat)) (s : State) : Host.Outcome State Fault Refusal :=
  .next (s.suspendDone ctx leftOut)

/-- A restoration that cannot be made: the index is free again. -/
def State.restoreFails (s : State) (i : Nat) (c : Ctx) (st : Status) : State :=
  ({ s with contexts := s.contexts.del i }).moveReply c st []

/-- Pages of a layer that could be read take frames of the new reservation in order. -/
def placePages (free : List Nat) (t : List Pte) : List Pte × List Nat :=
  ((t.zip free).map (fun p => { p.1 with frame := p.2 }), free.drop t.length)

/-- A context read back in its new place (R248). -/
def State.restored (s : State) (i : Nat) (c rec' : Ctx) (bytes : List Byte) (start : Nat) (unreadable : List (Nat × Nat)) : State :=
  let r := s.reserveFrames c.group c.homeDie rec'.budget
  let tables := rec'.tables.map (fun t =>
    (t.1, placePages (r.1.getD t.1 []) (t.2.filter (fun e => !(unreadable.contains (t.1, e.page))))))
  let c1 := { rec' with
    group := c.group, homeDie := c.homeDie, key := c.key, tenant := c.tenant, tag := c.tag, backing := c.backing
    tables := tables.map (fun t => (t.1, t.2.1))
    free := tables.foldl (fun (f : Tbl (List Nat)) t => f.put t.1 t.2.2) r.1
    ptBase := c.ptBase
    state := if ((r.2.inst c.group).active.map (·.id)) = some rec'.stateGen then .idle else .stale
    origin := none, originAt := 0, dropPages := [], damaged := false, orphan := c.orphan
    evicted := false, masses := [], crossFill := [], truncate := none, grow := [], growBy := (0, 0, 0) }
  let s1 := { r.2 with contexts := r.2.contexts.put i c1 }
  let s2 := (s.imagePages c.group rec'.tables start).foldl (fun (s : State) p =>
    match (c1.tables.getD p.1 []).find? (fun e => e.page == p.2.1.page) with
    | none => s
    | some e =>
      let n := s.pageSize c.group p.1
      s.putAt (s.frameGranules c1 e.frame n) (imagePage bytes p.2.2 n)) s1
  let s3 := unreadable.foldl (fun (s : State) u =>
    s.note sevWarn "page not restored" unitPackage (Crypto.bytesLE 4 i ++ Crypto.bytesLE 4 u.1 ++ Crypto.bytesLE 4 u.2)) s2
  let moved := sumNats (c1.tables.map (·.2.length))
  let s4 := s3.countMoved c1 Reg.SL_RESTORED moved (s3.pagesGranules c1)
  (s4.moveReply c .ok [i]).moveNotice 0x45 i c moved unreadable.length

/-- The read of a context ends (R218, R248): its record must be of the same instance, key and tenant, and its
reservation must fit (log 35). -/
def State.restoreDone (s : State) (i : Nat) (image : Option (List Byte)) (unreadable : List (Nat × Nat)) : State :=
  match s.ctx? i with
  | none => s
  | some c =>
    if c.state ≠ .restoring then s
    else match (image.filter (fun _ => s.targetUsable c.backing.target c.backing.ns)).bind (fun b =>
        (s.contextOf c.group b).map (fun x => (b, x))) with
      | none => s.restoreFails i c .noResource
      | some (b, x, start) =>
        if x.key ≠ c.key ∨ x.tenant ≠ c.tenant then s.restoreFails i c .notAuthorised
        else if x.group ≠ c.group then s.restoreFails i c .conflict
        else if x.budget < 6 ∨ 512 < x.budget
            ∨ s.dieFree c.group c.homeDie < s.reserveGranules { x with homeDie := c.homeDie } then s.restoreFails i c .noResource
        else s.restored i c x b start unreadable

/-- CTX_RESTORE_COMPLETE. -/
def execCtxRestoreComplete (ctx : Nat) (image : Option (List Byte)) (unreadable : List (Nat × Nat)) (s : State) :
    Host.Outcome State Fault Refusal :=
  .next (s.restoreDone ctx image unreadable)

/-! ### Requests and loads -/

/-- REQ_TOKENS_TIMEOUT (R249). -/
def execReqTokensTimeout (sess req : Nat) (s : State) : Host.Outcome State Fault Refusal :=
  .next (s.dropPartial (fun x => x.awaits sess req))

/-- SHARD_FETCH (R236). -/
def execShardFetch (group : GroupIx) (ident : Option Nat) (shard : Nat) (s : State) : Host.Outcome State Fault Refusal :=
  .next (s.fetchShard group.val ident shard)

/-- SHARD_ATTEMPT_TIMEOUT (R237): the attempt in progress fails. -/
def execShardAttemptTimeout (group : GroupIx) (ident : Option Nat) (shard : Nat) (s : State) :
    Host.Outcome State Fault Refusal :=
  .next (match s.loading? group.val ident with
    | some l => if (l.shards.getD shard ShardState.init).active.isSome then s.attemptFails group.val ident shard false else s
    | none => s)

/-- SHARD_DIGEST_CHECK (R236). -/
def execShardDigestCheck (group : GroupIx) (ident : Option Nat) (shard : Nat) (data : List Byte) (s : State) :
    Host.Outcome State Fault Refusal :=
  .next (s.checkShard group.val ident shard data)

/-! ### PLAN_VERIFICATION_END (R148, R150, R165) -/

/-- A plan agrees with R150 and R165 on a group. -/
def State.bindingOk (s : State) (g : Nat) (p : Plan) : Bool :=
  let x := s.grp g
  s.namedInst g ⟨p, [], 0, false, 0⟩ != .none
  && (p.format != 2 ||
    (decide (x.chans.length ≤ 3) && decide ((x.chans.map (· / 3)).eraseDups.length = 1) && decide (p.cores.length ≤ 128)
      && !(s.groups.any (fun q => q.1 != g && match q.2.current with
        | some c => c.plan.format == 2
        | none => false))))

/-- Verification of a group's committed plan ends: accepted, it awaits a boundary; else it is rejected. -/
def State.verifyEnd (s : State) (g : Nat) : State :=
  match (s.grp g).staged with
  | none => s
  | some st =>
    if st.phase ≠ .verifying then s
    else
      let bs := st.upload.bytes.getD []
      let mask := match s.session? st.upload.sess with
        | some x => x.plans
        | none => formatsPlan
      if Crypto.sha256 bs ≠ st.upload.digest then s.rejectPlan g .digestMismatch noRecord
      else match verifyPlan bs ((List.range 8).filter mask.testBit) (s.grp g).chans.length (s.grp g).slots (s.bindingOk g)
          s.pkgThrottle with
        | (.accept usable, some p) => (s.updGrp g (fun x => { x with staged := some { st with
            phase := .verified, since := s.time.ns, plan := some ⟨p, st.upload.digest, st.upload.len, usable, s.pkgThrottle⟩
            computed := false } })).startCompute
        | (.invalid r, _) => s.rejectPlan g .planInvalid r
        | (.version, _) => s.rejectPlan g .version noRecord
        | (.digest, _) => s.rejectPlan g .digestMismatch noRecord
        | _ => s.rejectPlan g .conflict noRecord

def execPlanVerificationEnd (group : GroupIx) (s : State) : Host.Outcome State Fault Refusal := .next (s.verifyEnd group.val)

end Sys2Proof.Machine
end

