-- ==== Sys2Proof/Machine/FabricExec.lean ====
section
/-!
DEFINITION. Events of the fabric (R169, R176, R184, R185, R190 to R194, R297): transfers, checked flits, the
control network, stopped cores, failed stages and paths, and the Usher's computation.
-/

namespace Sys2Proof.Machine

open Sys2Proof

/-- Address of a register of a core router's block. -/
def crtReg (c o : Nat) : Nat := (Blk.crt (coreIx c)).at o

/-! ### Transfers (R176, R192) -/

/-- The core that a fault of a transfer is charged to: the one that reads, else the one it is for. -/
def transferCore (src dst : MemUnit) : Option Nat :=
  match src, dst with
  | .core c, _ => some c.val
  | _, .core c => some c.val
  | _, _ => none

/-- The local memory of a core. -/
def memIsCore (u : MemUnit) (c : Nat) : Bool :=
  match u with
  | .core k => k.val == c
  | .basin _ _ => false

/-- ECC counter of a memory. -/
def memEccReg : MemUnit → Nat
  | .core c => (Blk.lm (coreIx c.val)).at Reg.LM_ECC
  | .basin _ c => (Blk.xbar (clusterIx c.val)).at Reg.BASIN_ECC

/-- Memory as a transfer reads it, granule by granule: an uncorrectable one reads as zeros and is charged to the core
that reads (R412). -/
def State.readMem (s : State) (src : MemUnit) (charged : Option Nat) (off bytes : Nat) (errs : List GranErr) :
    List Byte × State :=
  let r := (List.range (ceilDiv bytes 32)).foldl (fun (acc : List Byte × State) i =>
    let q := eccRead (Crypto.natLE (acc.2.getMem src (off + 32 * i) 32)) (errsAt errs i false)
    match q.1 with
    | some v => (acc.1 ++ Crypto.bytesLE 32 v, if q.2 then acc.2.bumpLo (memEccReg src) 1 else acc.2)
    | none =>
      let unit := match charged with
        | some c => unitCore c
        | none => (memErrUnit src)
      let s1 := (acc.2.bumpHi (memEccReg src) 1).error sevError 0x0206 unit (s.memGroup src) none (off + 32 * i)
      let s2 := s1.degradeMem src
      (acc.1 ++ List.replicate 32 0, match charged with
        | some c => s2.countError c 1 2 2
        | none => s2)) ([], s)
  (r.1.take bytes, r.2)

def Transfer.names (t : Transfer) (src dst : MemUnit) (seq : Nat) : Bool := t.src == src && t.dst == dst && t.seq == seq

def State.dropTransfer (s : State) (src dst : MemUnit) (seq : Nat) : State :=
  { s with fabric := { s.fabric with transfers := s.fabric.transfers.filter (fun t => !t.names src dst seq) } }

/-- A memory's core is stopped, and counts the messages it refuses (R191). -/
def State.memStopped (s : State) : MemUnit → Bool
  | .core c => (s.core c.val).stopped
  | .basin _ _ => false
def State.refuseFor (s : State) : MemUnit → State
  | .core c => s.bump (crtReg c.val Reg.FENCE_NACKS) 1
  | .basin _ _ => s

/-- Pair of a transfer's source and destination, as the key of its sequence numbers. -/
def pairKey (src dst : MemUnit) : Nat := memNum src * 1024 + memNum dst

/-- XFER: the source reads its memory and keeps the data until acknowledged. A stopped destination refuses the message
(R191). -/
def State.xfer (s : State) (src dst : MemUnit) (srcOff dstOff bytes : Nat) (errs : List GranErr) (delivered : Bool) :
    State :=
  let r := s.readMem src (transferCore src dst) srcOff bytes errs
  if s.memStopped dst then r.2.refuseFor dst
  else
    let seq := r.2.fabric.nextSeq.getD (pairKey src dst) 0
    let t : Transfer := ⟨src, dst, seq, dstOff, r.1, 0, delivered⟩
    let s1 := { r.2 with fabric := { r.2.fabric with
      transfers := r.2.fabric.transfers ++ [t], nextSeq := r.2.fabric.nextSeq.put (pairKey src dst) (seq + 1) } }
    if delivered then s1.putMem dst dstOff r.1 else s1

/-- A transfer is the one that a record directs. -/
def State.transferIs (s : State) (g : Nat) (op : OpRec) (src dst : MemUnit) (srcOff dstOff : Nat) : Bool :=
  let x := s.grp g
  regionIs x.regions op.args.src op.args.srcOff src srcOff && regionIs x.regions op.args.dst op.args.dstOff dst dstOff

/-- The next transfer of a core's records is the one named. -/
def State.nextTransfer (s : State) (c : Nat) (src dst : MemUnit) (srcOff dstOff : Nat) : Bool :=
  match (s.core c).group, s.nextOn c clsXfer 0 with
  | some g, some r => s.transferIs g r.2 src dst srcOff dstOff
  | _, _ => false

/-- A transfer that a stopped core owes is taken as zeros, and the tokens it serves carry DEGRADED (R191). -/
def State.owedXfer (s : State) (c : Nat) (dst : MemUnit) (dstOff bytes : Nat) : State :=
  ((s.issue c clsXfer 0).putMem dst dstOff (List.replicate bytes 0)).degradeMem dst

/-- XFER, as a record of the core that it leaves, or of the one that it is for where it leaves a Basin. -/
def execXfer (src dst : MemUnit) (srcOff dstOff bytes : Nat) (errs : List GranErr) (delivered : Bool) (s : State) :
    Host.Outcome State Fault Refusal :=
  .next (match transferCore src dst with
    | some c =>
      if !(s.nextTransfer c src dst srcOff dstOff) then s
      else if s.owesRecord c clsXfer 0 && memIsCore src c then s.owedXfer c dst dstOff bytes
      else s.planOp c clsXfer 0 (fun s => s.xfer src dst srcOff dstOff bytes errs delivered)
    | none => if s.memRuns src then s.xfer src dst srcOff dstOff bytes errs delivered else s)

/-- TRANSFER_ACK: the source releases what it kept of a transfer that has arrived. -/
def execTransferAck (src dst : MemUnit) (seq : Nat) (s : State) : Host.Outcome State Fault Refusal :=
  .next (if s.fabric.transfers.any (fun t => t.names src dst seq && t.delivered)
    then s.dropTransfer src dst seq else s)

/-- A transfer that is owed is taken as zeros, and its tokens carry DEGRADED (R191, R192). -/
def State.oweZeros (s : State) (t : Transfer) : State :=
  let s1 := s.dropTransfer t.src t.dst t.seq
  if t.delivered then s1 else (s1.putMem t.dst t.dstOff (List.replicate t.data.length 0)).degradeMem t.dst

/-- Resends of a core's transfers are counted at its router. -/
def State.countResend (s : State) : MemUnit → State
  | .core c => (s.bump (Blk.usher.at Reg.E2E_RESENDS) 1).bump (crtReg c.val Reg.RESENDS) 1
  | .basin _ _ => s.bump (Blk.usher.at Reg.E2E_RESENDS) 1

/-- TRANSFER_RESEND: 2,048 NoC clocks without acknowledgement; after four resends the transfer fails. -/
def State.resend (s : State) (src dst : MemUnit) (seq : Nat) (delivered : Bool) : State :=
  match s.fabric.transfers.find? (fun t => t.names src dst seq) with
  | none => s
  | some t =>
    if 4 ≤ t.resends then
      ((s.oweZeros t).bump (Blk.usher.at Reg.E2E_FAILED) 1).error sevError 0x0301 (memErrUnit src) (s.memGroup src) none (memCoreNum dst)
    else
      let t1 := { t with resends := t.resends + 1, delivered := t.delivered || delivered }
      let s1 := { s with fabric := { s.fabric with
        transfers := s.fabric.transfers.map (fun (x : Transfer) => if x.names src dst seq then t1 else x) } }
      let s2 := s1.countResend src
      if delivered && !t.delivered then s2.putMem dst t.dstOff t.data else s2

def execTransferResend (src dst : MemUnit) (seq : Nat) (delivered : Bool) (s : State) : Host.Outcome State Fault Refusal :=
  .next (s.resend src dst seq delivered)

/-! ### FLIT_RECEIVED (R169, R178, R332) -/

/-- Count a flit's check: as separate counters, or as the halves of one. -/
def State.countCheck (s : State) (fixed bad : Bool) (fix lost : State → State) : State :=
  if bad then lost s else if fixed then fix s else s

/-- Number of an arbitrated unit, and the cluster whose block counts its promotions. -/
def hopNum : HopUnit → Nat
  | .router c => c.val
  | .crossbar c => 32 + c.val
  | .basin c => 64 + c.val / 18
  | .stack k => 96 + k.val
  | .link d south => 108 + linkKey d.val south
  | .core c => 116 + c.val
def hopCluster : HopUnit → Option Nat
  | .router c => some c.val
  | .crossbar c => some c.val
  | .basin c => some (c.val / 18)
  | _ => none

/-- An input at an output, as the key of its consecutive losses. -/
def lossKey (hop : HopUnit) (port input : Nat) : Nat := (hopNum hop * 64 + port) * 64 + input

/-- An input is promoted at an output: it has lost there eight times in a row (R179). -/
def State.promotedAt (s : State) (hop : HopUnit) (port input : Nat) : Bool :=
  decide (8 ≤ s.fabric.losses.getD (lossKey hop port input) 0)

/-- An arbitration (R179): the input granted has its losses reset, every loser counts one more, and an eighth loss promotes.
Clocks in which a Basin slice or a stack's controller leaves a request waiting are counted. -/
def State.arbitrate (s : State) (hop : HopUnit) (a : FlitArb) : State :=
  let won := s.fabric.losses.del (lossKey hop a.port a.input)
  let lost := a.losers.foldl (fun (t : Tbl Nat) i => t.upd (lossKey hop a.port i) 0 (· + 1)) won
  let s1 := { s with fabric := { s.fabric with losses := lost } }
  let up := (a.losers.filter (fun i => lost.getD (lossKey hop a.port i) 0 == 8)).length
  let s2 := match hopCluster hop with
    | some c => s1.bump ((Blk.xbar (clusterIx c)).at Reg.PROMOTIONS) up
    | none => s1
  let waits := flag (!a.losers.isEmpty)
  match hop with
  | .basin c => s2.bump ((Blk.xbar (clusterIx (c.val / 18))).at Reg.SLICE_WAITS) waits
  | .stack k => s2.bump ((Blk.mc k).at Reg.MC_WAITS) waits
  | _ => s2

/-- A flit is checked; a tag with a parity error is as bad as an uncorrectable granule. A Basin read is charged to
the core that reads (R412). -/
def State.checkFlit (s : State) (hop : HopUnit) (data : Nat) (errs : SymErrs) (tagBad : Bool) : State :=
  let r := eccRead data errs
  let bad := tagBad || r.1.isNone
  let cluster := fun (c : Nat) (s : State) =>
    let b := Blk.xbar (clusterIx c)
    s.countCheck r.2 bad (fun s => s.bump (b.at Reg.CORRECTED) 1) (fun s => s.bump (b.at Reg.UNCORRECTABLE) 1)
  match hop with
  | .router c => cluster c.val s
  | .crossbar c => cluster c.val s
  | .core c => s.countCheck r.2 bad (fun s => s.bumpLo (crtReg c.val Reg.CR_ECC) 1) (fun s => s.bumpHi (crtReg c.val Reg.CR_ECC) 1)
  | .link d south =>
    let b := Blk.dlink d south
    s.countCheck r.2 bad (fun s => s.bump (b.at Reg.DL_CORRECTED) 1) (fun s => s.bump (b.at Reg.DL_UNCORRECTABLE) 1)
  | .basin c =>
    let at' := (Blk.xbar (clusterIx (c.val / 18))).at Reg.BASIN_ECC
    s.countCheck r.2 bad (fun s => s.bumpLo at' 1) (fun s =>
      (((s.bumpHi at' 1).error sevError 0x0206 (unitCore c.val) (s.core c.val).group none 0xFFFFFFFF).degradeCore c.val).countError
        c.val 1 2 2)
  | .stack _ => s

/-- FLIT_RECEIVED: a flit that was granted its slot is checked where it arrives. -/
def execFlitReceived (hop : HopUnit) (data : Nat) (errs : SymErrs) (tagParity : Bool) (arb : FlitArb) (s : State) :
    Host.Outcome State Fault Refusal :=
  .next ((s.arbitrate hop arb).checkFlit hop data errs tagParity)

/-! ### The control network (R184, R185) -/

/-- Hop attempts of a message that fail before one succeeds. -/
def failedHops (data : Nat) : List SymErrs → Nat
  | [] => 0
  | e :: rest => if (eccRead data e).1.isNone then failedHops data rest + 1 else 0

/-- CONTROL_MESSAGE_HOP: a refused message is resent up to three times; a fourth failure bypasses the segment. Hubs that overrun
fail every check (Table 11-3). -/
def State.controlHop (s : State) (k : Nat) (core : Option CoreIx) (data : Nat) (errs : List SymErrs) : State :=
  if 36 ≤ k ∨ !s.fabric.segTrained ∨ (s.fabric.segDown.get? k).isSome then s
  else
    let n := if s.hubsOverrun (segmentDie k) then 4 else failedHops data (errs.take 4)
    let s1 := (List.range n).foldl (fun (s : State) _ => s.send (.hopNack k)) s
    let s2 := match core with
      | some c =>
        let s2 := s1.bumpHi (crtReg c.val Reg.CN_COUNTS) (min n 3)
        if n < 4 then s2.bumpLo (crtReg c.val Reg.CN_COUNTS) 1 else s2
      | none => s1
    if n < 4 then s2 else { s2 with fabric := { s2.fabric with segDown := s2.fabric.segDown.put k 0 } }

def execControlMessageHop (segment : Nat) (core : Option CoreIx) (data : Nat) (errs : List SymErrs) (s : State) :
    Host.Outcome State Fault Refusal :=
  .next (s.controlHop segment core data errs)

/-- CN_SEGMENT_RETRAIN, at most once per second: a segment retrained returns at the first boundary, or at once where none comes; three
failures leave it bypassed. -/
def State.retrainSegment (s : State) (k : Nat) (ok : Bool) : State :=
  match s.fabric.segDown.get? k with
  | none => s
  | some fails =>
    let soon : Bool := match s.fabric.segTried.get? k with
      | some t => decide (s.time.ns < t + 1000000000)
      | none => false
    if 3 ≤ fails ∨ s.fabric.segReturning.contains k ∨ soon then s
    else
      let s0 := { s with fabric := { s.fabric with segTried := s.fabric.segTried.put k s.time.ns } }
      let s1 := s0.bump (Blk.usher.at Reg.CN_RETRAINS) 1
      if ok then
        let s2 := { s1 with fabric := { s1.fabric with segReturning := s1.fabric.segReturning ++ [k] } }
        if s2.groups.any (fun p => p.2.ticking) then s2 else s2.returnSegments
      else
        let s2 := { s1 with fabric := { s1.fabric with segDown := s1.fabric.segDown.put k (fails + 1) } }
        if fails + 1 = 3 then s2.error sevError 0x0302 (segmentUnit k) none none k else s2

def execCnSegmentRetrain (segment : Nat) (ok : Bool) (s : State) : Host.Outcome State Fault Refusal :=
  .next (s.retrainSegment segment ok)

/-! ### Stopped cores (R191) -/

/-- Fences that no boundary will bring are made at once (log 16). -/
def State.fenceIdle (s : State) (c : Nat) : State := if s.groups.any (fun p => p.2.ticking) then s else s.fenceNow c

/-- A core is stopped: what it owes in the tick is taken as zeros, messages for it are refused, and it is fenced
with cause 7 and any further cause. -/
def State.haltCore (s : State) (c : Nat) (cause : Nat) : State :=
  if (s.core c).stopped then (s.fence c cause).fenceIdle c
  else
    let k := s.core c
    let s1 := (s.stopCore c (k.causes ||| k.due ||| 2 ^ 7 ||| 2 ^ cause)).fence c cause
    let s2 := if k.lcore.isSome then s1.degradeCore c else s1
    let s3 := (s2.fabric.transfers.filter (fun t => memIsCore t.src c)).foldl State.oweZeros s2
    let s4 := (s3.fabric.transfers.filter (fun t => memIsCore t.dst c)).foldl (fun (s : State) t =>
      (s.dropTransfer t.src t.dst t.seq).bump (crtReg c Reg.FENCE_NACKS) 1) s3
    s4.fenceIdle c

/-- CORE_STOP. -/
def execCoreStop (core : CoreIx) (s : State) : Host.Outcome State Fault Refusal := .next (s.haltCore core.val 7)

/-! ### Lost paths (R193, R194, Table 7-6) -/

/-- A stack is unreachable: its channel is marked failed at the next boundary, or at once where none comes. -/
def State.loseStack (s : State) (k : Nat) : State :=
  if (s.stack k).failed ∨ s.fabric.lostStacks.contains k then s
  else
    let s1 := { s with fabric := { s.fabric with lostStacks := s.fabric.lostStacks ++ [k] } }
    if s1.groups.any (fun p => p.2.ticking) then s1 else s1.failLost

/-- A die link is out of service at both ends. -/
def State.loseLink (s : State) (d : Nat) (south : Bool) : State :=
  let far := linkKey (linkPeer d south) (!south)
  { s with fabric := { s.fabric with
      linkUp := maskOf 8 (fun i => s.fabric.linkUp.testBit i && i != linkKey d south && i != far) } }

/-- Stacks whose controllers lie at a cluster. -/
def clusterStacks (c : Nat) : List Nat :=
  ((List.range 3).map (fun j => c / 8 * 3 + j)).filter (fun k => stackCluster k == c % 8)

/-- A cluster that nothing reaches: its cores are stopped and fenced with cause 10, its stacks are lost. -/
def State.cutOff (s : State) (c : Nat) : State :=
  let s1 := ((List.range 18).map (· + 18 * c)).foldl (fun (s : State) k =>
    if (s.core k).fenced && (s.core k).causes.testBit 10 then s else s.haltCore k 10) s
  (clusterStacks c).foldl State.loseStack s1

/-- What a fault cuts off is isolated; before the die links have trained nothing is (R316). -/
def State.isolate (s : State) : State :=
  if s.boot.phase ≤ 3 then s else s.unreached.foldl State.cutOff s

/-- Routes and reservations are to be computed again for every group that runs (R194). -/
def State.fabricChanged (s : State) : State := s.isolate.needBindAll 3

/-- What a router port led to is lost. -/
def State.losePort (s : State) (c dir : Nat) : State :=
  match portKind c dir with
  | 1 => { s with fabric := { s.fabric with meshDown := (s.fabric.meshDown ++ [dirKey c dir]).eraseDups } }.fabricChanged
  | 2 => (clusterStacks c).foldl State.loseStack s
  | 4 => (s.loseLink (c / 8) (decide (c % 8 = 6))).fabricChanged
  | 3 => s.goSafe false unitPort []
  | 6 => s.goSafe false unitControl []
  | _ => s

/-- A cluster's router fails. -/
def State.loseRouter (s : State) (c : Nat) : State :=
  let s1 := { s with fabric := { s.fabric with routerDown := (s.fabric.routerDown ++ [c]).eraseDups } }
  let s2 := if c % 8 = 7 then s1.loseLink (c / 8) false else if c % 8 = 6 then s1.loseLink (c / 8) true else s1
  let s3 := s2.cutOff c
  if c = 0 ∨ c = 3 then s3.goSafe false (unitCluster c) [] else s3.fabricChanged

/-- STAGE_FAILOVER: the stage moves to its standby core, and the core whose router failed is stopped; a fault of the
standby too loses what the port led to. -/
def State.failStage (s : State) (c dir : Nat) : State :=
  let key := dirKey c dir
  if dir = 0 ∨ 4 < dir ∨ portKind c dir = 0 ∨ s.fabric.stageDead.contains key then s
  else
    let cores := stageCores dir
    let first := !(s.fabric.onStandby.contains key)
    let k := 18 * c + (if first then cores.1 else cores.2)
    let s1 := s.updCore k (fun x => { x with stageFault := true })
    if first then
      { s1 with fabric := { s1.fabric with onStandby := s1.fabric.onStandby ++ [key] } }.haltCore k 7
    else
      ({ s1 with fabric := { s1.fabric with stageDead := s1.fabric.stageDead ++ [key] } }.haltCore k 7).losePort c dir

def execStageFailover (c : ClusterIx) (dir : Nat) (s : State) : Host.Outcome State Fault Refusal := .next (s.failStage c.val dir)

/-- FABRIC_PATH_FAULT (Table 7-6). -/
def State.pathFault (s : State) : PathFault → State
  | .meshLink d c dir => if portKind (8 * d.val + c % 8) dir = 1 then s.losePort (8 * d.val + c % 8) dir else s
  | .meshRouter c => s.loseRouter c.val
  | .dieLink d south => (s.loseLink d.val south).fabricChanged
  | .stackEdge k => s.loseStack k.val
  | .portEdge => s.goSafe false unitPort []

def execFabricPathFault (f : PathFault) (s : State) : Host.Outcome State Fault Refusal := .next (s.pathFault f)

/-- USHER_COMPUTE_DONE (R190). -/
def execUsherComputeDone (micros : Nat) (s : State) : Host.Outcome State Fault Refusal := .next (s.computeDone micros)

/-! ### DIE_LINK_RETRAIN (R297) -/

/-- A die link's clock is exactly twice the NoC clock of its die (Table 11-3). -/
def State.linkClockOk (s : State) (d : Nat) (south : Bool) : Bool :=
  let dom := fun (j : Nat) => (s.dom (9 * d + j)).mhz
  decide (dom (if south then 7 else 6) = 2 * dom 1)

/-- Cause 10 keeps a core's fence permanent only while it cannot be reached (R346). -/
def State.reachAgain (s : State) : State :=
  let lost := s.unreached
  { s with cores := s.cores.map (fun (p : Nat × CoreState) =>
      if lost.contains (p.1 / 18) ∨ s.fabric.routerDown.contains (p.1 / 18) then p
      else (p.1, { p.2 with permanent := p.2.permanent && p.2.causes.testBit 4 })) }

/-- A link that is out of service is retrained. -/
def State.retrainLink (s : State) (d : Nat) (south ok : Bool) : State :=
  if s.fabric.linkWorks d south then s
  else
    let s1 := s.bump ((Blk.dlink (dieIx d) south).at Reg.DL_RETRAINS) 1
    let far := linkPeer d south
    if ok && s.linkClockOk d south && s.linkClockOk far (!south) then
      let bits := 2 ^ linkKey d south ||| 2 ^ linkKey far (!south)
      let s2 := { s1 with fabric := { s1.fabric with
        linkUp := s1.fabric.linkUp ||| bits, linkTrained := s1.fabric.linkTrained ||| bits } }
      s2.reachAgain.needBindAll 3
    else s1

def execDieLinkRetrain (die : DieIx) (south ok : Bool) (s : State) : Host.Outcome State Fault Refusal :=
  .next (s.retrainLink die.val south ok)

end Sys2Proof.Machine
end

