-- ==== Sys2Proof/Machine/CalExec.lean ====
section
/-!
DEFINITION. Events of maintenance: calibration runs and their steps (R118, R123, R130, R131), the test of a
core that returns to service (R347), probe packs (R348 to R351), and scrub (R334 to R336, R412).
-/

namespace Sys2Proof.Machine

open Sys2Proof

/-! ### Slots (R119, R155) -/

/-- Length of the maintenance slot an engine has now: any length on a core without plan work, what is left of the
group's window of at least 1,692 clocks on an engine whose plan work has finished, none else. -/
def State.slotOf (s : State) (k : Nat) : Option Nat :=
  let c := arrCore k
  match (s.core c).group with
  | none => some 0xFFFFFFFF
  | some g =>
    let x := s.grp g
    if !x.ticking || (x.suspended && !x.ticked) then some 0xFFFFFFFF
    else if x.maint && decide (1692 ≤ (x.variant.map (·.maint)).getD 0) then x.idleEngs.get? (k / 2)
    else none

/-- A slot of at least some length. -/
def State.slotFits (s : State) (k n : Nat) : Bool :=
  match s.slotOf k with
  | some m => decide (n ≤ m)
  | none => false

/-- Maintenance work takes some clocks of an engine's slot. -/
def State.takeClocks (s : State) (e clocks : Nat) : State :=
  match (s.core (e / 16)).group with
  | some g => s.updGrp g (fun x => { x with idleEngs := x.idleEngs.map (fun p => if p.1 = e then (e, p.2 - clocks) else p) })
  | none => s

/-- A calibration step takes its clocks of an engine's slot, loads its tile, performs its fires, and leaves its array
without a plan tile. -/
def State.useSlot (s : State) (k clocks fires : Nat) : State :=
  ((s.takeClocks (k / 2) clocks).updArr k (fun a => { a with
    phase := .empty, tile := none, cells := [], abandoned := false, lost := none, reread := none })).countCal k fires 1

/-- The clocks of the next step that a run awaits: its calibration step, a spare step or a row localisation (R118). -/
def CalRun.stepClocks (r : CalRun) : Nat :=
  if r.phase = .sampling then 1692 else if r.need.isEmpty then 996 else 1476

/-- Tick of a core's group, by which a second run of a failed segment awaits another window. -/
def State.coreTick (s : State) (c : Nat) : Nat :=
  match (s.core c).group with
  | some g => if (s.grp g).ticking then (s.grp g).tick + 1 else 0
  | none => 0

/-- A step of class 1 or 2 awaits a slot that an engine has now: it goes before probe packs and before the steps of
other classes (R130). -/
def State.urgentStep (s : State) (e : Nat) : Bool :=
  [2 * e, 2 * e + 1].any (fun k => match (s.arr k).cal.running with
    | some r => decide (r.cls ≤ 2) && decide (r.phase ≠ .ready) && s.slotFits k r.stepClocks
    | none => false)

/-- A core has an array segment of the sweep to run now, which goes before steps of classes 3 to 5 (R130, R350). -/
def State.probeDue (s : State) (c : Nat) : Bool :=
  match s.probe.held with
  | some p =>
    s.probe.sweeping && s.good c && !(s.core c).fenced && !(s.core c).stopped && !(s.probe.ran.contains c)
      && !(s.probe.failedCores.contains c)
      && !(decide (s.coreTick c ≠ 0) && s.probe.retry.get? c == some (s.coreTick c))
      && ((p.segments[s.probe.nextSeg.getD c 0]?).map (fun x => x.kind == 0)).getD false
  | none => false

/-- No boundary is to come that a run could commit at: it commits at once (log 134). -/
def State.commitOff (s : State) (k : Nat) : State :=
  if s.groups.any (fun p => p.2.ticking) then s else s.commitDue k

/-! ### Calibration runs (R130, R131) -/

/-- CAL_RUN_START: the run at the head of the queue leaves it. -/
def execCalRunStart (core : CoreIx) (eng : EngIx) (arrB : Bool) (s : State) : Host.Outcome State Fault Refusal :=
  .next (if s.queueHead = some (arrKey core eng arrB) then s.startRun (arrKey core eng arrB) else s)

/-- A step of the run of an array may take place: it is of a run in a given phase, its slot fits, and its turn has come
(R119, R130). -/
def State.stepMay (s : State) (k : Nat) (ph : RunPhase) (clocks : Nat) : Bool :=
  match (s.arr k).cal.run with
  | some r =>
    decide (r.phase = ph) && s.slotFits k clocks && s.unitRuns (arrCore k)
      && (decide (r.cls ≤ 2) || !(s.urgentStep (k / 2) || s.probeDue (arrCore k)))
  | none => false

/-- CAL_STEP: the load, the sweep of 56 fires and the row test of 9. -/
def execCalStep (core : CoreIx) (eng : EngIx) (arrB : Bool) (sweep : SweepReads) (rows : RowReads) (s : State) :
    Host.Outcome State Fault Refusal :=
  let k := arrKey core eng arrB
  .next (if s.stepMay k .sampling 1692 then ((s.useSlot k 1692 65).calStepDone k sweep rows).commitOff k else s)

/-- CAL_SPARE_STEP: the load and the sweep, with every candidate spare on its column's converter. -/
def execCalSpareStep (core : CoreIx) (eng : EngIx) (arrB : Bool) (spares : SweepReads) (s : State) :
    Host.Outcome State Fault Refusal :=
  let k := arrKey core eng arrB
  .next (if s.stepMay k .stepped 1476 then ((s.useSlot k 1476 56).spareStepDone k spares).commitOff k else s)

/-- CAL_ROW_LOCALISATION: the nine row-test vectors on each row group. -/
def execCalRowLocalisation (core : CoreIx) (eng : EngIx) (arrB : Bool) (rows : List (Nat × Int)) (s : State) :
    Host.Outcome State Fault Refusal :=
  let k := arrKey core eng arrB
  .next (if s.stepMay k .stepped 996 then ((s.useSlot k 996 36).rowStepDone k rows).commitOff k else s)

/-- CAL_RUN_ABANDON. -/
def execCalRunAbandon (core : CoreIx) (eng : EngIx) (arrB : Bool) (s : State) : Host.Outcome State Fault Refusal :=
  let k := arrKey core eng arrB
  .next (if s.abandonDue k then s.abandonRun k else s)

/-- CAL_INTERVAL_REQUEST: a run of class 5 once CAL_INTERVAL_S have passed since the last commit. -/
def execCalIntervalRequest (core : CoreIx) (eng : EngIx) (arrB : Bool) (s : State) : Host.Outcome State Fault Refusal :=
  let k := arrKey core eng arrB
  .next (if s.calAuto && s.good core.val && decide ((s.arr k).cal.lastCommit + s.calInterval ≤ s.opS) then
      s.requestRun k 5
    else s)

/-! ### CORE_UNFENCE_TEST_DONE (R347) -/

/-- The test fails: the core stays fenced with bit 0 set, and the test that failed is recorded. -/
def State.unfenceFails (s : State) (c test : Nat) : State :=
  (s.updCore c (fun k => { k with causes := k.causes ||| 1, testing := false })).error sevError 0x0405 (unitCore c)
    (s.core c).group none test

/-- The test ends: the census self-test, then start-up calibration; a fault found meanwhile fails it. The number
of a test other than the census's own is a free value (log 6). -/
def State.unfenceTest (s : State) (c : Nat) (failed : Option Nat) (reads : List StartupReads) : State :=
  if !(s.core c).testing then s
  else match failed with
    | some n => s.unfenceFails c n
    | none =>
      let r := s.startupCore c reads
      if r.2 = 0 ∧ (r.1.core c).due = 0 then r.1.unfence c
      else
        let v := r.1.freshValue 32
        v.2.unfenceFails c v.1.toNat

def execCoreUnfenceTestDone (core : CoreIx) (failed : Option Nat) (reads : List StartupReads) (s : State) :
    Host.Outcome State Fault Refusal :=
  .next (s.unfenceTest core.val failed reads)

/-! ### Probe packs (R348 to R351) -/

def probeMagic : Nat := 0x4B50384D

/-- A segment's kind and tolerance are in range. -/
def ProbeSeg.ok (x : ProbeSeg) : Bool := decide (x.kind ≤ 4) && (x.kind != 0 || decide (1 ≤ x.tol ∧ x.tol ≤ 64 ∧ x.entries ≤ 5))

/-- The pack that bytes spell, if header and segments are in range (Table 13-9). -/
def parsePack (bs : List Byte) : Option ProbePack :=
  let n := le bs 0x18 4
  let t := le bs 0x1C 4
  if le bs 0 4 = probeMagic ∧ le bs 4 4 = 1 ∧ le bs 0x14 4 = bs.length ∧ bs.length ≤ 2 ^ 26 ∧ 1 ≤ n ∧ n ≤ 65535
      ∧ 60 ≤ t ∧ t ≤ 604800 then
    match Config.probeSegments bs (le bs 0x20 4) n with
    | some l =>
      if l.length = n ∧ l.all ProbeSeg.ok then
        some { id := le bs 8 8, interval := t, segments := l, keyId := le bs 0x10 4 }
      else none
    | none => none
  else none

/-- The checks of R386 and R349 on a pack's bytes, in order. -/
def State.checkPack (s : State) (bs : List Byte) : Except Status ProbePack :=
  match s.keyOf (le bs 0x10 4) with
  | none => .error .notAuthorised
  | some k =>
    if k.levels = 0 ∨ k.roles.testBit 2 = false then .error .notAuthorised
    else if !signedBy bs (le bs 0x24 4) k then .error .badSignature
    else match parsePack bs with
      | none => .error .planInvalid
      | some p => .ok p

/-- A fetch ends with the pack's bytes, or without: it is tried again up to three times. -/
def State.packFetched (s : State) (pack : Option (List Byte)) : State :=
  match s.probe.loading with
  | none => s
  | some f =>
    let s1 := { s with probe := { s.probe with loading := none } }
    match pack with
    | none =>
      if s.probe.fetches < 4 then
        ({ s with probe := { s.probe with fetches := s.probe.fetches + 1 } }).send (.nvmeRead f.loc 4)
      else s1.notice f.sess 0x72 f.seq .shardMissing [0, 0, 0]
    | some bs =>
      match s.checkPack bs with
      | .error st => (s1.countVerify st).notice f.sess 0x72 f.seq st [le bs 8 8, 0, 0]
      | .ok p =>
        let s2 := { s1 with probe := { s1.probe with next := some p, nextOrigin := some (f.sess, f.seq) } }
        let s3 := s2.notice f.sess 0x72 f.seq .ok [p.id, 0, 0]
        if s3.groups.any (fun q => q.2.ticking) then s3 else s3.takePack

def execProbePackFetchDone (pack : Option (List Byte)) (s : State) : Host.Outcome State Fault Refusal :=
  .next (s.packFetched pack)

/-- A sweep begins: at verification, and INTERVAL_S after the one before began. -/
def State.startSweep (s : State) : State :=
  match s.probe.held with
  | none => s
  | some p =>
    if s.probe.sweeping || (s.probe.lastSweep != 0 && decide (s.time.ns < s.probe.lastSweep + p.interval * 1000000000)) then s
    else
      { s with
        probe := { s.probe with
          sweeping := true, sweeps := s.probe.sweeps + 1, lastSweep := s.time.ns, ran := [], failedCores := []
          nextSeg := [], retry := [] }
        cores := s.cores.map (fun (k : Nat × CoreState) => (k.1, { k.2 with probeResult := 0, probeFirst := 0 })) }

def execProbeSweepStart (s : State) : Host.Outcome State Fault Refusal := .next s.startSweep

/-- A segment's results are those expected: of an array segment each within its tolerance. -/
def ProbeSeg.passes (x : ProbeSeg) (results : List Int) : Bool :=
  if x.kind = 0 then
    decide (results.length = x.expected.length)
      && (results.zip x.expected).all (fun (p : Int × Int) => decide ((p.1 - p.2).natAbs ≤ x.tol))
  else decide (results = x.expected)

/-- A core has plan work: its group runs ticks. -/
def State.planWork (s : State) (c : Nat) : Bool :=
  match (s.core c).group with
  | none => false
  | some g => (s.grp g).ticking && !((s.grp g).suspended && !(s.grp g).ticked)

/-- The engine that runs a core's next array segment: of the window's engines in turn, the first with room for a whole
segment, of 256 clocks (log 135). -/
def State.probeEngine (s : State) (c : Nat) : Option Nat :=
  ((s.groupOf c).idleEngs.find? (fun p => p.1 / 16 == c && decide (256 ≤ p.2))).map (·.1)

/-- A core may run a segment of a kind: at any time without plan work, else in its group's window, on an engine with
room if the segment is an array's; after steps of classes 1 and 2 (R130, R350). -/
def State.probeMay (s : State) (c kind : Nat) : Bool :=
  s.unitRuns c && !(s.core c).fenced && !((List.range 16).any (fun e => s.urgentStep (16 * c + e)))
  && (!(s.planWork c) || ((s.groupOf c).maint && (kind != 0 || (s.probeEngine c).isSome)))

/-- An array segment takes its slot, and its tile and fires take array A of the engine: of an unassigned core the
engines in turn (log 135). -/
def State.takeSegment (s : State) (c n : Nat) (x : ProbeSeg) : State :=
  if x.kind = 0 then s.useSlot (2 * (s.probeEngine c).getD (16 * c + n % 16)) 256 x.entries else s

/-- A segment has its expected results, on a core that has run all before it. -/
def State.segmentPassed (s : State) (c n total : Nat) : State :=
  let s1 := { s with probe := { s.probe with nextSeg := s.probe.nextSeg.put c (n + 1), retry := s.probe.retry.del c } }
  if n + 1 = total then
    ({ s1 with probe := { s1.probe with ran := s1.probe.ran ++ [c] } }.updCore c (fun k => { k with probeResult := 1 })).sweepOver
  else s1

/-- A segment fails: it is run again in the core's next window, and a second failure fails the core (R351). -/
def State.segmentFailed (s : State) (c n : Nat) : State :=
  if (s.probe.retry.get? c).isNone then { s with probe := { s.probe with retry := s.probe.retry.put c (s.coreTick c) } }
  else
    let s1 := { s with probe := { s.probe with failedCores := s.probe.failedCores ++ [c], retry := s.probe.retry.del c } }
    let s2 := s1.updCore c (fun k => { k with probeResult := 2, probeFirst := n })
    ((s2.error sevError 0x0406 (unitCore c) (s.core c).group none n).fenceSoon c 8).sweepOver

/-- A core runs a segment of the sweep. -/
def State.runSegment (s : State) (c n : Nat) (results : List Int) : State :=
  match s.probe.held with
  | none => s
  | some p =>
    match p.segments[n]? with
    | none => s
    | some x =>
      let done := s.probe.ran.contains c || s.probe.failedCores.contains c
      let waits := decide (s.coreTick c ≠ 0) && s.probe.retry.get? c == some (s.coreTick c)
      if !s.probe.sweeping || done || waits || decide (s.probe.nextSeg.getD c 0 ≠ n) || !s.probeMay c x.kind then s
      else
        let s1 := s.takeSegment c n x
        if x.passes results then s1.segmentPassed c n p.segments.length else s1.segmentFailed c n

/-- PROBE_SEGMENT. -/
def execProbeSegment (core : CoreIx) (segment : Nat) (results : List Int) (s : State) : Host.Outcome State Fault Refusal :=
  .next (s.runSegment core.val segment results)

/-! ### Scrub (R334 to R336, R412) -/

/-- The outcome of an uncorrectable granule by what it holds (Tables 13-1 and 13-12). -/
def State.lostGranule (s : State) (addr : Nat) : ScrubHolds → State
  | .free => s
  | .weights g => s.damageGen g.val addr
  | .page ctx layer page =>
    match s.spill.queue.find? (fun q => q.names ctx layer page) with
    | some q => (s.error sevError 0x0205 (unitStack (stackOf addr)) none (some layer) ctx).dropSpill q
    | none => s.pageLost none (unitStack (stackOf addr)) ((s.ctx? ctx).map (·.group)) ctx layer page
  | .plan g => if (s.grp g.val).current.isSome then s.suspend g.val 9 sevFatal else s
  | .stagedPlan g =>
    if (s.grp g.val).staged.isSome then
      (s.dropStaged g.val .stale 0).note sevError "staged plan lost" (unitStack (stackOf addr)) (s.groupInfo g.val addr)
    else s
  | .context ctx =>
    if (s.ctx? ctx).isNone then s
    else
      let s1 := s.updCtx ctx (fun c => { c with damaged := true })
      ({ s1 with reqs := s1.reqs.map (fun (r : Req) => if r.f.ctx = ctx then { r with ending := some 5 } else r) }).note
        sevError "context lost" (unitStack (stackOf addr)) (ErrInfo.only ctx).bytes
  | .directory g tiles layers =>
    (s.damageGen g.val addr).updInst g.val (fun i => { i with active := i.active.map (fun x => { x with
      lostTiles := x.lostTiles ++ tiles, lostLayers := x.lostLayers ++ layers }) })
  | .calSet core eng b slot =>
    let k := arrKey core eng b
    (s.updCal k (fun c => { c with sets := c.sets.del slot.val })).note sevError "calibration set lost" (unitOfArr k)
      (ErrInfo.only slot.val).bytes
  | .system => s.goSafe false (unitStack (stackOf addr)) (ErrInfo.only addr).bytes

/-- Position after a granule: a pass ends with the last, and its corrected granules stand for the next. -/
def StackState.scrubbed (x : StackState) (fixed : Option Nat) : StackState :=
  let now := match fixed with
    | some g => x.nowFixed ++ [g]
    | none => x.nowFixed
  if x.scrubPos + 1 = stackGranules then
    { x with scrubPos := 0, scrubPasses := x.scrubPasses + 1, lastFixed := now, nowFixed := [] }
  else { x with scrubPos := x.scrubPos + 1, nowFixed := now }

/-- A block is to be retired. -/
def StackState.condemn (x : StackState) (block : Nat) : StackState :=
  if x.toRetire.contains block || x.blocks.contains block then x else { x with toRetire := x.toRetire ++ [block] }

/-- A controller reads its next granule: one corrected is written back unless it has been written since; one
uncorrectable is read again before it is poisoned. -/
def State.scrubRead (s : State) (k : Nat) (errs errs2 : SymErrs) (written : Bool) (holds : ScrubHolds) : State :=
  let x := s.stack k
  if !x.inService then s
  else
    let addr := 2500000000 * k + x.scrubPos
    let r := s.readOnce addr errs
    let s1 := s.countReads [addr]
    let fixed := fun (s : State) =>
      let s2 := if written then s else s.bumpWide ((Blk.mc (stackIx k)).at Reg.MC_WRITES_LO) 1
      (s2.countFixed addr).updStack k (fun y =>
        (if y.lastFixed.contains addr then y.condemn (blockOf addr) else y).scrubbed (some addr))
    let clean := fun (s : State) => s.updStack k (fun y => y.scrubbed none)
    match r.1 with
    | some _ => if r.2 then fixed s1 else clean s1
    | none =>
      let q := s.readOnce addr errs2
      let s2 := s1.countReads [addr]
      match q.1 with
      | some _ => if q.2 then fixed s2 else clean s2
      | none =>
        let s3 := clean (s2.poisonGranule addr)
        if s.poison.contains addr then s3 else s3.lostGranule addr holds

/-- SCRUB_GRANULE_READ. -/
def execScrubGranuleRead (stack : StackIx) (errs errs2 : SymErrs) (written : Bool) (holds : ScrubHolds) (s : State) :
    Host.Outcome State Fault Refusal :=
  .next (s.scrubRead stack.val errs errs2 written holds)

end Sys2Proof.Machine
end

