-- ==== Sys2Proof/Machine/ThermExec.lean ====
section
/-!
DEFINITION. Events of thermal management, the monitor converters and the clock monitors (R301 to R303, R328,
R354 to R372).
-/

namespace Sys2Proof.Machine

open Sys2Proof

/-! ### Thermal states (R356 to R358) -/

/-- Readings with the WARN and THROTTLE entry values and the hysteresis they are judged by, in 0.125 °C. -/
structure Judged where
  t : Int
  warn : Int
  throttle : Int
  hyst : Int

/-- A reading judged by THRESH_DIE or THRESH_STACK. -/
def judgeBy (w : Word) (t : Int) : Judged :=
  let n := w.toNat
  ⟨t, 8 * (n % 256 : Nat), 8 * (n / 256 % 256 : Nat), 8 * (n / 65536 % 256 : Nat)⟩

/-- State that readings give: entered at an entry value, left when every reading is below the exit value
(Table 14-2). -/
def levelOf (old : Nat) (l : List Judged) : Nat :=
  if l.any (fun (x : Judged) => decide (x.throttle ≤ x.t)) then 2
  else if old = 2 ∧ l.any (fun (x : Judged) => decide (x.throttle - x.hyst ≤ x.t)) = true then 2
  else if l.any (fun (x : Judged) => decide (x.warn ≤ x.t)) then 1
  else if 1 ≤ old ∧ l.any (fun (x : Judged) => decide (x.warn - x.hyst ≤ x.t)) = true then 1
  else 0

def State.threshDie (s : State) : Word := s.reg (Blk.thermal.at Reg.THRESH_DIE)
def State.threshStack (s : State) : Word := s.reg (Blk.thermal.at Reg.THRESH_STACK)

/-- A die's sensors, and a stack, as they are judged. -/
def State.dieJudged (s : State) (d : Nat) : List Judged :=
  (List.range 12).filterMap (fun i => ((s.therm d).sensor i).map (judgeBy s.threshDie))
def State.stackJudged (s : State) (k : Nat) : List Judged := (s.stackTemp k).toList.map (judgeBy s.threshStack)

/-- Counts and records of a die or stack that enters and leaves states (R358). -/
def State.crossed (s : State) (unit old new : Nat) : State :=
  let s1 := if old < 1 ∧ 1 ≤ new then
      ((s.bump (Blk.thermal.at Reg.WARN_EVENTS) 1).setCause causeThermal).note sevWarn "thermal warning" unit []
    else s
  let s2 := if old < 2 ∧ 2 ≤ new then
      (s1.bump (Blk.thermal.at Reg.THROTTLE_EVENTS) 1).note sevWarn "thermal throttle" unit []
    else s1
  let s3 := if new < 2 ∧ 2 ≤ old then s2.note sevInfo "thermal throttle left" unit [] else s2
  if new < 1 ∧ 1 ≤ old then s3.note sevInfo "thermal warning left" unit [] else s3

/-- State of one stack. -/
def State.judgeStack (s : State) (k : Nat) : State :=
  let old := (s.stack k).state
  let new := levelOf old (s.stackJudged k)
  (s.updStack k (fun x => { x with state := new })).crossed (unitStack k) old new

/-- Warning states of a die's clusters (R358). -/
def State.judgeClusters (s : State) (d : Nat) : State :=
  let old := (s.therm d).clusterWarn
  let warm := fun (i : Nat) => match (s.therm d).sensor i with
    | some t => decide (1 ≤ levelOf (flag (old.testBit i)) [{ judgeBy s.threshDie t with throttle := t + 1 }])
    | none => false
  s.updTherm d (fun x => { x with clusterWarn := maskOf 8 warm })

/-- The states of a die, its clusters and its stacks on a new reading; the clock of a die without running
groups follows throttle at once (R295). -/
def State.judgeDie (s : State) (d : Nat) : State :=
  let s1 := ([0, 1, 2].foldl (fun (s : State) j => s.judgeStack (3 * d + j)) s).judgeClusters d
  let old := (s1.therm d).state
  let new := levelOf old (s1.dieJudged d ++ [0, 1, 2].flatMap (fun j => s1.stackJudged (3 * d + j)))
  let s2 := (s1.updTherm d (fun x => { x with state := new })).crossed (unitDie d) old new
  if (old = 2) ≠ (new = 2) ∧ (s2.dieGroups d).isEmpty then s2.applyDie (dieIx d) else s2

/-! ### The trip (R361 to R366) -/

/-- Bytes 0 to 63 of the record of a trip (Table 14-3). A sensor that has not read gives all ones. -/
def State.tripBytes (s : State) (source temp : Nat) : List Byte :=
  let t16 := fun (t : Option Int) => Crypto.bytesLE 2 ((t.map temp16).getD 0xFFFF)
  let states := maskOf 4 (fun d => decide (1 ≤ (s.therm d).state)) + 16 * maskOf 4 (fun d => decide (2 ≤ (s.therm d).state))
    + 256 * maskOf 12 (fun k => (s.stackJudged k).any (fun (x : Judged) => decide (x.warn ≤ x.t)))
  Crypto.bytesLE 4 (s.nvm.tripCount + 1) ++ Crypto.bytesLE 6 s.opS ++ Crypto.bytesLE 4 s.nvm.bootCount
    ++ Crypto.bytesLE 8 s.time.ns ++ Crypto.bytesLE 1 s.time.ptp ++ Crypto.bytesLE 1 source ++ Crypto.bytesLE 2 temp
    ++ (List.range 4).flatMap (fun d => t16 (s.therm d).hottest)
    ++ (List.range 12).flatMap (fun k => t16 (s.stackTemp k))
    ++ Crypto.bytesLE 4 states ++ [0xA5, 0xFF]

/-- The record goes into the lowest erased slot; none is written where D0's ring has failed. -/
def State.writeTrip (s : State) (source temp : Nat) : State :=
  if (s.mon 0).ringFault then s
  else match (List.range 8).find? (fun i => slotErased (s.nvm.trips.getD i [])) with
    | none => s
    | some i => { s with nvm := { s.nvm with
        trips := s.nvm.trips.set i (s.tripBytes source temp), tripCount := s.nvm.tripCount + 1 } }

/-- A trip: clocks gate, running ticks are abandoned, THERMTRIP_N and EVT_N fall, stacks refresh themselves, and
the record is written; the block is held so until reset. In reset the comparators drive THERMTRIP_N alone (R312, R404). -/
def State.trip (s : State) (source temp : Nat) : State :=
  if s.thermal.tripped || !s.pins.pwrgdCore then s
  else if !s.outOfReset then { s with pins := { s.pins with thermTrip := true } }
  else
    let s1 := { s with
      thermal := { s.thermal with tripped := true }
      pins := { s.pins with thermTrip := true }
      clocks := { s.clocks with allGated := true }
      groups := s.groups.map (fun (p : Nat × Group) => (p.1, { p.2 with running := false, overrun := false }))
      cores := s.cores.map (fun (p : Nat × CoreState) => (p.1, { p.2 with running := false, walk := none }))
      stackTbl := (List.range 12).map (fun k => (k, { s.stack k with selfRefresh := true, inService := false })) }
    ((s1.setCause causeTrip).abandonWhere (fun _ => true)).writeTrip source temp

/-- THERMAL_TRIP: a trip diode, which reports no value. -/
def execThermalTrip (die : DieIx) (cluster : Fin 8) (s : State) : Host.Outcome State Fault Refusal :=
  .next (s.trip (die.val + 8 * cluster.val) 0xFFFF)

/-! ### Die sensors and rails (R355, R367 to R372) -/

/-- Unit of the record of a die sensor. -/
def sensorUnit (d i : Nat) : Nat :=
  if i < 8 then unitCluster (8 * d + i) else if i = 8 then unitDie d else unitStack (3 * d + (i - 9))

/-- A reading passes both tests of R355: its range, and its distance from the mean of the other valid ones. -/
def DieTherm.plausible (t : DieTherm) (i : Nat) (v : Int) : Bool :=
  let others := (t.valid.filter (fun p => p.1 != i)).map (·.2)
  let n : Int := others.length
  decide (-320 ≤ v) && decide (v ≤ 1200) && decide ((v * n - sumInts others).natAbs ≤ 240 * n.natAbs)

/-- A die sensor's reading is kept; it fails, or is restored after a second of good readings. -/
def State.readSensor (s : State) (d i : Nat) (v : Int) : State :=
  let t := s.therm d
  let s1 := s.updTherm d (fun x => { x with readings := x.readings.put i v })
  if t.plausible i v then
    if !t.failed.contains i then s1
    else match t.goodSince.get? i with
      | none => s1.updTherm d (fun x => { x with goodSince := x.goodSince.put i s.time.ns })
      | some since =>
        if since + 1000000000 ≤ s.time.ns then
          s1.updTherm d (fun x => { x with failed := x.failed.filter (· != i), goodSince := x.goodSince.del i })
        else s1
  else
    let s2 := s1.updTherm d (fun x => { x with
      failed := if x.failed.contains i then x.failed else x.failed ++ [i], goodSince := x.goodSince.del i })
    if t.failed.contains i then s2 else s2.note sevError "sensor failed" (sensorUnit d i) (ErrInfo.only i).bytes

/-- Nominal mV and the warning and fault windows in percent of a rail input (Table 14-6). -/
def railOf (i : Nat) : Option (Nat × Nat × Nat) :=
  if 12 ≤ i ∧ i ≤ 15 then some (750, 3, 8)
  else if i = 16 then some (850, 3, 8)
  else if i = 17 then some (900, 2, 6)
  else if 18 ≤ i ∧ i ≤ 20 then some (1050, 3, 8)
  else if i = 21 then some (1800, 5, 10)
  else none

/-- A reading lies outside a window of some percent of nominal. -/
def outside (v nom pct : Nat) : Bool := decide (pct * nom < 100 * ((v : Int) - nom).natAbs)

/-- A rail reading is judged (R372); before self-calibration the windows are 2 % wider. -/
def State.readRail (s : State) (d i v : Nat) : State :=
  match railOf i with
  | none => s
  | some (nom, w, f) =>
    let t := s.therm d
    let wide := if t.calValid then 0 else 2
    let out := outside v nom (w + wide)
    let bad := outside v nom (f + wide)
    let warnRun := if out then t.warnRun.getD i 0 + 1 else 0
    let okRun := if out then 0 else t.okRun.getD i 0 + 1
    let faultRun := if bad then t.faultRun.getD i 0 + 1 else 0
    let was := t.railWarn.contains i
    let s1 := s.updTherm d (fun x => { x with
      warnRun := x.warnRun.put i (min 3 warnRun), okRun := x.okRun.put i (min 3 okRun)
      faultRun := x.faultRun.put i (min 4 faultRun)
      railWarn := if !was && decide (3 ≤ warnRun) then x.railWarn ++ [i]
        else if was && decide (3 ≤ okRun) then x.railWarn.filter (· != i) else x.railWarn })
    let s2 := if !was && decide (3 ≤ warnRun) then
        (s1.bump ((Blk.mon (dieIx d)).at Reg.RAIL_EVENTS) 1).note sevWarn "rail warning" (unitDie d) (ErrInfo.only i).bytes
      else s1
    if faultRun = 3 then s2.goSafe false (unitDie d) (ErrInfo.only i).bytes else s2

/-- Enabled entries of a converter, ascending, with their inputs (R368). -/
def State.seqEntries (s : State) (d n : Nat) : List (Nat × Nat) :=
  (List.range 16).filterMap (fun e =>
    let w := s.reg ((Blk.mon (dieIx d)).at (Reg.SEQ + 0x80 * n + 4 * e))
    if w.getLsbD 5 then some (e, w.toNat % 32) else none)

/-- A conversion of the next enabled entry ends: its result is written with its tags, and its reading judged. -/
def State.convert (s : State) (d n code value : Nat) : State :=
  let t := s.therm d
  let es := s.seqEntries d n
  match ((es.find? (fun p => decide (t.pos.getD n 0 ≤ p.1))).or es.head?), es.getLast? with
  | some (e, i), some (last, _) =>
    if t.calBusy || s.thermal.tripped || !s.counting then s
    else
      let v := value % 4096
      let r : MonResult := { value := v, code := code % 4096, valid := t.calValid, passSince := min 7 (t.passes.getD n 0)
                             pass := s.thermal.trigCount % 16 }
      let s1 := s.updTherm d (fun x => { x with
        results := x.results.put (16 * n + e) r
        pos := x.pos.put n (if e = last then 0 else e + 1)
        passes := if e = last then x.passes.put n (min 7 (x.passes.getD n 0 + 1)) else x.passes })
      if i < 12 then (s1.readSensor d i (if v < 2048 then v else (v : Int) - 4096)).judgeDie d
      else s1.readRail d i v
  | _, _ => s

/-- What a cluster's temperature asks of calibration: runs that it has moved away from are abandoned, and runs
of class 4 requested (R130, R131). -/
def State.tempCal (s : State) (cluster : Nat) : State :=
  let mine := fun (k : Nat) => decide (arrCore k / 18 = cluster)
  let s1 := s.abandonWhere mine
  if !s1.startupDone then s1
  else
    let cores := ((List.range 18).map (· + 18 * cluster)).filter s1.good
    (cores.flatMap coreArrays).foldl State.class4 s1

/-- MONITOR_CONVERSION. -/
def execMonitorConversion (die : DieIx) (conv : Fin 4) (code value : Nat) (s : State) : Host.Outcome State Fault Refusal :=
  let s1 := s.convert die.val conv.val code value
  .next ((List.range 8).foldl (fun (t : State) i =>
    if (s.therm die.val).sensor i = (s1.therm die.val).sensor i then t else t.tempCal (8 * die.val + i)) s1)

/-- A stack sensor is read: three failed reads fail it, a second of good reads restores it; 105 °C drives the
trip net (R355, R362). -/
def State.readStack (s : State) (k : Nat) (reading : Option Int) : State :=
  if s.thermal.tripped || !s.counting then s
  else
    let x := s.stack k
    match reading with
    | none =>
      let n := min 3 (x.sensorFails + 1)
      let s1 := s.updStack k (fun y => { y with sensorFails := n, goodSince := none, sensorFail := y.sensorFail || decide (3 ≤ n) })
      (if 3 ≤ n ∧ x.sensorFail = false then s1.note sevError "sensor failed" (unitStack k) [] else s1).judgeDie (k / 3)
    | some c =>
      let since := x.goodSince.getD s.time.ns
      let back := decide (since + 1000000000 ≤ s.time.ns)
      let s1 := s.updStack k (fun y => { y with
        temp := some (8 * c), sensorFails := 0
        goodSince := if x.sensorFail && !back then some since else none, sensorFail := y.sensorFail && !back })
      let s2 := s1.judgeDie (k / 3)
      if (s2.stack k).sensorFail = false ∧ 105 ≤ c then s2.trip (k / 3 + 4 + 8 * k) (temp16 (8 * c)) else s2

/-- STACK_SENSOR_READ. -/
def execStackSensorRead (stack : StackIx) (reading : Option Int) (s : State) : Host.Outcome State Fault Refusal :=
  .next (s.readStack stack.val reading)

/-! ### Pipeline converters and triggers (R369 to R371) -/

/-- The pipeline converters of a die run: neither self-calibration nor safe state holds them. -/
def State.pipesRun (s : State) (d : Nat) : Bool :=
  s.counting && !(s.therm d).calBusy && !s.clocks.safe && !s.thermal.tripped

/-- A droop event: counted, kept, and captured by the first after CAP_EN was written. -/
def State.droop (s : State) (d minMv samples : Nat) (capture : List (Nat × Nat)) : State :=
  let b := Blk.mon (dieIx d)
  if !s.pipesRun d || decide ((s.reg (b.at Reg.PIPE_CTRL)).toNat % 4096 ≤ minMv) || decide (samples = 0) then s
  else
    let s1 := s.updTherm d (fun x => { x with
      min1us := minMv, droop := (minMv, min samples 0xFFFFF), capArmed := false
      capture := if x.capArmed then capture.take 1024 else x.capture })
    { s1.bump (b.at Reg.DROOP_EVENTS) 1 with wide := s1.wide.put (b.at Reg.DROOP_TIME_LO) s.time.ns }

/-- DROOP_EVENT. -/
def execDroopEvent (die : DieIx) (minMv samples : Nat) (capture : List (Nat × Nat)) (s : State) :
    Host.Outcome State Fault Refusal :=
  .next (s.droop die.val minMv samples capture)

/-- Device time of the trigger that TRIG_CTRL sets and that has come, if one has. -/
def State.trigDue (s : State) : Option Nat :=
  let w := (s.reg (Blk.thermal.at Reg.TRIG_CTRL)).toNat
  if w % 4 = 1 then
    let x := s.grp (w / 4 % 16)
    let off := w / 32768 * 1000
    let t := x.boundary + off
    match x.variant with
    | some v => if x.running = false ∨ v.ns ≤ off ∨ s.time.ns < t ∨ s.thermal.trigLast = some t then none else some t
    | none => none
  else if w % 4 = 2 then s.thermal.armed.filter (fun t => decide (t ≤ s.time.ns))
  else none

/-- A trigger falls: every converter restarts its sequence, the pipeline converters latch. One within 1 µs of the
one before is ignored. -/
def State.trigger (s : State) (snaps : List (Nat × Nat)) : State :=
  if !s.counting then s
  else match s.trigDue with
  | none => s
  | some t =>
    let s1 := { s with thermal := { s.thermal with armed := none } }
    let close := match s.thermal.trigLast with
      | some l => decide (t < l + 1000)
      | none => false
    if close then s1
    else
      let s2 := { s1 with thermal := { s1.thermal with
        trigCount := (s1.thermal.trigCount + 1) % 2 ^ 32, trigLast := some t } }
      (List.range 4).foldl (fun (s : State) d =>
        let run := s.pipesRun d
        s.updTherm d (fun x => { x with
          pos := [], passes := [], snap := if run then (snaps[d]?).or x.snap else x.snap })) s2

/-- MONITOR_TRIGGER. -/
def execMonitorTrigger (snaps : List (Nat × Nat)) (s : State) : Host.Outcome State Fault Refusal := .next (s.trigger snaps)

/-- MONITOR_SELF_CAL_DONE: gains and offsets are stored, one for each converter. -/
def execMonitorSelfCalDone (die : DieIx) (factors : List (Nat × Nat)) (s : State) : Host.Outcome State Fault Refusal :=
  .next (if (s.therm die.val).calBusy then
      s.updTherm die.val (fun x => { x with
        calBusy := false, calValid := true
        factors := (factors.take 6).zipIdx.map (fun p => (p.2, (p.1.1 % 65536, p.1.2 % 4096))) })
    else s)

/-! ### Clock monitors (R301 to R303) -/

/-- A ring fails: recorded, and its die's monitor is disarmed. -/
def State.ringFails (s : State) (d : Nat) : State :=
  if (s.mon d).ringFault then s
  else (s.updMon d (fun x => { x with ringFault := true, armed := false })).note sevError "ring fault" (unitDie d) []

/-- The count furthest from 1,562.5. -/
def furthest (a b : Nat) : Nat :=
  if ((2 * a : Nat) - 3125 : Int).natAbs < ((2 * b : Nat) - 3125 : Int).natAbs ∨ a = 0 then b else a

/-- A window of a die's monitor is judged: the ring first, then HREFCLK and the die's PLLs. The FATAL record holds
the window counts of every die. -/
def State.clockWindow (s : State) (w : ClockWindow) : State :=
  let d := w.die.val
  if !s.counting then s
  else if w.ring = 0 then s.ringFails d
  else if !(s.mon d).armed then s
  else
    let s1 := s.updMon d (fun x => { x with last := w.count, worst := furthest x.worst w.count })
    let href := w.lost || decide (w.count < 1532) || decide (1593 < w.count)
    if !href && w.unlocked.isNone then s1
    else
      let counts := (List.range 4).flatMap (fun i => Crypto.bytesLE 2 (s1.mon i).last)
      let dom := match w.unlocked with
        | some j => j
        | none => 9 * d
      if s.clocks.safe then s.note sevFatal "safe state" (unitDie d) counts
      else
        let s2 := match w.unlocked with
          | some j => s1.updDom j (fun x => { x with locked := false })
          | none => s1
        let s3 := { s2 with clocks := { s2.clocks with
          hrefFault := href, pllFault := w.unlocked.isSome, faultDomain := dom, faultDie := d } }
        (s3.bump (Blk.clocks.at Reg.CLK_FAULTS) 1).goSafe true (unitDie d) counts

/-- CLOCK_MONITOR_WINDOW. -/
def execClockMonitorWindow (w : ClockWindow) (s : State) : Host.Outcome State Fault Refusal := .next (s.clockWindow w)

/-- RING_RETUNE: by one count at most, within 3 % of the start-up value; at the limit the ring has failed. -/
def State.retune (s : State) (d : Nat) (up : Option Bool) : State :=
  let m := s.mon d
  if !s.counting || !m.armed || m.lost || s.clocks.hrefFault then s
  else match up with
    | none => s
    | some u =>
      let v := if u then m.window + 1 else m.window - 1
      let beyond := decide (3 * m.start < 100 * ((v : Int) - m.start).natAbs)
      let v1 := if beyond then m.window else v
      let s1 := s.updMon d (fun x => { x with window := v1 })
      if beyond || decide (3 * m.start < 100 * (((v1 : Int) - m.start).natAbs + 1)) then s1.ringFails d else s1

def execRingRetune (die : DieIx) (up : Option Bool) (s : State) : Host.Outcome State Fault Refusal := .next (s.retune die.val up)

/-- HREFCLK_LOSS_UNARMED_DIE: the clocks of the die stop, and the asynchronous latch pulls EVT_N low. -/
def State.dieClockLost (s : State) (d : Nat) : State :=
  if !s.counting || !(s.mon d).ringFault then s
  else
    let s1 := (s.updMon d (fun x => { x with lost := true }))
    let s2 := (List.range 9).foldl (fun (s : State) j => s.updDom (9 * d + j) (fun x => { x with mhz := 0, locked := false })) s1
    { s2 with pins := { s2.pins with asyncEvt := true } }

def execHrefclkLossUnarmedDie (die : DieIx) (s : State) : Host.Outcome State Fault Refusal := .next (s.dieClockLost die.val)

/-! ### The restart hold (R328) -/

/-- Every die sensor and stack sensor, as R355 reads it; none where one has not read yet. -/
def State.allSensors (s : State) : Option (List Int) :=
  let dies := (List.range 4).flatMap (fun d => (List.range 12).map (fun i => (s.therm d).sensor i))
  (dies ++ (List.range 12).map s.stackTemp).mapM id

/-- Hottest sensor of those that have read. -/
def State.hottestNow (s : State) : Int :=
  let dies := (List.range 4).flatMap (fun d => (List.range 12).filterMap (fun i => (s.therm d).sensor i))
  (maxInt? (dies ++ (List.range 12).filterMap s.stackTemp)).getD 0

/-- The hold ends once every sensor reads below 88 °C: the record is consumed, THERMAL_TRIP clears, and phase 2
begins. -/
def State.endHold (s : State) : State :=
  let cool := match s.allSensors with
    | some l => l.all (fun t => decide (t < 704))
    | none => false
  if !s.boot.hold || !cool then s
  else
    let s1 := { s with
      nvm := { s.nvm with trips := s.nvm.trips.map (fun b => if slotUnconsumed b then b.set 63 0 else b) }
      boot := { s.boot with hold := false } }
    (s1.setReg evtCauseAt (s1.reg evtCauseAt &&& 0xFFFFFFFB)).endPhase 1

/-- THERMAL_TRIP_HOLD: the hold is judged. -/
def execThermalTripHold (s : State) : Host.Outcome State Fault Refusal := .next s.endHold

/-- HOLD_TEMP_UPDATE: every 100 ms, and a record at each 600th. -/
def State.holdUpdate (s : State) : State :=
  if !s.boot.hold then s
  else
    let n := s.boot.holdTicks + 1
    let s1 := { s with boot := { s.boot with
      holdTemp := fieldOfInt 10 s.hottestNow, holdTicks := if n = 600 then 0 else n } }
    if n = 600 then s1.note sevInfo "thermal hold" unitPackage (Crypto.bytesLE 2 (temp16 s.hottestNow)) else s1

def execHoldTempUpdate (s : State) : Host.Outcome State Fault Refusal := .next s.holdUpdate

end Sys2Proof.Machine
end

