-- ==== Sys2Proof/Machine/PortExec.lean ====
section
/-!
DEFINITION. Events of the Ethernet port, discovery, sessions, network storage and time (R262 to R266, R270 to
R274, R278, R288 to R290, R304 to R306).
-/

namespace Sys2Proof.Machine

open Sys2Proof

/-! ### Discovery (R288, Tables 10-12 and 12-2) -/

/-- The start-up phase that a discovery step ends, if it is in progress. -/
def State.endIf (s : State) (p : Nat) : State := if s.boot.phase = p then s.endPhase p else s

/-- A static address is in force from the start of step 4. -/
def State.staticAddrs (s : State) : State :=
  let a4 := match s.cfg.ipv4 with
    | .fixed a _ _ => a
    | .dynamic => s.port.addr4
    | .off => 0
  let a6 := match s.cfg.ipv6 with
    | .fixed a _ _ => a
    | .dynamic => s.port.addr6
    | .off => 0
  { s with port := { s.port with addr4 := a4, addr6 := a6 } }

/-- Entries of the storage list in use (Table 10-3). -/
def State.storageEntries (s : State) : List Nat :=
  (List.range 16).filter (fun i => (s.cfg.storage.getD i none).isSome)

/-- Phase 14 waits for lock, unless phase 7 ended without a master; past 15 s it ends with a record (R326). -/
def State.lockWait (s : State) : State :=
  if s.boot.phase ≠ 14 then s
  else if s.time.ptp = 2 ∨ s.boot.noMaster = true then s.endPhase 14
  else if s.boot.ends.getD 13 0 + 15000000 ≤ s.sinceReset then (s.note sevWarn "no time lock" unitPackage []).endPhase 14
  else { s with boot := { s.boot with waiting := true } }

/-- One step of discovery completes, if what it waits for holds. Step 5 completes by its announce. -/
def State.discStep (s : State) : State :=
  let p := s.port
  let go := fun (s : State) (n : Nat) => { s with port := { s.port with disc := n } }
  if p.disc = 1 then (if p.linkUp then go s 2 else s)
  else if p.disc = 2 then
    if (p.neighbour.isSome || p.lldpBound) && (s.cfg.macPolicy != 2 || p.macsecUp) then (go s 3).endIf 6 else s
  else if p.disc = 3 then
    if s.time.master.isSome || p.ptpBound then
      let s1 := if s.boot.phase = 7 then { s with boot := { s.boot with noMaster := s.time.master.isNone } } else s
      ((go s1 4).endIf 7).staticAddrs
    else s
  else if p.disc = 4 then (if p.addr4 ≠ 0 ∨ p.addr6 ≠ 0 then (go s 5).endIf 8 else s)
  else if p.disc = 6 ∧ 13 ≤ s.boot.phase then
    if s.storageEntries.all (fun i => p.connected.testBit i || p.failed.testBit i) then
      (if s.boot.isDone then go s 7 else s).endIf 13 |>.lockWait
    else s
  else s

/-- Discovery goes on as far as it can. -/
def State.discover (s : State) : State := s.discStep.discStep.discStep.discStep

/-- A step in progress waits on a partner. -/
def State.discWaits (s : State) : State :=
  if s.boot.isDone then s else { s with boot := { s.boot with waiting := true } }

/-- LINK_TRAINING_ATTEMPT: the link comes up when all eight lanes hold FEC lock. -/
def State.trainLink (s : State) (locked : Nat) : State :=
  if !s.portOn || s.port.linkUp || decide (s.port.disc ≠ 1) then s
  else
    let s1 := { s with port := { s.port with trainAttempts := s.port.trainAttempts + 1 } }
    if locked = 255 then
      ({ s1 with port := { s1.port with linkUp := true, fecLock := true, anDone := decide (s.cfg.phyMode ≠ 2) } }).discover
    else s1.discWaits

def execLinkTrainingAttempt (locked : Fin 256) (s : State) : Host.Outcome State Fault Refusal := .next (s.trainLink locked.val)

/-- LINK_DOWN: step 1 begins again; sessions and groups go on. -/
def State.linkLost (s : State) : State :=
  if !s.ethUp then s
  else
    let s1 := { s with port := { s.port with
      linkUp := false, fecLock := false, anDone := false, macsecUp := false, disc := 1, trainAttempts := 0
      lldpBound := false, ptpBound := false } }
    ((s1.bump (Blk.port.at Reg.LINK_DOWNS) 1).setCause causeLink).note sevInfo "link down" unitPort []

def execLinkDown (s : State) : Host.Outcome State Fault Refusal := .next s.linkLost

/-- LLDP_SEND: TTL 120 s. -/
def execLldpSend (s : State) : Host.Outcome State Fault Refusal :=
  .next (if s.ethUp then s.send (.lldp s.nvm.mac s.nvm.serial 120) else s)

/-- The neighbour has changed or gone. -/
def State.neighbourChange (s : State) : State :=
  (s.bump (Blk.port.at Reg.LLDP_CHANGES) 1).note sevInfo "neighbour changed" unitPort []

/-- LLDP_RECEIVED: one neighbour is kept; a TTL of 0 expires at once. -/
def State.lldp (s : State) (chassis ttl : Nat) : State :=
  if !s.ethUp then s
  else
    let old := s.port.neighbour
    let new := if ttl = 0 then (if old = some chassis then none else old) else some chassis
    let s1 := { s with port := { s.port with neighbour := new } }
    (if old.isSome && old != new then s1.neighbourChange else s1).discover

def execLldpReceived (chassis ttl : Nat) (s : State) : Host.Outcome State Fault Refusal := .next (s.lldp chassis ttl)

/-- LLDP_TTL_EXPIRY. -/
def execLldpTtlExpiry (s : State) : Host.Outcome State Fault Refusal :=
  .next (if s.ethUp && s.port.neighbour.isSome then
      ({ s with port := { s.port with neighbour := none } }).neighbourChange
    else s)

/-- MKA_RETRY: an attempt to secure the link. -/
def State.mka (s : State) (ok : Bool) : State :=
  if !s.ethUp || decide (s.cfg.macPolicy = 0) || s.port.macsecUp then s
  else
    let s1 := s.send .mka
    if ok then ({ s1 with port := { s1.port with macsecUp := true } }).discover
    else if s.cfg.macPolicy = 2 ∧ s.port.disc = 2 then s1.discWaits else s1

def execMkaRetry (ok : Bool) (s : State) : Host.Outcome State Fault Refusal := .next (s.mka ok)

/-- ADDRESS_LOSS: with no address left, step 4 begins again. -/
def State.loseAddr (s : State) (v6 : Bool) : State :=
  if (if v6 then s.port.addr6 else s.port.addr4) = 0 then s
  else
    let s1 := { s with port := if v6 then { s.port with addr6 := 0 } else { s.port with addr4 := 0 } }
    if s1.port.addr4 = 0 ∧ s1.port.addr6 = 0 ∧ 4 < s1.port.disc then { s1 with port := { s1.port with disc := 4 } } else s1

def execAddressLoss (v6 : Bool) (s : State) : Host.Outcome State Fault Refusal := .next (s.loseAddr v6)

/-- An address of a family that is configured to get one. -/
def State.gotAddr (s : State) (v6 : Bool) (a : Nat) : State :=
  if v6 then
    if s.cfg.ipv6 = .dynamic then { s with port := { s.port with addr6 := a % 2 ^ 128 } } else s
  else if s.cfg.ipv4 = .dynamic then { s with port := { s.port with addr4 := a % 2 ^ 32 } } else s

/-- DISCOVERY_STEP_BOUND: the step in progress ends at its bound, waits, or gets its address. -/
def State.discBound (s : State) (address : Option (Bool × Nat)) : State :=
  if !s.portOn then s
  else if s.port.disc = 1 then s.discWaits
  else if s.port.disc = 2 then
    let s1 := { s with port := { s.port with lldpBound := true } }
    (if s1.cfg.macPolicy = 2 ∧ s1.port.macsecUp = false then s1.discWaits else s1).discover
  else if s.port.disc = 3 then ({ s with port := { s.port with ptpBound := true } }).discover
  else if s.port.disc = 4 then
    match address with
    | some (v6, a) => (s.gotAddr v6 a).discover
    | none => s.discWaits
  else if s.port.disc = 6 ∧ 13 ≤ s.boot.phase then
    let late := s.storageEntries.filter (fun i => !(s.port.connected.testBit i))
    ({ s with port := { s.port with failed := late.foldl (fun m i => m ||| 2 ^ i) s.port.failed } }).discover
  else s

def execDiscoveryStepBound (address : Option (Bool × Nat)) (s : State) : Host.Outcome State Fault Refusal :=
  .next (s.discBound address)

/-! ### Announces (R289) -/

/-- The fields of Table 10-13 for a state (starting, in service, safe); the count includes this announce. -/
def State.announceFields (s : State) (state : Nat) : List Nat :=
  let rd := fun (a : Nat) => (s.readReg a).toNat
  [s.nvm.serial, rd (Blk.identity.at Reg.DEVICE_ID), if s.boot.goodValid then s.goodCount else 0, state, formatsMct
    , s.boot.fwVersion, s.nvm.mac, s.cfg.mctPort, s.port.addr4, s.port.addr6, s.port.announces + 1]

/-- An announce goes to the group of each family that has an address. -/
def State.announceNow (s : State) (state : Nat) : State :=
  let m := OutMsg.announce (s.announceFields state)
  let s1 := if s.port.addr4 ≠ 0 then s.send m else s
  let s2 := if s.port.addr6 ≠ 0 then s1.send m else s1
  { s2 with port := { s2.port with announced := true, announces := (s2.port.announces + 1) % 2 ^ 32 } }

/-- ANNOUNCE: the first ends step 5, and is the firmware request under the boot ROM (R318). -/
def State.announceDue (s : State) : State :=
  if !s.portOpen || decide (s.port.disc < 5) then s
  else
    let s1 := s.announceNow (if s.boot.isDone then 1 else 0)
    if s.port.disc = 5 then (({ s1 with port := { s1.port with disc := 6 } }).endIf 9).discover else s1

def execAnnounce (s : State) : Host.Outcome State Fault Refusal := .next s.announceDue

/-! ### Received frames (R263, R265, R270) -/

/-- A field of an MCT header (Table 10-4). -/
def headField (signed : List Byte) (off n : Nat) : Nat := Crypto.natLE ((signed.drop off).take n)

/-- The port has an address of a family. -/
def State.hasAddr (s : State) (v6 : Bool) : Bool := if v6 then s.port.addr6 != 0 else s.port.addr4 != 0

/-- A received frame that the policy and the supported standards pass. -/
def State.frameIn (s : State) : FrameKind → State
  | .mct src signed tag =>
    let sess := headField signed 8 4
    if sess = 0 then s
    else match s.session? sess with
      | none => s.dropBadTag
      | some x =>
        if headField signed 0 4 = 0x3154434D ∧ (Crypto.hmac x.h2d signed).take 16 = tag then
          (s.updSession sess (fun y => { y with lastRx := s.time.ns, peer := src })).acknowledge sess (headField signed 16 4)
        else s.dropBadTag
  | .roce qp ce =>
    let recent := match s.port.cnpAt.get? qp with
      | some t => decide (s.time.ns < t + 50000)
      | none => false
    if !ce || recent then s
    else
      let s1 := { s with port := { s.port with cnpAt := s.port.cnpAt.put qp s.time.ns } }
      (s1.bumpHi (Blk.port.at Reg.ECN_COUNTS) 1).send .cnp
  | .cnp qp =>
    let s1 := { s with port := { s.port with rates := s.port.rates.put qp (s.port.rates.getD qp 65536 / 2) } }
    s1.bumpLo (Blk.port.at Reg.ECN_COUNTS) 1
  | .pfc roce => if roce then s.bumpLo (Blk.port.at Reg.PFC_COUNTS) 1 else s.bumpHi (Blk.port.at Reg.RX_DROPS) 1
  | .roceNak _ => s.bump (Blk.port.at Reg.RDMA_RETRIES) 1
  | .roceConnect => s.send .roceReject
  | .arp => if s.port.addr4 ≠ 0 then s.send .arpReply else s
  | .solicit => if s.port.addr6 ≠ 0 then s.send .neighbourAdvert else s
  | .echo v6 => if s.hasAddr v6 then s.send (.echoReply v6) else s
  | .closedPort v6 => if s.hasAddr v6 then s.send (.unreachable v6) else s
  | .unsupported => s.bumpHi (Blk.port.at Reg.RX_DROPS) 1
  | .lldp => s
  | .mka => s
  | .ptp => s
  | .other => s

/-- A received frame is counted and checked: its FCS and length, its protection, the MACsec policy, and its VLAN; LLDP and
EAPOL-MKA come untagged and unprotected. The FEC's codewords since the frame before are counted. -/
def State.frame (s : State) (f : Frame) : State :=
  if !s.ethUp then s
  else
    let s0 := (s.bump (Blk.port.at Reg.FEC_CORRECTED) f.corrected).bump (Blk.port.at Reg.FEC_UNCORRECTED) f.lost
    let s1 := s0.bumpWide (Blk.port.at Reg.RX_FRAMES_LO) 1
    let bare := decide (f.kind = .lldp) || decide (f.kind = .mka)
    if !f.fcsOk || decide (9216 < f.bytes) then s1.bumpLo (Blk.port.at Reg.RX_DROPS) 1
    else if f.isProtected && !s.port.macsecUp then s1.bumpHi (Blk.port.at Reg.RX_DROPS) 1
    else if f.isProtected && !f.icvOk then s1.bumpLo (Blk.port.at Reg.MACSEC_ERRORS) 1
    else if f.isProtected && !f.replayOk then s1.bumpHi (Blk.port.at Reg.MACSEC_ERRORS) 1
    else if s.cfg.macPolicy = 2 ∧ f.isProtected = false ∧ bare = false then s1.bumpHi (Blk.port.at Reg.RX_DROPS) 1
    else if f.vlan ≠ (if bare then none else s.cfg.vlan) then s1.bumpHi (Blk.port.at Reg.RX_DROPS) 1
    else s1.frameIn f.kind

def execEthFrameReceived (f : Frame) (s : State) : Host.Outcome State Fault Refusal := .next (s.frame f)

/-- ROCE_RATE_RECOVERY: 1/16 of the full rate. -/
def execRoceRateRecovery (qp : Nat) (s : State) : Host.Outcome State Fault Refusal :=
  .next (match s.port.rates.get? qp with
    | none => s
    | some r => { s with port := { s.port with
        rates := if 65536 ≤ r + 4096 then s.port.rates.del qp else s.port.rates.put qp (r + 4096) } })

/-! ### Sessions (R270 to R274, R278) -/

/-- MCT_MESSAGE_DROPPED. -/
def execMctMessageDropped (outOfWindow : Bool) (s : State) : Host.Outcome State Fault Refusal :=
  .next (if !s.portOpen then s else if outOfWindow then s.dropWindow else s.dropBadTag)

/-- SESSION_OPEN_TIMEOUT: a half-open session is discarded. -/
def execSessionOpenTimeout (sess : Nat) (s : State) : Host.Outcome State Fault Refusal :=
  .next { s with sessions := s.sessions.filter (fun x => x.id != sess || x.isOpen) }

/-- Time without an authenticated message after which a session departs (R274). -/
def State.departAfter (s : State) : Nat :=
  (s.groups.filterMap (fun (p : Nat × Group) => if p.2.ticking then p.2.variant.map (fun v => 3 * v.ns) else none)).foldl max
    100000000

/-- SESSION_INACTIVITY_TIMEOUT. -/
def execSessionInactivityTimeout (sess : Nat) (s : State) : Host.Outcome State Fault Refusal :=
  .next (match s.session? sess with
    | none => s
    | some x => if x.isOpen && decide (x.lastRx + s.departAfter ≤ s.time.ns) then s.depart sess else s)

/-- DEVICE_MESSAGE_RESEND: with RESENT set, and the interval doubled up to 32 ms. -/
def State.resendMsg (s : State) (sess dseq : Nat) : State :=
  match (s.session? sess).bind (fun x => x.unacked.find? (fun u => u.seq == dseq)) with
  | none => s
  | some u =>
    let s1 := s.updSession sess (fun x => { x with unacked := x.unacked.map (fun v =>
      if v.seq = dseq then { v with interval := min 32000 (2 * v.interval) } else v) })
    (s1.bump (Blk.port.at Reg.MCT_RESENDS) 1).sendTo (.device sess dseq u.msg true) ((s.session? sess).map (·.peer)) 0

def execDeviceMessageResend (sess dseq : Nat) (s : State) : Host.Outcome State Fault Refusal := .next (s.resendMsg sess dseq)

/-- TELEMETRY_REPORT: the period of a session's telemetry has passed. -/
def execTelemetryReport (sess : Nat) (s : State) : Host.Outcome State Fault Refusal :=
  .next (match s.session? sess with
    | none => s
    | some x => if x.telPeriod = 0 then s else s.originate sess (.telemetry x.telMask (s.telemetry x.telMask)))

/-! ### Network storage (R266, R290) -/

/-- NVME_KEEP_ALIVE: to each connected target. -/
def execNvmeKeepAlive (s : State) : Host.Outcome State Fault Refusal :=
  .next (if s.portOpen then
      (maskBits 16 s.port.connected).foldl (fun (s : State) i => s.send (.nvmeKeepAlive i)) s
    else s)

/-- STORAGE_TARGET_LOST: attempts on it move to alternates and spills to it fail. -/
def State.targetLost (s : State) (t : Nat) : State :=
  if !s.port.connected.testBit t || decide (16 ≤ t) then s
  else
    let s1 := { s with port := { s.port with
      connected := s.port.connected - 2 ^ t, failed := s.port.failed ||| 2 ^ t } }
    let s2 := (s1.setCause causeStorage).note sevInfo "storage target lost" unitPort (Crypto.bytesLE 1 t)
    let mine := s2.spill.queue.filter (fun q => q.writing && (s2.ctx? q.ctx).map (·.backing.target) == some t)
    (mine.foldl State.dropSpill s2).loseTarget t

def execStorageTargetLost (target : Nat) (s : State) : Host.Outcome State Fault Refusal := .next (s.targetLost target)

/-- STORAGE_RECONNECT: every entry that is not connected is asked; what answers is connected, with the size of its
logical blocks by namespace, and the rest has failed. -/
def State.reconnect (s : State) (answers : List (Nat × List (Nat × Nat))) : State :=
  if !s.portOpen || decide (s.boot.phase < 13) || decide (s.port.disc < 6) then s
  else
    let todo := s.storageEntries.filter (fun i => !(s.port.connected.testBit i))
    (todo.foldl (fun (s : State) i =>
      let s1 := s.send (.nvmeConnect i)
      match answers.find? (fun p => p.1 == i) with
      | some p => { s1 with port := { s1.port with
          connected := s1.port.connected ||| 2 ^ i
          blocks := p.2.foldl (fun (t : Tbl Nat) n => t.put (nsKey i n.1) n.2) s1.port.blocks
          failed := if s1.port.failed.testBit i then s1.port.failed - 2 ^ i else s1.port.failed } }
      | none => { s1 with port := { s1.port with failed := s1.port.failed ||| 2 ^ i } }) s).discover

def execStorageReconnect (connected : List (Nat × List (Nat × Nat))) (s : State) : Host.Outcome State Fault Refusal :=
  .next (s.reconnect connected)

/-! ### Time (R304 to R306) -/

/-- TIME_SYNC_PULSE: the Carousels' copies are the counter itself in this model (log 45). -/
def execTimeSyncPulse (s : State) : Host.Outcome State Fault Refusal :=
  .next (if s.portOn then s.send .timeSync else s)

/-- RATE_ADJ is held within 100 ppm, in units of 2^−40. -/
def rateLimit : Int := 109951162

/-- Announce a precedes b in best-master selection. -/
def annBetter (a b : PtpAnn) : Bool := lexLt (a.ranks ++ [a.identity]) (b.ranks ++ [b.identity])

/-- A master is chosen: the counter is SELECTING until it locks. -/
def State.takeMaster (s : State) (a : PtpAnn) : State :=
  ({ s with time := { s.time with master := some a, ptp := 1, goodRun := 0 } }).discover

/-- PTP_ANNOUNCE: the best of the masters heard is followed. -/
def State.ptpAnnounced (s : State) (a : PtpAnn) : State :=
  if !s.portOpen || decide (s.port.disc < 3) || decide (a.domain ≠ s.cfg.ptpDomain) then s
  else match s.time.master with
    | none => s.takeMaster a
    | some m =>
      if m.identity = a.identity then { s with time := { s.time with master := some a } }
      else if annBetter a m then s.takeMaster a else s

def execPtpAnnounce (a : PtpAnn) (s : State) : Host.Outcome State Fault Refusal := .next (s.ptpAnnounced a)

/-- The history of RATE_ADJ over 64 s, with the value in force at its start. -/
def trimHist (now : Nat) : List (Nat × Int) → List (Nat × Int)
  | [] => []
  | p :: rest => if p.1 + 64000000000 ≤ now then [p] else p :: trimHist now rest

/-- Sum of RATE_ADJ × ns over the history from a time on, and the ns covered. -/
def histSum (start : Nat) : Nat → List (Nat × Int) → Int × Nat
  | _, [] => (0, 0)
  | till, p :: rest =>
    let from' := max start p.1
    let r := if p.1 ≤ start then (0, 0) else histSum start from' rest
    (r.1 + p.2 * ((till - from' : Nat) : Int), r.2 + (till - from'))

/-- A Sync exchange: the counter is stepped forward or its offset slewed, and locks after 16 small offsets. The
servo's correction with what it adds to slew is the exchange's own. -/
def State.ptpServo (s : State) (offset delay adj : Int) : State :=
  if !s.portOpen || s.time.master.isNone then s
  else
    let t := s.time
    let rate := max (-rateLimit) (min rateLimit adj)
    let jump := decide (1000 < offset) && !s.anyRuns
    let run := if offset.natAbs < 100 then t.goodRun + 1 else 0
    let warn := !jump && decide (1000000 < offset.natAbs)
    let t1 := { t with
      ns := if jump then t.ns + offset.toNat else t.ns, jumped := if jump then t.jumped + offset else t.jumped
      rateAdj := rate, offset := offset, delay := delay, goodRun := min 16 run, slewing := !jump && decide (offset ≠ 0)
      offsetWarn := warn, ptp := if 16 ≤ run then 2 else t.ptp }
    let s1 := { s with time := { t1 with hist := trimHist t1.ns ((t1.ns, rate) :: t1.hist) } }
    let s2 := s1.bump (Blk.time.at Reg.SYNC_RX) 1
    let s3 := if jump then s2.bump (Blk.time.at Reg.TIME_STEPS) 1 else s2
    let s4 := if s.cfg.ptpP2p then s3 else s3.send .ptpDelayReq
    let s5 := if warn && !t.offsetWarn then s4.note sevWarn "time offset" unitPackage (Crypto.bytesLE 8 (fieldOfInt 64 offset)) else s4
    s5.lockWait

def execPtpSync (offset : Int) (delay freqAdj : Int) (s : State) : Host.Outcome State Fault Refusal :=
  .next (s.ptpServo offset delay freqAdj)

/-- PTP_ANNOUNCE_TIMEOUT: the master is lost; another is selected, or the counter runs on alone. -/
def State.masterLost (s : State) (other : Option PtpAnn) : State :=
  if s.time.master.isNone then s
  else
    let s1 := ({ s with time := { s.time with master := none, goodRun := 0, slewing := false } }).bump
      (Blk.time.at Reg.ANNOUNCE_TIMEOUTS) 1
    match other.filter (fun a => a.domain == s.cfg.ptpDomain) with
    | some a => s1.takeMaster a
    | none =>
      if s.time.ptp = 2 then
        let h := histSum (s.time.ns - 64000000000) s.time.ns s.time.hist
        let rate := if h.2 = 0 then s.time.rateAdj else h.1 / (h.2 : Int)
        let s2 := { s1 with time := { s1.time with ptp := 3, rateAdj := rate, holdStart := s.time.ns } }
        (s2.setCause causeHoldover).note sevInfo "time holdover" unitPackage []
      else if s.time.ptp = 1 then { s1 with time := { s1.time with ptp := 0 } }
      else s1

def execPtpAnnounceTimeout (other : Option PtpAnn) (s : State) : Host.Outcome State Fault Refusal := .next (s.masterLost other)

/-- PTP_LOCK_WAIT. -/
def execPtpLockWait (s : State) : Host.Outcome State Fault Refusal := .next s.lockWait

end Sys2Proof.Machine
end

