-- ==== Sys2Proof/Machine/BootExec.lean ====
section
/-!
DEFINITION. Events of the pins, of start-up, of signing and of the event recorder (R286, R311 to R317, R325 to
R328, R381, R391 to R396).
-/

namespace Sys2Proof.Machine

open Sys2Proof

/-! ### Pins (R286, R312, R315) -/

/-- RBSY_SWITCH_LOW_END: the low of a switch has lasted its time (Table 10-10). -/
def execRbsySwitchLowEnd (s : State) : Host.Outcome State Fault Refusal := .next { s with switching := false }

/-- RST_N_LOW. -/
def execRstNLow (s : State) : Host.Outcome State Fault Refusal :=
  .next (if s.pins.rstN then
      let s1 := s.enterReset 2
      { s1 with pins := { s1.pins with rstN := false } }
    else s)

/-- POWER_GOOD_LOW: PWRGD_MEM or PWRGD_CORE; the next start reports POWER_ON. -/
def execPowerGoodLow (mem : Bool) (s : State) : Host.Outcome State Fault Refusal :=
  .next (if (if mem then s.pins.pwrgdMem else s.pins.pwrgdCore) then
      let s1 := s.enterReset 1
      { s1 with
        resetCause := 1
        pins := if mem then { s1.pins with pwrgdMem := false } else { s1.pins with pwrgdCore := false } }
    else s)

/-- The sequence goes on from the largest committed number (R395). -/
def Nvm.nextSeq (n : Nvm) : Nat := n.records.foldl (fun m r => max m (r.seq + payloadSlots r.payload.length)) 1

/-- Clocks at the start: every PLL locked, every domain under its setting, every ring calibrated and every monitor
armed (R295, R301). -/
def State.startClocks (s : State) (ringWindows : List Nat) : State :=
  let fixed := fun (mhz : Nat) => { Dom.init with mhz := mhz, locked := true }
  let s1 := { s with clocks := { s.clocks with
    allGated := false
    doms := (List.range 36).map (fun k => (k, { Dom.init with locked := true }))
      ++ [(36, fixed 53125), (37, fixed 1562), (38, fixed 500), (39, fixed (s.reg (Blk.clocks.at Reg.RINGMASTER_MHZ)).toNat)]
    mons := (List.range 4).map (fun d =>
      let w := ringWindows.getD d 0
      (d, { DieMon.init with window := w, start := w, armed := true })) } }
  allDies.foldl State.applyDie s1

/-- What the boot ROM reads from non-volatile memory (R267, R317, R377, R378): a configuration record that fails
its check is replaced by the defaults; a root key that cannot be rebuilt, a secret that fails its tag, or a good-core
map that neither copy gives ends the start in safe state. -/
def State.readNvm (s : State) (pufOk : Bool) : State :=
  let s1 := { s with sec := { s.sec with pufOk := pufOk } }
  let s2 := if s1.nvm.cfgOk then { s1 with cfg := s1.nvm.cfg }
    else ({ s1 with cfg := Cfg.init, nvm := { s1.nvm with cfg := Cfg.init, cfgOk := true } }).note sevWarn
      "configuration replaced" unitPackage []
  let s3 := if pufOk && s2.nvm.secretsOk then s2 else s2.goSafe false unitControl []
  if s3.nvm.mapA || s3.nvm.mapB then s3 else s3.goSafe false unitPackage []

/-- RESET_RELEASE: phase 1 (R314, R315). The power-cycle count rises first; consumed trip records are erased, and an
unconsumed one holds the start (R328, R363, R366). -/
def State.release (s : State) (pufOk : Bool) (ringWindows : List Nat) : State :=
  if s.boot.released then s
  else
    let trip := (s.nvm.trips.find? slotUnconsumed)
    let s1 := { s with
      pins := { s.pins with rstN := true, pwrgdCore := true, pwrgdMem := true, thermTrip := false }
      nvm := { s.nvm with
        bootCount := s.nvm.bootCount + 1
        trips := s.nvm.trips.map (fun b => if slotComplete b && !slotUnconsumed b then List.replicate 64 0xFF else b) }
      boot := { s.boot with released := true, hold := trip.isSome, tripRecord := trip }
      time := Time.init
      recorder := { s.recorder with opBase := s.nvm.opStored + 64, nextSeq := s.nvm.nextSeq }
      resetCause := s.resetCause + (if trip.isSome then 8 else 0) }
    let s2 := ((s1.startClocks ringWindows).readNvm pufOk)
    if s2.clocks.safe then s2
    else if trip.isSome then s2.setCause causeTrip
    else s2.endPhase 1

def execResetRelease (pufOk : Bool) (ringWindows : List Nat) (s : State) : Host.Outcome State Fault Refusal :=
  .next (s.release pufOk ringWindows)

/-! ### Training and census (R315 to R317) -/

/-- A start-up phase is in progress. -/
def State.inPhase (s : State) (p : Nat) : Bool :=
  s.counting && !s.clocks.safe && !s.thermal.tripped && decide (s.boot.phase = p)

/-- CONTROL_NETWORK_TRAINING: segments that fail are bypassed (R185). -/
def execControlNetworkTraining (failed : List Nat) (s : State) : Host.Outcome State Fault Refusal :=
  .next (if s.inPhase 2 then
      ({ s with fabric := { s.fabric with
        segTrained := true, segDown := (failed.filter (· < 36)).foldl (fun t k => t.put k 0) s.fabric.segDown } }).endPhase 2
    else s)

/-- A link that fails three attempts is out of service, at both its ends, and recorded. -/
def State.failLink (s : State) (d : Nat) (south : Bool) : State :=
  if !s.fabric.linkUp.testBit (linkKey d south) then s
  else
    let far := linkPeer d south
    let s1 := s.loseLink d south
    let a := Blk.boot.at Reg.TRAIN_FAIL
    let bits := 2 ^ (12 + linkKey d south) ||| 2 ^ (12 + linkKey far (!south))
    ((s1.setReg a (s1.reg a ||| word bits)).note sevError "link training failed" (unitLink d south) [])

/-- A die that the data fabric does not reach: its cores are fenced, its channels failed. -/
def State.fenceDie (s : State) (d : Nat) : State :=
  let cores := ((List.range 144).map (· + 144 * d)).filter s.good
  let s1 := cores.foldl (fun (s : State) c => s.fenceSoon c 10) s
  ([0, 1, 2].map (· + 3 * d)).foldl State.loseStack s1

/-- DIE_LINK_TRAINING: the failed attempts of each link. -/
def execDieLinkTraining (attempts : List (DieIx × Bool × Nat)) (s : State) : Host.Outcome State Fault Refusal :=
  .next (if s.inPhase 3 then
      let s1 := { s with fabric := { s.fabric with linkTrained := 255, linkUp := 255 } }
      let s2 := (attempts.filter (fun x => decide (3 ≤ x.2.2))).foldl (fun (s : State) x => s.failLink x.1.val x.2.1) s1
      let s3 := { s2 with fabric := { s2.fabric with linkTrained := s2.fabric.linkUp } }
      let out := (List.range 4).filter (fun d => !s3.fabric.linkWorks d false && !s3.fabric.linkWorks d true)
      (out.foldl State.fenceDie s3).endPhase 3
    else s)

/-- A stack trains after some failed attempts, or fails with the third. -/
def State.trainStack (s : State) (k tries : Nat) : State :=
  if 3 ≤ tries then
    let a := Blk.boot.at Reg.TRAIN_FAIL
    ((s.updStack k (fun x => { x with attempts := 3, failed := true })).setReg a (s.reg a ||| word (2 ^ k))).note sevError
      "stack training failed" (unitStack k) []
  else s.updStack k (fun x => { x with trained := true, inService := !x.failed, attempts := tries + 1 })

/-- STACK_TRAINING: every granule is written with zeros. -/
def execStackTraining (attempts : List (StackIx × Nat)) (s : State) : Host.Outcome State Fault Refusal :=
  .next (if s.inPhase 4 then
      let tries := fun (k : Nat) => ((attempts.find? (fun p => p.1.val == k)).map (·.2)).getD 0
      let s1 := (List.range 12).foldl (fun (s : State) k => s.trainStack k (tries k)) s
      ({ s1 with mem := [], poison := [] }).endPhase 4
    else s)

/-- CORE_CENSUS: each core that fails is fenced and recorded with its test; the map is valid from here on, and
discovery begins. -/
def execCoreCensus (failed : List (CoreIx × Nat)) (s : State) : Host.Outcome State Fault Refusal :=
  .next (if s.inPhase 5 then
      let bad := failed.filter (fun p => s.good p.1.val)
      let s1 := bad.foldl (fun (s : State) p =>
        (s.error sevError 0x0407 (unitCore p.1.val) none none p.2).fenceSoon p.1.val 0) s
      let n := (bad.map (·.1)).eraseDups.length
      let s2 := s1.setReg (Blk.boot.at Reg.CENSUS) (word (s.goodCount + 1024 * n))
      ({ s2 with boot := { s2.boot with goodValid := true }, port := { s2.port with disc := 1 } }).endPhase 5
    else s)

/-! ### Calibration and service (R132, R325, R327) -/

/-- Every die's converters are self-calibrated; factors not yet measured are free values (log 6). -/
def State.selfCalAll (s : State) : State :=
  (List.range 4).foldl (fun (s : State) d =>
    if (s.therm d).calValid then s
    else
      let r := (List.range 6).foldl (fun (acc : List (Nat × Nat) × State) _ =>
        let g := acc.2.freshValue 16
        let o := g.2.freshValue 12
        (acc.1 ++ [(g.1.toNat, o.1.toNat)], o.2)) ([], s)
      r.2.updTherm d (fun x => { x with
        calBusy := false, calValid := true, factors := r.1.zipIdx.map (fun p => (p.2, p.1)) })) s

/-- A core's start-up calibration: one whose array is bad twice is fenced. -/
def State.startCore (s : State) (c : Nat) (reads : List StartupReads) : State :=
  let r := s.startupCore c reads
  if r.2 < 2 then r.1
  else (r.1.note sevError "start-up calibration failed" (unitCore c) (ErrInfo.only c).bytes).fenceSoon c 5

/-- STARTUP_CALIBRATION: the converters, then every array of every good core that is not fenced, its die's load held
at START_LOAD; paused while a die or stack is warm. -/
def execStartupCalibration (reads : List StartupReads) (s : State) : Host.Outcome State Fault Refusal :=
  .next (if !s.inPhase 12 then s
    else if (List.range 4).any (fun d => decide (1 ≤ (s.therm d).state)) then s.discWaits
    else
      let s1 := s.selfCalAll
      let cores := (List.range 576).filter (fun c => s1.good c && !(s1.core c).fenced)
      let s2 := cores.foldl (fun (s : State) c => s.startCore c reads) s1
      (({ s2 with
        startupDone := true, loadIndex := (List.range 4).map (fun d => (d, s.startLoad)) }).endPhase 12).discover)

/-- IN_SERVICE_ANNOUNCE: sessions are accepted in full, and RBSY rises where nothing else holds it low; the
security floor rises with it (R322, R327). -/
def execInServiceAnnounce (s : State) : Host.Outcome State Fault Refusal :=
  .next (if !s.inPhase 15 || s.boot.isDone || !s.portOpen then s
    else
      let s1 := s.announceNow 1
      let s2 := { s1 with port := { s1.port with disc := 7 } }
      if s2.switching || decide (s2.placesFree < 256) then s2.discWaits
      else
        { s2 with
          nvm := { s2.nvm with floor := max s2.nvm.floor s2.boot.fwSec }
          boot := { s2.boot with
            isDone := true, raised := true, waiting := false, ends := s2.boot.ends.put 15 s2.sinceReset } })

/-! ### Signing (R381) -/

/-- BOTTOM_TREE_BUILD_DONE: the new tree's key is signed by a reserved leaf of the top tree. -/
def execBottomTreeBuildDone (s : State) : Host.Outcome State Fault Refusal :=
  .next (if s.sec.building then
      let s1 := s.reserveTop
      { s1 with sec := { s1.sec with topLeaf := s1.sec.topLeaf + 1, building := false, built := true } }
    else s)

/-! ### The event recorder (R391 to R396) -/

/-- OPERATING_SECONDS_STORE. -/
def execOperatingSecondsStore (s : State) : Host.Outcome State Fault Refusal :=
  .next (if s.counting then { s with nvm := { s.nvm with opStored := s.opS } } else s)

/-- Slots a record takes. -/
def EvRec.size (r : EvRec) : Nat := payloadSlots r.payload.length

/-- The record that one of a severity replaces: the oldest of the lowest severity not more severe than its own. -/
def Nvm.victim (n : Nvm) (sev : Nat) : Option EvRec :=
  let can := n.records.filter (fun (r : EvRec) => decide (sev ≤ r.severity))
  let low := can.foldl (fun m r => max m r.severity) 0
  (can.filter (fun (r : EvRec) => r.severity == low)).foldl (fun m r => match m with
    | none => some r
    | some x => if r.seq < x.seq then some r else some x) none

/-- Room is made for a record, at most one replacement for each slot it takes; none where it must be dropped. -/
def Nvm.makeRoom (r : EvRec) : Nat → Nvm → Option Nvm
  | 0, n => if (n.records.map EvRec.size).sum + r.size ≤ recorderSlots then some n else none
  | k + 1, n =>
    if (n.records.map EvRec.size).sum + r.size ≤ recorderSlots then some n
    else match n.victim r.severity with
      | none => none
      | some v => Nvm.makeRoom r k { n with records := n.records.filter (fun x => x.seq != v.seq), replaced := n.replaced + 1 }

/-- The oldest staged record commits, and goes to the sessions that asked for its severity (R287, R395). -/
def State.commitRecord (s : State) : State :=
  match s.recorder.staging with
  | [] => s
  | r :: rest =>
    let s1 := { s with recorder := { s.recorder with staging := rest } }
    match Nvm.makeRoom r r.size s1.nvm with
    | none => { s1 with nvm := { s1.nvm with dropped := s1.nvm.dropped + 1 } }
    | some n =>
      let s2 := { s1 with nvm := { n with records := n.records ++ [r] } }
      let asks := s2.sessions.filter (fun x => x.isOpen && (match x.notify with
        | some sev => decide (r.severity ≤ sev)
        | none => false))
      asks.foldl (fun (s : State) x => s.originate x.id (.eventNotice r.slots.flatten)) s2

/-- EVENT_RECORD_COMMIT. -/
def execEventRecordCommit (s : State) : Host.Outcome State Fault Refusal := .next s.commitRecord

end Sys2Proof.Machine
end

