-- ==== Sys2Proof/Machine/HostCmds.lean ====
section
/-!
DEFINITION. The host commands: one meaning for each, which receives it in its session (R273) and does
what it does when it is processed or applied. Each cites the rule of its effect.
-/

namespace Sys2Proof.Machine

open Sys2Proof

/-- SESSION_OPEN (R271). -/
def execSessionOpen (src _version key : Nat) (nonce : List Byte) (mct plans manifests : Nat)
    (signed tag : List Byte) (s : State) : Host.Outcome State Fault Refusal :=
  .next (runSessionOpen s src key nonce mct plans manifests signed tag)

/-- SESSION_CONFIRM (R271). -/
def execSessionConfirm (h : Hdr) (s : State) : Host.Outcome State Fault Refusal :=
  .next (hostReceive h (.sessionConfirm h) s)

/-- KEEPALIVE (R278). -/
def execKeepalive (h : Hdr) (s : State) : Host.Outcome State Fault Refusal :=
  .next (hostReceive h (.keepalive h) s)

/-- SESSION_CLOSE (R274). -/
def execSessionClose (h : Hdr) (s : State) : Host.Outcome State Fault Refusal :=
  .next (hostReceive h (.sessionClose h) s)

/-- VERSION_QUERY (R278). -/
def execVersionQuery (h : Hdr) (s : State) : Host.Outcome State Fault Refusal :=
  .next (hostReceive h (.versionQuery h) s)

/-- SESSION_QUERY (R278). -/
def execSessionQuery (h : Hdr) (s : State) : Host.Outcome State Fault Refusal :=
  .next (hostReceive h (.sessionQuery h) s)

/-- REG_READ (R29). -/
def execRegRead (h : Hdr) (addr count : Nat) (s : State) : Host.Outcome State Fault Refusal :=
  .next (hostReceive h (.regRead h addr count) s)

/-- REG_WRITE (R29). -/
def execRegWrite (h : Hdr) (addr : Nat) (value mask : Word) (s : State) : Host.Outcome State Fault Refusal :=
  .next (hostReceive h (.regWrite h addr value mask) s)

/-- RC_REGISTER_READ (R10). -/
def execRcRegisterRead (h : Hdr) (addr : Nat) (s : State) : Host.Outcome State Fault Refusal :=
  .next (hostReceive h (.rcRegisterRead h addr) s)

/-- LATCHING_LOW_HALF_READ (R310). -/
def execLatchingLowHalfRead (h : Hdr) (addr : Nat) (s : State) : Host.Outcome State Fault Refusal :=
  .next (hostReceive h (.latchingLowHalfRead h addr) s)

/-- CFG_READ (R267). -/
def execCfgRead (h : Hdr) (item : CfgKey) (s : State) : Host.Outcome State Fault Refusal :=
  .next (hostReceive h (.cfgRead h item) s)

/-- CFG_WRITE (R267). -/
def execCfgWrite (h : Hdr) (value : CfgVal) (s : State) : Host.Outcome State Fault Refusal :=
  .next (hostReceive h (.cfgWrite h value) s)

/-- DEVICE_QUERY (R278). -/
def execDeviceQuery (h : Hdr) (s : State) : Host.Outcome State Fault Refusal :=
  .next (hostReceive h (.deviceQuery h) s)

/-- DEVICE_RESET (R313). -/
def execDeviceReset (h : Hdr) (force : Bool) (s : State) : Host.Outcome State Fault Refusal :=
  .next (hostReceive h (.deviceReset h force) s)

/-- FW_BEGIN (R320). -/
def execFwBegin (h : Hdr) (len : Nat) (digest : List Byte) (s : State) : Host.Outcome State Fault Refusal :=
  .next (hostReceive h (.fwBegin h len digest) s)

/-- FW_DATA (R320). -/
def execFwData (h : Hdr) (off : Nat) (data : List Byte) (s : State) : Host.Outcome State Fault Refusal :=
  .next (hostReceive h (.fwData h off data) s)

/-- FW_COMMIT (R322). -/
def execFwCommit (h : Hdr) (s : State) : Host.Outcome State Fault Refusal :=
  .next (hostReceive h (.fwCommit h) s)

/-- ATTEST_QUOTE (R387). -/
def execAttestQuote (h : Hdr) (nonce : List Byte) (scope : Nat) (s : State) : Host.Outcome State Fault Refusal :=
  .next (hostReceive h (.attestQuote h nonce scope) s)

/-- KEY_ENROL (R384). -/
def execKeyEnrol (h : Hdr) (record : List Byte) (s : State) : Host.Outcome State Fault Refusal :=
  .next (hostReceive h (.keyEnrol h record) s)

/-- KEY_REVOKE (R385). -/
def execKeyRevoke (h : Hdr) (key : Nat) (s : State) : Host.Outcome State Fault Refusal :=
  .next (hostReceive h (.keyRevoke h key) s)

/-- GROUP_FORM (R228). -/
def execGroupForm (h : Hdr) (group mask : Nat) (s : State) : Host.Outcome State Fault Refusal :=
  .next (hostReceive h (.groupForm h group mask) s)

/-- GROUP_DISSOLVE (R228). -/
def execGroupDissolve (h : Hdr) (group : Nat) (s : State) : Host.Outcome State Fault Refusal :=
  .next (hostReceive h (.groupDissolve h group) s)

/-- MODEL_LOAD (R235). -/
def execModelLoad (h : Hdr) (group : Nat) (loc : StorageLoc) (reads : Reads)
    (s : State) : Host.Outcome State Fault Refusal :=
  .next (hostReceive h (.modelLoad h group loc reads) s)

/-- MODEL_ABORT (R238). -/
def execModelAbort (h : Hdr) (group : Nat) (s : State) : Host.Outcome State Fault Refusal :=
  .next (hostReceive h (.modelAbort h group) s)

/-- INSTANCE_QUERY (R261). -/
def execInstanceQuery (h : Hdr) (group : Nat) (s : State) : Host.Outcome State Fault Refusal :=
  .next (hostReceive h (.instanceQuery h group) s)

/-- INSTANCE_UNLOAD (R231). -/
def execInstanceUnload (h : Hdr) (group : Nat) (force : Bool) (s : State) : Host.Outcome State Fault Refusal :=
  .next (hostReceive h (.instanceUnload h group force) s)

/-- LOAD_REPORT (R239). -/
def execLoadReport (h : Hdr) (group tensor : Nat) (s : State) : Host.Outcome State Fault Refusal :=
  .next (hostReceive h (.loadReport h group tensor) s)

/-- ADAPTER_LOAD (R240). -/
def execAdapterLoad (h : Hdr) (group ident tenant : Nat) (loc : StorageLoc) (reads : Reads)
    (s : State) : Host.Outcome State Fault Refusal :=
  .next (hostReceive h (.adapterLoad h group ident tenant loc reads) s)

/-- ADAPTER_UNLOAD (R243). -/
def execAdapterUnload (h : Hdr) (group ident : Nat) (s : State) : Host.Outcome State Fault Refusal :=
  .next (hostReceive h (.adapterUnload h group ident) s)

/-- ADAPTER_QUERY (R242). -/
def execAdapterQuery (h : Hdr) (group ident : Nat) (s : State) : Host.Outcome State Fault Refusal :=
  .next (hostReceive h (.adapterQuery h group ident) s)

/-- CTX_CREATE (R200). -/
def execCtxCreate (h : Hdr) (f : CtxFields) (s : State) : Host.Outcome State Fault Refusal :=
  .next (hostReceive h (.ctxCreate h f) s)

/-- CTX_DELETE (R245). -/
def execCtxDelete (h : Hdr) (ctx tenant : Nat) (s : State) : Host.Outcome State Fault Refusal :=
  .next (hostReceive h (.ctxDelete h ctx tenant) s)

/-- CTX_SET (R261). -/
def execCtxSet (h : Hdr) (ctx tenant policy shift : Nat) (backing : Backing)
    (s : State) : Host.Outcome State Fault Refusal :=
  .next (hostReceive h (.ctxSet h ctx tenant policy shift backing) s)

/-- CTX_TRUNCATE (R261). -/
def execCtxTruncate (h : Hdr) (ctx tenant pos : Nat) (s : State) : Host.Outcome State Fault Refusal :=
  .next (hostReceive h (.ctxTruncate h ctx tenant pos) s)

/-- CTX_SUSPEND (R218). -/
def execCtxSuspend (h : Hdr) (ctx tenant : Nat) (s : State) : Host.Outcome State Fault Refusal :=
  .next (hostReceive h (.ctxSuspend h ctx tenant) s)

/-- CTX_RESTORE (R248). -/
def execCtxRestore (h : Hdr) (group tenant tag : Nat) (backing : Backing)
    (s : State) : Host.Outcome State Fault Refusal :=
  .next (hostReceive h (.ctxRestore h group tenant tag backing) s)

/-- CTX_QUERY (R261). -/
def execCtxQuery (h : Hdr) (ctx tenant : Nat) (s : State) : Host.Outcome State Fault Refusal :=
  .next (hostReceive h (.ctxQuery h ctx tenant) s)

/-- REQ_SUBMIT (R249). -/
def execReqSubmit (h : Hdr) (r : ReqFields) (s : State) : Host.Outcome State Fault Refusal :=
  .next (hostReceive h (.reqSubmit h r) s)

/-- REQ_TOKENS (R249). -/
def execReqTokens (h : Hdr) (req : Nat) (tokens : List Nat) (more : Bool)
    (s : State) : Host.Outcome State Fault Refusal :=
  .next (hostReceive h (.reqTokens h req tokens more) s)

/-- REQ_CANCEL (R254). -/
def execReqCancel (h : Hdr) (req : Nat) (s : State) : Host.Outcome State Fault Refusal :=
  .next (hostReceive h (.reqCancel h req) s)

/-- REQ_QUERY (R261). -/
def execReqQuery (h : Hdr) (req : Nat) (s : State) : Host.Outcome State Fault Refusal :=
  .next (hostReceive h (.reqQuery h req) s)

/-- PLAN_BEGIN (R166). -/
def execPlanBegin (h : Hdr) (group len : Nat) (digest : List Byte) (s : State) : Host.Outcome State Fault Refusal :=
  .next (hostReceive h (.planBegin h group len digest) s)

/-- PLAN_DATA (R166). -/
def execPlanData (h : Hdr) (group off : Nat) (data : List Byte) (s : State) : Host.Outcome State Fault Refusal :=
  .next (hostReceive h (.planData h group off data) s)

/-- PLAN_COMMIT (R148). -/
def execPlanCommit (h : Hdr) (group : Nat) (s : State) : Host.Outcome State Fault Refusal :=
  .next (hostReceive h (.planCommit h group) s)

/-- PLAN_ABORT (R166). -/
def execPlanAbort (h : Hdr) (group : Nat) (s : State) : Host.Outcome State Fault Refusal :=
  .next (hostReceive h (.planAbort h group) s)

/-- PLAN_QUERY (R166). -/
def execPlanQuery (h : Hdr) (group : Nat) (s : State) : Host.Outcome State Fault Refusal :=
  .next (hostReceive h (.planQuery h group) s)

/-- VARIANT_FORCE (R161). -/
def execVariantForce (h : Hdr) (group code : Nat) (s : State) : Host.Outcome State Fault Refusal :=
  .next (hostReceive h (.variantForce h group code) s)

/-- PLAN_RETIRE (R166). -/
def execPlanRetire (h : Hdr) (group : Nat) (s : State) : Host.Outcome State Fault Refusal :=
  .next (hostReceive h (.planRetire h group) s)

/-- BALANCE_SET (R256). -/
def execBalanceSet (h : Hdr) (group : Nat) (b : Balance) (s : State) : Host.Outcome State Fault Refusal :=
  .next (hostReceive h (.balanceSet h group b) s)

/-- BALANCE_QUERY (R261). -/
def execBalanceQuery (h : Hdr) (group : Nat) (s : State) : Host.Outcome State Fault Refusal :=
  .next (hostReceive h (.balanceQuery h group) s)

/-- CORE_FENCE (R347). -/
def execCoreFence (h : Hdr) (core : Nat) (s : State) : Host.Outcome State Fault Refusal :=
  .next (hostReceive h (.coreFence h core) s)

/-- CORE_UNFENCE (R347). -/
def execCoreUnfence (h : Hdr) (core : Nat) (s : State) : Host.Outcome State Fault Refusal :=
  .next (hostReceive h (.coreUnfence h core) s)

/-- PROBE_LOAD (R349). -/
def execProbeLoad (h : Hdr) (loc : StorageLoc) (s : State) : Host.Outcome State Fault Refusal :=
  .next (hostReceive h (.probeLoad h loc) s)

/-- PROBE_RESULTS (R351). -/
def execProbeResults (h : Hdr) (pack : Nat) (s : State) : Host.Outcome State Fault Refusal :=
  .next (hostReceive h (.probeResults h pack) s)

/-- CAL_REQUEST (R133). -/
def execCalRequest (h : Hdr) (scope : CalScope) (s : State) : Host.Outcome State Fault Refusal :=
  .next (hostReceive h (.calRequest h scope) s)

/-- CAL_CANCEL (R133). -/
def execCalCancel (h : Hdr) (scope : CalScope) (s : State) : Host.Outcome State Fault Refusal :=
  .next (hostReceive h (.calCancel h scope) s)

/-- CAL_DISCARD (R133). -/
def execCalDiscard (h : Hdr) (scope : CalScope) (slots : Nat) (s : State) : Host.Outcome State Fault Refusal :=
  .next (hostReceive h (.calDiscard h scope slots) s)

/-- REDUNDANCY_SET (R338). -/
def execRedundancySet (h : Hdr) (group : Nat) (on : Bool) (s : State) : Host.Outcome State Fault Refusal :=
  .next (hostReceive h (.redundancySet h group on) s)

/-- TELEMETRY_SET (R278). -/
def execTelemetrySet (h : Hdr) (period mask : Nat) (s : State) : Host.Outcome State Fault Refusal :=
  .next (hostReceive h (.telemetrySet h period mask) s)

/-- TELEMETRY_QUERY (R278). -/
def execTelemetryQuery (h : Hdr) (mask : Nat) (s : State) : Host.Outcome State Fault Refusal :=
  .next (hostReceive h (.telemetryQuery h mask) s)

/-- EVENT_READ (R397). -/
def execEventRead (h : Hdr) (first count : Nat) (s : State) : Host.Outcome State Fault Refusal :=
  .next (hostReceive h (.eventRead h first count) s)

/-- EVENT_NOTIFY (R287). -/
def execEventNotify (h : Hdr) (severity : Option Nat) (s : State) : Host.Outcome State Fault Refusal :=
  .next (hostReceive h (.eventNotify h severity) s)

/-- EVT_ACK (R287). -/
def execEvtAck (h : Hdr) (mask : Word) (s : State) : Host.Outcome State Fault Refusal :=
  .next (hostReceive h (.evtAck h mask) s)

/-- TIME_QUERY (R278). -/
def execTimeQuery (h : Hdr) (s : State) : Host.Outcome State Fault Refusal :=
  .next (hostReceive h (.timeQuery h) s)

/-- EPOCH_SET (R307). -/
def execEpochSet (h : Hdr) (epoch : Nat) (s : State) : Host.Outcome State Fault Refusal :=
  .next (hostReceive h (.epochSet h epoch) s)

/-- HOST_SENT_DEVICE_ONLY_OPCODE (R278); another opcode is not this event (log 5). -/
def execHostSentDeviceOnlyOpcode (h : Hdr) (opcode : Nat) (s : State) : Host.Outcome State Fault Refusal :=
  .next (if deviceOnly opcode then hostReceive h (.hostSentDeviceOnlyOpcode h opcode) s else s)

/-- UNLISTED_OPCODE (R278); another opcode is not this event (log 5). -/
def execUnlistedOpcode (h : Hdr) (opcode : Nat) (s : State) : Host.Outcome State Fault Refusal :=
  .next (if opcodeListed opcode || deviceOnly opcode then s else hostReceive h (.unlistedOpcode h opcode) s)

/-- ENG_CTRL_WRITE (R66). -/
def execEngCtrlWrite (h : Hdr) (core : CoreIx) (eng : EngIx) (value mask : Word)
    (s : State) : Host.Outcome State Fault Refusal :=
  .next (hostReceive h (.engCtrlWrite h core eng value mask) s)

/-- TILE_SEL_WRITE (R94). -/
def execTileSelWrite (h : Hdr) (core : CoreIx) (value mask : Word) (s : State) : Host.Outcome State Fault Refusal :=
  .next (hostReceive h (.tileSelWrite h core value mask) s)

/-- CAL_CTRL_WRITE (R134). -/
def execCalCtrlWrite (h : Hdr) (value mask : Word) (s : State) : Host.Outcome State Fault Refusal :=
  .next (hostReceive h (.calCtrlWrite h value mask) s)

/-- CAL_BOUNDS_WRITE (R134). -/
def execCalBoundsWrite (h : Hdr) (value mask : Word) (s : State) : Host.Outcome State Fault Refusal :=
  .next (hostReceive h (.calBoundsWrite h value mask) s)

/-- PORT_RESERVE_WRITE (R195). -/
def execPortReserveWrite (h : Hdr) (value mask : Word) (s : State) : Host.Outcome State Fault Refusal :=
  .next (hostReceive h (.portReserveWrite h value mask) s)

/-- EVT_CAUSE_WRITE (R287). -/
def execEvtCauseWrite (h : Hdr) (value mask : Word) (s : State) : Host.Outcome State Fault Refusal :=
  .next (hostReceive h (.evtCauseWrite h value mask) s)

/-- EVT_MASK_WRITE (R291). -/
def execEvtMaskWrite (h : Hdr) (value mask : Word) (s : State) : Host.Outcome State Fault Refusal :=
  .next (hostReceive h (.evtMaskWrite h value mask) s)

/-- PKG_THROTTLE_WRITE (R308). -/
def execPkgThrottleWrite (h : Hdr) (value mask : Word) (s : State) : Host.Outcome State Fault Refusal :=
  .next (hostReceive h (.pkgThrottleWrite h value mask) s)

/-- CORE_IDLE_WRITE (R308). -/
def execCoreIdleWrite (h : Hdr) (value mask : Word) (s : State) : Host.Outcome State Fault Refusal :=
  .next (hostReceive h (.coreIdleWrite h value mask) s)

/-- RINGMASTER_MHZ_WRITE (R308). -/
def execRingmasterMhzWrite (h : Hdr) (value mask : Word) (s : State) : Host.Outcome State Fault Refusal :=
  .next (hostReceive h (.ringmasterMhzWrite h value mask) s)

/-- PKG_GATE_WRITE (R300). -/
def execPkgGateWrite (h : Hdr) (value mask : Word) (s : State) : Host.Outcome State Fault Refusal :=
  .next (hostReceive h (.pkgGateWrite h value mask) s)

/-- DIE_GATE_WRITE (R300). -/
def execDieGateWrite (h : Hdr) (die : DieIx) (value mask : Word) (s : State) : Host.Outcome State Fault Refusal :=
  .next (hostReceive h (.dieGateWrite h die value mask) s)

/-- GATE_CORE_WRITE (R300). -/
def execGateCoreWrite (h : Hdr) (die : DieIx) (value mask : Word) (s : State) : Host.Outcome State Fault Refusal :=
  .next (hostReceive h (.gateCoreWrite h die value mask) s)

/-- DOM_CTRL_WRITE (R297). -/
def execDomCtrlWrite (h : Hdr) (die : DieIx) (dom : Fin 9) (value mask : Word)
    (s : State) : Host.Outcome State Fault Refusal :=
  .next (hostReceive h (.domCtrlWrite h die dom value mask) s)

/-- DOM_SSC_WRITE (R298). -/
def execDomSscWrite (h : Hdr) (die : DieIx) (dom : Fin 9) (value mask : Word)
    (s : State) : Host.Outcome State Fault Refusal :=
  .next (hostReceive h (.domSscWrite h die dom value mask) s)

/-- SCRUB_CTRL_WRITE (R352). -/
def execScrubCtrlWrite (h : Hdr) (value mask : Word) (s : State) : Host.Outcome State Fault Refusal :=
  .next (hostReceive h (.scrubCtrlWrite h value mask) s)

/-- THRESH_DIE_WRITE (R357). -/
def execThreshDieWrite (h : Hdr) (value mask : Word) (s : State) : Host.Outcome State Fault Refusal :=
  .next (hostReceive h (.threshDieWrite h value mask) s)

/-- THRESH_STACK_WRITE (R357). -/
def execThreshStackWrite (h : Hdr) (value mask : Word) (s : State) : Host.Outcome State Fault Refusal :=
  .next (hostReceive h (.threshStackWrite h value mask) s)

/-- TRIG_CTRL_WRITE (R370). -/
def execTrigCtrlWrite (h : Hdr) (value mask : Word) (s : State) : Host.Outcome State Fault Refusal :=
  .next (hostReceive h (.trigCtrlWrite h value mask) s)

/-- TRIG_TIME_HI_WRITE (R370). -/
def execTrigTimeHiWrite (h : Hdr) (value mask : Word) (s : State) : Host.Outcome State Fault Refusal :=
  .next (hostReceive h (.trigTimeHiWrite h value mask) s)

/-- MON_CAL_WRITE (R371). -/
def execMonCalWrite (h : Hdr) (value mask : Word) (s : State) : Host.Outcome State Fault Refusal :=
  .next (hostReceive h (.monCalWrite h value mask) s)

/-- SEQ_WRITE (R368). -/
def execSeqWrite (h : Hdr) (die : DieIx) (conv : Fin 4) (entry : Fin 16) (value mask : Word)
    (s : State) : Host.Outcome State Fault Refusal :=
  .next (hostReceive h (.seqWrite h die conv entry value mask) s)

/-- PIPE_CTRL_WRITE (R369). -/
def execPipeCtrlWrite (h : Hdr) (die : DieIx) (value mask : Word) (s : State) : Host.Outcome State Fault Refusal :=
  .next (hostReceive h (.pipeCtrlWrite h die value mask) s)

end Sys2Proof.Machine
end

