-- ==== Sys2Proof/Machine/Dispatch.lean ====
section
/-!
DEFINITION. The dispatch of commands to their meanings, one arm per constructor of Instr.
-/

namespace Sys2Proof.Machine

open Sys2Proof

/-- The effect of a command on everything but the queue. -/
def exec (i : Instr) (s : State) : Host.Outcome State Fault Refusal :=
  match i with
  | .sessionOpen src version key nonce mct plans manifests signed tag => Sys2Proof.Machine.execSessionOpen src version key nonce mct plans manifests signed tag s
  | .sessionConfirm h => Sys2Proof.Machine.execSessionConfirm h s
  | .keepalive h => Sys2Proof.Machine.execKeepalive h s
  | .sessionClose h => Sys2Proof.Machine.execSessionClose h s
  | .versionQuery h => Sys2Proof.Machine.execVersionQuery h s
  | .sessionQuery h => Sys2Proof.Machine.execSessionQuery h s
  | .regRead h addr count => Sys2Proof.Machine.execRegRead h addr count s
  | .regWrite h addr value mask => Sys2Proof.Machine.execRegWrite h addr value mask s
  | .rcRegisterRead h addr => Sys2Proof.Machine.execRcRegisterRead h addr s
  | .latchingLowHalfRead h addr => Sys2Proof.Machine.execLatchingLowHalfRead h addr s
  | .cfgRead h item => Sys2Proof.Machine.execCfgRead h item s
  | .cfgWrite h value => Sys2Proof.Machine.execCfgWrite h value s
  | .deviceQuery h => Sys2Proof.Machine.execDeviceQuery h s
  | .deviceReset h force => Sys2Proof.Machine.execDeviceReset h force s
  | .fwBegin h len digest => Sys2Proof.Machine.execFwBegin h len digest s
  | .fwData h off data => Sys2Proof.Machine.execFwData h off data s
  | .fwCommit h => Sys2Proof.Machine.execFwCommit h s
  | .attestQuote h nonce scope => Sys2Proof.Machine.execAttestQuote h nonce scope s
  | .keyEnrol h record => Sys2Proof.Machine.execKeyEnrol h record s
  | .keyRevoke h key => Sys2Proof.Machine.execKeyRevoke h key s
  | .groupForm h group mask => Sys2Proof.Machine.execGroupForm h group mask s
  | .groupDissolve h group => Sys2Proof.Machine.execGroupDissolve h group s
  | .modelLoad h group loc reads => Sys2Proof.Machine.execModelLoad h group loc reads s
  | .modelAbort h group => Sys2Proof.Machine.execModelAbort h group s
  | .instanceQuery h group => Sys2Proof.Machine.execInstanceQuery h group s
  | .instanceUnload h group force => Sys2Proof.Machine.execInstanceUnload h group force s
  | .loadReport h group tensor => Sys2Proof.Machine.execLoadReport h group tensor s
  | .adapterLoad h group ident tenant loc reads => Sys2Proof.Machine.execAdapterLoad h group ident tenant loc reads s
  | .adapterUnload h group ident => Sys2Proof.Machine.execAdapterUnload h group ident s
  | .adapterQuery h group ident => Sys2Proof.Machine.execAdapterQuery h group ident s
  | .ctxCreate h f => Sys2Proof.Machine.execCtxCreate h f s
  | .ctxDelete h ctx tenant => Sys2Proof.Machine.execCtxDelete h ctx tenant s
  | .ctxSet h ctx tenant policy shift backing => Sys2Proof.Machine.execCtxSet h ctx tenant policy shift backing s
  | .ctxTruncate h ctx tenant pos => Sys2Proof.Machine.execCtxTruncate h ctx tenant pos s
  | .ctxSuspend h ctx tenant => Sys2Proof.Machine.execCtxSuspend h ctx tenant s
  | .ctxSuspendComplete ctx leftOut => Sys2Proof.Machine.execCtxSuspendComplete ctx leftOut s
  | .ctxRestore h group tenant tag backing => Sys2Proof.Machine.execCtxRestore h group tenant tag backing s
  | .ctxRestoreComplete ctx image unreadable => Sys2Proof.Machine.execCtxRestoreComplete ctx image unreadable s
  | .ctxQuery h ctx tenant => Sys2Proof.Machine.execCtxQuery h ctx tenant s
  | .reqSubmit h r => Sys2Proof.Machine.execReqSubmit h r s
  | .reqTokens h req tokens more => Sys2Proof.Machine.execReqTokens h req tokens more s
  | .reqTokensTimeout sess req => Sys2Proof.Machine.execReqTokensTimeout sess req s
  | .reqCancel h req => Sys2Proof.Machine.execReqCancel h req s
  | .reqQuery h req => Sys2Proof.Machine.execReqQuery h req s
  | .planBegin h group len digest => Sys2Proof.Machine.execPlanBegin h group len digest s
  | .planData h group off data => Sys2Proof.Machine.execPlanData h group off data s
  | .planCommit h group => Sys2Proof.Machine.execPlanCommit h group s
  | .planAbort h group => Sys2Proof.Machine.execPlanAbort h group s
  | .planQuery h group => Sys2Proof.Machine.execPlanQuery h group s
  | .variantForce h group code => Sys2Proof.Machine.execVariantForce h group code s
  | .planRetire h group => Sys2Proof.Machine.execPlanRetire h group s
  | .balanceSet h group b => Sys2Proof.Machine.execBalanceSet h group b s
  | .balanceQuery h group => Sys2Proof.Machine.execBalanceQuery h group s
  | .coreFence h core => Sys2Proof.Machine.execCoreFence h core s
  | .coreUnfence h core => Sys2Proof.Machine.execCoreUnfence h core s
  | .coreUnfenceTestDone core failed reads => Sys2Proof.Machine.execCoreUnfenceTestDone core failed reads s
  | .probeLoad h loc => Sys2Proof.Machine.execProbeLoad h loc s
  | .probePackFetchDone pack => Sys2Proof.Machine.execProbePackFetchDone pack s
  | .probeResults h pack => Sys2Proof.Machine.execProbeResults h pack s
  | .calRequest h scope => Sys2Proof.Machine.execCalRequest h scope s
  | .calCancel h scope => Sys2Proof.Machine.execCalCancel h scope s
  | .calDiscard h scope slots => Sys2Proof.Machine.execCalDiscard h scope slots s
  | .redundancySet h group on => Sys2Proof.Machine.execRedundancySet h group on s
  | .telemetrySet h period mask => Sys2Proof.Machine.execTelemetrySet h period mask s
  | .telemetryQuery h mask => Sys2Proof.Machine.execTelemetryQuery h mask s
  | .telemetryReport sess => Sys2Proof.Machine.execTelemetryReport sess s
  | .eventRead h first count => Sys2Proof.Machine.execEventRead h first count s
  | .eventNotify h severity => Sys2Proof.Machine.execEventNotify h severity s
  | .evtAck h mask => Sys2Proof.Machine.execEvtAck h mask s
  | .timeQuery h => Sys2Proof.Machine.execTimeQuery h s
  | .epochSet h epoch => Sys2Proof.Machine.execEpochSet h epoch s
  | .hostSentDeviceOnlyOpcode h opcode => Sys2Proof.Machine.execHostSentDeviceOnlyOpcode h opcode s
  | .unlistedOpcode h opcode => Sys2Proof.Machine.execUnlistedOpcode h opcode s
  | .mctMessageDropped outOfWindow => Sys2Proof.Machine.execMctMessageDropped outOfWindow s
  | .sessionOpenTimeout sess => Sys2Proof.Machine.execSessionOpenTimeout sess s
  | .sessionInactivityTimeout sess => Sys2Proof.Machine.execSessionInactivityTimeout sess s
  | .deviceMessageResend sess dseq => Sys2Proof.Machine.execDeviceMessageResend sess dseq s
  | .engCtrlWrite h core eng value mask => Sys2Proof.Machine.execEngCtrlWrite h core eng value mask s
  | .tileSelWrite h core value mask => Sys2Proof.Machine.execTileSelWrite h core value mask s
  | .calCtrlWrite h value mask => Sys2Proof.Machine.execCalCtrlWrite h value mask s
  | .calBoundsWrite h value mask => Sys2Proof.Machine.execCalBoundsWrite h value mask s
  | .portReserveWrite h value mask => Sys2Proof.Machine.execPortReserveWrite h value mask s
  | .evtCauseWrite h value mask => Sys2Proof.Machine.execEvtCauseWrite h value mask s
  | .evtMaskWrite h value mask => Sys2Proof.Machine.execEvtMaskWrite h value mask s
  | .pkgThrottleWrite h value mask => Sys2Proof.Machine.execPkgThrottleWrite h value mask s
  | .coreIdleWrite h value mask => Sys2Proof.Machine.execCoreIdleWrite h value mask s
  | .ringmasterMhzWrite h value mask => Sys2Proof.Machine.execRingmasterMhzWrite h value mask s
  | .pkgGateWrite h value mask => Sys2Proof.Machine.execPkgGateWrite h value mask s
  | .dieGateWrite h die value mask => Sys2Proof.Machine.execDieGateWrite h die value mask s
  | .gateCoreWrite h die value mask => Sys2Proof.Machine.execGateCoreWrite h die value mask s
  | .domCtrlWrite h die dom value mask => Sys2Proof.Machine.execDomCtrlWrite h die dom value mask s
  | .domSscWrite h die dom value mask => Sys2Proof.Machine.execDomSscWrite h die dom value mask s
  | .scrubCtrlWrite h value mask => Sys2Proof.Machine.execScrubCtrlWrite h value mask s
  | .threshDieWrite h value mask => Sys2Proof.Machine.execThreshDieWrite h value mask s
  | .threshStackWrite h value mask => Sys2Proof.Machine.execThreshStackWrite h value mask s
  | .trigCtrlWrite h value mask => Sys2Proof.Machine.execTrigCtrlWrite h value mask s
  | .trigTimeHiWrite h value mask => Sys2Proof.Machine.execTrigTimeHiWrite h value mask s
  | .monCalWrite h value mask => Sys2Proof.Machine.execMonCalWrite h value mask s
  | .seqWrite h die conv entry value mask => Sys2Proof.Machine.execSeqWrite h die conv entry value mask s
  | .pipeCtrlWrite h die value mask => Sys2Proof.Machine.execPipeCtrlWrite h die value mask s
  | .boundaryMarkSend group lost => Sys2Proof.Machine.execBoundaryMarkSend group lost s
  | .boundaryMarkResend group lost => Sys2Proof.Machine.execBoundaryMarkResend group lost s
  | .groupTickBoundary group => Sys2Proof.Machine.execGroupTickBoundary group s
  | .tickComplete group clock => Sys2Proof.Machine.execTickComplete group clock s
  | .maintenanceWindow group => Sys2Proof.Machine.execMaintenanceWindow group s
  | .load d errs late resends => Sys2Proof.Machine.execLoad d errs late resends s
  | .loadReread core eng arrB errs stall => Sys2Proof.Machine.execLoadReread core eng arrB errs stall s
  | .fire op env twin => Sys2Proof.Machine.execFire op env twin s
  | .firePair op env twin => Sys2Proof.Machine.execFirePair op env twin s
  | .fireDense op env twin => Sys2Proof.Machine.execFireDense op env twin s
  | .splitReplay core eng env => Sys2Proof.Machine.execSplitReplay core eng env s
  | .fireReplay core eng env twin => Sys2Proof.Machine.execFireReplay core eng env twin s
  | .stepReplay core tile envs => Sys2Proof.Machine.execStepReplay core tile envs s
  | .replayCreditTopup core waited => Sys2Proof.Machine.execReplayCreditTopup core waited s
  | .exhaustedNotice core => Sys2Proof.Machine.execExhaustedNotice core s
  | .expertRun op group poolGroup nibble tiles => Sys2Proof.Machine.execExpertRun op group poolGroup nibble tiles s
  | .casClear core tile w g hold => Sys2Proof.Machine.execCasClear core tile w g hold s
  | .cascadeGroupSum core tile group errs => Sys2Proof.Machine.execCascadeGroupSum core tile group errs s
  | .casDrain core tile factors bf16 toMemory dst errs hold => Sys2Proof.Machine.execCasDrain core tile factors bf16 toMemory dst errs hold s
  | .casExport core tile dstCore dstTile errs hold => Sys2Proof.Machine.execCasExport core tile dstCore dstTile errs hold s
  | .casMerge core tile srcCore srcTile errs hold => Sys2Proof.Machine.execCasMerge core tile srcCore srcTile errs hold s
  | .quant core src srcBlock engines rho wide set store => Sys2Proof.Machine.execQuant core src srcBlock engines rho wide set store s
  | .vecElem core fn n srcs dst => Sys2Proof.Machine.execVecElem core fn n srcs dst s
  | .vecTrans core fn n srcs dst => Sys2Proof.Machine.execVecTrans core fn n srcs dst s
  | .vecReduce core fn n srcs dst => Sys2Proof.Machine.execVecReduce core fn n srcs dst s
  | .route core group layer rows => Sys2Proof.Machine.execRoute core group layer rows s
  | .assign core group layer => Sys2Proof.Machine.execAssign core group layer s
  | .memRead group layer kv granules errs dst off resends => Sys2Proof.Machine.execMemRead group layer kv granules errs dst off resends s
  | .memWrite group layer ctx pos core src => Sys2Proof.Machine.execMemWrite group layer ctx pos core src s
  | .xfer src dst srcOff dstOff bytes errs delivered => Sys2Proof.Machine.execXfer src dst srcOff dstOff bytes errs delivered s
  | .transferAck src dst seq => Sys2Proof.Machine.execTransferAck src dst seq s
  | .transferResend src dst seq delivered => Sys2Proof.Machine.execTransferResend src dst seq delivered s
  | .attnPage core desc query current wait out bf16 => Sys2Proof.Machine.execAttnPage core desc query current wait out bf16 s
  | .sample group sess req logits => Sys2Proof.Machine.execSample group sess req logits s
  | .frame group sess => Sys2Proof.Machine.execFrame group sess s
  | .aoaClear core grp => Sys2Proof.Machine.execAoaClear core grp s
  | .aoaDrain core grp dst => Sys2Proof.Machine.execAoaDrain core grp dst s
  | .sync core => Sys2Proof.Machine.execSync core s
  | .pageWalk group ctx layer prefill lcore span late => Sys2Proof.Machine.execPageWalk group ctx layer prefill lcore span late s
  | .sluiceDescriptor stack desc errs => Sys2Proof.Machine.execSluiceDescriptor stack desc errs s
  | .pageTablePrepare group ctx => Sys2Proof.Machine.execPageTablePrepare group ctx s
  | .spillWrite stack ctx layer page => Sys2Proof.Machine.execSpillWrite stack ctx layer page s
  | .spillWriteComplete ctx layer page ok => Sys2Proof.Machine.execSpillWriteComplete ctx layer page ok s
  | .balancerChooseRows group => Sys2Proof.Machine.execBalancerChooseRows group s
  | .shardFetch group ident shard => Sys2Proof.Machine.execShardFetch group ident shard s
  | .shardAttemptTimeout group ident shard => Sys2Proof.Machine.execShardAttemptTimeout group ident shard s
  | .shardDigestCheck group ident shard data => Sys2Proof.Machine.execShardDigestCheck group ident shard data s
  | .flitReceived hop data errs tagParity arb => Sys2Proof.Machine.execFlitReceived hop data errs tagParity arb s
  | .controlMessageHop segment core data errs => Sys2Proof.Machine.execControlMessageHop segment core data errs s
  | .cnSegmentRetrain segment ok => Sys2Proof.Machine.execCnSegmentRetrain segment ok s
  | .coreStop core => Sys2Proof.Machine.execCoreStop core s
  | .stageFailover c dir => Sys2Proof.Machine.execStageFailover c dir s
  | .fabricPathFault f => Sys2Proof.Machine.execFabricPathFault f s
  | .usherComputeDone micros => Sys2Proof.Machine.execUsherComputeDone micros s
  | .calRunStart core eng arrB => Sys2Proof.Machine.execCalRunStart core eng arrB s
  | .calStep core eng arrB sweep rows => Sys2Proof.Machine.execCalStep core eng arrB sweep rows s
  | .calSpareStep core eng arrB spares => Sys2Proof.Machine.execCalSpareStep core eng arrB spares s
  | .calRowLocalisation core eng arrB rows => Sys2Proof.Machine.execCalRowLocalisation core eng arrB rows s
  | .calRunAbandon core eng arrB => Sys2Proof.Machine.execCalRunAbandon core eng arrB s
  | .calIntervalRequest core eng arrB => Sys2Proof.Machine.execCalIntervalRequest core eng arrB s
  | .probeSweepStart => Sys2Proof.Machine.execProbeSweepStart s
  | .probeSegment core segment results => Sys2Proof.Machine.execProbeSegment core segment results s
  | .scrubGranuleRead stack errs errs2 written holds => Sys2Proof.Machine.execScrubGranuleRead stack errs errs2 written holds s
  | .monitorConversion die conv code value => Sys2Proof.Machine.execMonitorConversion die conv code value s
  | .stackSensorRead stack reading => Sys2Proof.Machine.execStackSensorRead stack reading s
  | .thermalTrip die cluster => Sys2Proof.Machine.execThermalTrip die cluster s
  | .droopEvent die minMv samples capture => Sys2Proof.Machine.execDroopEvent die minMv samples capture s
  | .monitorTrigger snaps => Sys2Proof.Machine.execMonitorTrigger snaps s
  | .monitorSelfCalDone die factors => Sys2Proof.Machine.execMonitorSelfCalDone die factors s
  | .clockMonitorWindow w => Sys2Proof.Machine.execClockMonitorWindow w s
  | .ringRetune die up => Sys2Proof.Machine.execRingRetune die up s
  | .timeSyncPulse => Sys2Proof.Machine.execTimeSyncPulse s
  | .ptpAnnounce a => Sys2Proof.Machine.execPtpAnnounce a s
  | .ptpSync offset delay freqAdj => Sys2Proof.Machine.execPtpSync offset delay freqAdj s
  | .ptpAnnounceTimeout other => Sys2Proof.Machine.execPtpAnnounceTimeout other s
  | .linkTrainingAttempt locked => Sys2Proof.Machine.execLinkTrainingAttempt locked s
  | .linkDown => Sys2Proof.Machine.execLinkDown s
  | .lldpSend => Sys2Proof.Machine.execLldpSend s
  | .lldpReceived chassis ttl => Sys2Proof.Machine.execLldpReceived chassis ttl s
  | .lldpTtlExpiry => Sys2Proof.Machine.execLldpTtlExpiry s
  | .mkaRetry ok => Sys2Proof.Machine.execMkaRetry ok s
  | .addressLoss v6 => Sys2Proof.Machine.execAddressLoss v6 s
  | .announce => Sys2Proof.Machine.execAnnounce s
  | .ethFrameReceived f => Sys2Proof.Machine.execEthFrameReceived f s
  | .roceRateRecovery qp => Sys2Proof.Machine.execRoceRateRecovery qp s
  | .nvmeKeepAlive => Sys2Proof.Machine.execNvmeKeepAlive s
  | .storageTargetLost target => Sys2Proof.Machine.execStorageTargetLost target s
  | .storageReconnect connected => Sys2Proof.Machine.execStorageReconnect connected s
  | .rbsySwitchLowEnd => Sys2Proof.Machine.execRbsySwitchLowEnd s
  | .rstNLow => Sys2Proof.Machine.execRstNLow s
  | .powerGoodLow mem => Sys2Proof.Machine.execPowerGoodLow mem s
  | .resetRelease pufOk ringWindows => Sys2Proof.Machine.execResetRelease pufOk ringWindows s
  | .thermalTripHold => Sys2Proof.Machine.execThermalTripHold s
  | .controlNetworkTraining failed => Sys2Proof.Machine.execControlNetworkTraining failed s
  | .dieLinkTraining attempts => Sys2Proof.Machine.execDieLinkTraining attempts s
  | .stackTraining attempts => Sys2Proof.Machine.execStackTraining attempts s
  | .coreCensus failed => Sys2Proof.Machine.execCoreCensus failed s
  | .startupCalibration reads => Sys2Proof.Machine.execStartupCalibration reads s
  | .ptpLockWait => Sys2Proof.Machine.execPtpLockWait s
  | .inServiceAnnounce => Sys2Proof.Machine.execInServiceAnnounce s
  | .bottomTreeBuildDone => Sys2Proof.Machine.execBottomTreeBuildDone s
  | .operatingSecondsStore => Sys2Proof.Machine.execOperatingSecondsStore s
  | .eventRecordCommit => Sys2Proof.Machine.execEventRecordCommit s
  | .discoveryStepBound address => Sys2Proof.Machine.execDiscoveryStepBound address s
  | .planVerificationEnd group => Sys2Proof.Machine.execPlanVerificationEnd group s
  | .hrefclkLossUnarmedDie die => Sys2Proof.Machine.execHrefclkLossUnarmedDie die s
  | .dieLinkRetrain die south ok => Sys2Proof.Machine.execDieLinkRetrain die south ok s
  | .holdTempUpdate => Sys2Proof.Machine.execHoldTempUpdate s

end Sys2Proof.Machine
end

