-- ==== Sys2Proof/Machine/Step.lean ====
section
/-!
DEFINITION. One step of the block: the command at the front of the queue, or one clock of the time
counter when the queue is empty.
-/

namespace Sys2Proof.Machine

open Sys2Proof

/-- The command at the front of the queue runs with the queue's rest; on an empty queue the block
idles for one clock of the time counter (log 3). -/
def step (s : State) : Host.Outcome State Fault Refusal :=
  match s.pending with
  | [] => .next (idleClock s)
  | i :: rest => exec i { s with pending := rest }

/-- A command a word spells, put in front of the queue. No row of the table has bits, so no word
spells one (log 3). -/
def State.withFetchWord (s : State) (nbits w : Nat) : State :=
  match decodeTableWord nbits w with
  | some i => { s with pending := i :: s.pending }
  | none => s

end Sys2Proof.Machine
end

