-- ==== Sys2Proof/Safety.lean ====
section
/-!
DEFINITION. The terms in which the statements about the block are made: the parts of its state, what may
change and what may not, when a host command is processed, and the invariants.
-/

namespace Sys2Proof.Machine

open Sys2Proof

/-! ### Parts of the state, for frames -/

/-- The fields of State, but for the counter of free values. -/
inductive Part where
  | pending | pins | nvm | cfg | regs | wide | deferred | boot | clocks | time | port | sessions | nonces
  | held | groups | insts | activations | contexts | reqs | ended | accepted | spill | mem | poison | stackTbl
  | cores | engines | arrays | fabric | usher | basin | calOrder | loadIndex | startupDone | thermal | probe
  | sec | recorder | out | wire | ctxView | switching | resetCause
  deriving DecidableEq, Repr

/-- Two states agree on a part. -/
def Part.agree (s t : State) : Part → Prop
  | .pending => t.pending = s.pending
  | .pins => t.pins = s.pins
  | .nvm => t.nvm = s.nvm
  | .cfg => t.cfg = s.cfg
  | .regs => t.regs = s.regs
  | .wide => t.wide = s.wide
  | .deferred => t.deferred = s.deferred
  | .boot => t.boot = s.boot
  | .clocks => t.clocks = s.clocks
  | .time => t.time = s.time
  | .port => t.port = s.port
  | .sessions => t.sessions = s.sessions
  | .nonces => t.nonces = s.nonces
  | .held => t.held = s.held
  | .groups => t.groups = s.groups
  | .insts => t.insts = s.insts
  | .activations => t.activations = s.activations
  | .contexts => t.contexts = s.contexts
  | .reqs => t.reqs = s.reqs
  | .ended => t.ended = s.ended
  | .accepted => t.accepted = s.accepted
  | .spill => t.spill = s.spill
  | .mem => t.mem = s.mem
  | .poison => t.poison = s.poison
  | .stackTbl => t.stackTbl = s.stackTbl
  | .cores => t.cores = s.cores
  | .engines => t.engines = s.engines
  | .arrays => t.arrays = s.arrays
  | .fabric => t.fabric = s.fabric
  | .usher => t.usher = s.usher
  | .basin => t.basin = s.basin
  | .calOrder => t.calOrder = s.calOrder
  | .loadIndex => t.loadIndex = s.loadIndex
  | .startupDone => t.startupDone = s.startupDone
  | .thermal => t.thermal = s.thermal
  | .probe => t.probe = s.probe
  | .sec => t.sec = s.sec
  | .recorder => t.recorder = s.recorder
  | .out => t.out = s.out
  | .wire => t.wire = s.wire
  | .ctxView => t.ctxView = s.ctxView
  | .switching => t.switching = s.switching
  | .resetCause => t.resetCause = s.resetCause

/-- Of the parts, at most those listed differ between two states. -/
def OnlyChanges (ps : List Part) (s t : State) : Prop := ∀ p, p ∉ ps → p.agree s t

/-- A table differs from another at most at the keys listed. -/
def OnlyKeys {α : Type} (ks : List Nat) (a b : Tbl α) : Prop := ∀ k, k ∉ ks → b.get? k = a.get? k

/-! ### Host commands -/

/-- The port takes frames, and a host command is the next of its session, nothing of the session having arrived before its turn, and it
passes what is decided on receipt (R2, R265, R270, R273, R275, R277, R278, R281): it is processed. -/
def Admitted (s : State) (h : Hdr) (i : Instr) : Prop :=
  s.portOpen = true ∧ ∃ o x y, opInfo i = some o ∧ o.h = h ∧ s.session? h.sess = some x ∧ h.seq = x.expect ∧ x.early = []
    ∧ (s.heard h).session? h.sess = some y ∧ (s.heard h).preCheck y i o = none

/-- An admitted boundary command for which no group with boundaries is concerned: it is applied at once
(log 16). -/
def AtOnce (s : State) (h : Hdr) (i : Instr) : Prop :=
  Admitted s h i ∧ (s.heard h).mustWait i h.tag = false

/-- A host command completes: it leaves the state t, but for its reply of a status and results. -/
def Answered (s : State) (h : Hdr) (i : Instr) (t : State) (st : Status) (body : List Nat) : Prop :=
  exec i s = .next (t.reply h.sess h.seq st 0 0 body)

/-- A fire of an entry begins on the tile that its array holds (R48, R55, R61): it is open and next of its engine, its
record issues, and it joins the steps of its tiles. -/
def FireStarts (s : State) (op : FireOp) (cls : Nat) (fired : FireOp) (w : Tile) (b : BufEntry) (u : State) : Prop :=
  s.fireOpen op = true ∧ s.mayIssue op.core.val cls op.part = true ∧ (s.arr op.key).tile = some w
    ∧ u = ((s.issue op.core.val cls op.part).joinStep fired b w.fmt.outs (some w)).nonFinite fired b w.fmt.outs

/-- A vector record has written its results to a register (R32): it is counted, and its results that are not
finite. -/
def VecWritten (s : State) (c : CoreIx) (cls : Nat) (fn : VecFn) (n : Nat) (srcs : List VReg) (dst : VReg) (t : State) : Prop :=
  t.vreg c.val dst = s.vecResult c.val cls fn n (srcs.map (s.vreg c.val))
    ∧ (∀ r, r ≠ dst → t.vreg c.val r = s.vreg c.val r)
    ∧ t.wide.getD ((Blk.vec c).at Reg.VU_RECORDS_LO) 0 = (s.wide.getD ((Blk.vec c).at Reg.VU_RECORDS_LO) 0 + 1) % 2 ^ 64
    ∧ OnlyKeys [c.val] s.cores t.cores ∧ OnlyKeys [(Blk.vec c).at Reg.VU_NONFINITE] s.regs t.regs
    ∧ OnlyChanges [.cores, .wide, .regs] s t

/-- A tile of the Cascade, held for a replay, keeps an operation until the replay is done (R109, R168): its lanes and
members stand, and the core holds for so many clocks. -/
def TileKeeps (s : State) (c : CoreIx) (k : Nat) (op : TileOp) (hold : Nat) (t : State) : Prop :=
  (t.tile c.val k).held = (s.tile c.val k).held ++ [op] ∧ (t.tile c.val k).lanes = (s.tile c.val k).lanes
    ∧ (t.tile c.val k).members = (s.tile c.val k).members
    ∧ (t.reg ((Blk.carq c).at Reg.HOLD_CLOCKS)).toNat = min 0xFFFFFFFF ((s.reg ((Blk.carq c).at Reg.HOLD_CLOCKS)).toNat + hold)
    ∧ OnlyKeys [c.val] s.cores t.cores ∧ OnlyChanges [.cores, .regs] s t

/-- The blocks of registers none of which has a write rule of its own. -/
def plainBlk : Blk → Bool
  | .clocks | .dieClk _ | .thermal | .mon _ | .port | .cal | .err | .eng _ _ => false
  | _ => true

end Sys2Proof.Machine
end

