-- ==== Sys2Proof/WellFormed.lean ====
section
/-!
DEFINITION. Well-formed commands: every operand fits the field that carries it (Tables 9-9, 9-11, 9-13,
10-3, 10-4 and 10-7), and every reading or error that an event carries is one that can occur. A number that
fits its field and is out of the range of its meaning is well-formed: the block answers it.
-/

namespace Sys2Proof

open Sys2Proof.Machine

/-- A number fits a field of w bits. -/
def fits (w n : Nat) : Bool := decide (n < 2 ^ w)

/-- The header fields of Table 10-4, and the source: an address of at most 128 bits and a port. -/
def Machine.Hdr.wf (h : Hdr) : Bool := fits 32 h.sess && fits 32 h.seq && fits 32 h.ack && fits 64 h.tag
  && fits 144 h.src && fits 8 h.opcode

/-- Each symbol an error changes is named once, and is changed. -/
def symsWf (e : SymErrs) : Bool :=
  e.all (fun p => decide (p.2 ≠ 0) && fits 8 p.2) && decide ((e.map (·.1)).Nodup)

/-- Bytes of a memory: 1.5 MiB local, 32 MiB of Basin (R138, Table 1-1). -/
def memSize : MemUnit → Nat
  | .core _ => 0x180000
  | .basin _ _ => 0x2000000

def gransWf (l : List GranErr) : Bool :=
  l.all (fun g => symsWf g.first && symsWf g.second) && decide ((l.map (·.idx)).Nodup)

/-- Columns, faults and the store of a fire: 530 logical columns (R37), each with one deviation. -/
def Machine.FireEnv.wf (e : FireEnv) : Bool :=
  e.dev.all (fun p => decide (p.1 < 530)) && decide ((e.dev.map (·.1)).Nodup)
  && e.faults.all (fun p => decide (p.1 < 530)) && symsWf e.store

/-- The halves of a nibble pair: each one fire, its four row groups, or both in turn. -/
def Machine.PairEnv.wf (e : PairEnv) : Bool :=
  e.hi.all FireEnv.wf && e.lo.all FireEnv.wf && decide (e.hi.length ≤ 5) && decide (e.lo.length ≤ 5)

/-- Errors of the granules of a Cascade tile, of which there are 24 (R88). -/
def tileErrsWf (l : List (Nat × SymErrs)) : Bool :=
  l.all (fun p => decide (p.1 < 24) && symsWf p.2) && decide ((l.map (·.1)).Nodup)

/-- Sweep readings by column, below a bound: 56 of each (R120). -/
def sweepWf (n : Nat) (l : SweepReads) : Bool :=
  l.all (fun p => decide (p.1 < n) && decide (p.2.length = 56)) && decide ((l.map (·.1)).Nodup)

/-- Row-test readings: of the 530 columns. -/
def rowsWf (l : RowReads) : Bool := l.all (fun v => v.all (fun p => decide (p.1 < 530)))

/-- A tile to load: granules of 30,000,000,000 are addressed by a number of 35 bits (R5). -/
def Machine.LoadDesc.wf (d : LoadDesc) : Bool :=
  fits 35 d.addr && fits 35 d.partner && fits 16 d.layer && d.feeds.all (fun k => decide (k < 256))

def locWf (l : StorageLoc) : Bool := fits 8 l.target && fits 32 l.ns && fits 64 l.lba && fits 32 l.len

def backingWf (b : Backing) : Bool := fits 8 b.target && fits 32 b.ns && fits 64 b.base && fits 32 b.len

/-- The fields of Table 9-9. -/
def Machine.ReqFields.wf (f : ReqFields) : Bool :=
  fits 32 f.id && fits 16 f.ctx && fits 32 f.tenant && fits 11 f.reserved && fits 32 f.adapter && fits 64 f.deadline
  && fits 32 f.maxNew && fits 16 f.topK && fits 64 f.seed && fits 32 f.tokenCount
  && f.tokens.all (fits 32) && f.stops.all (fits 32) && decide (f.stops.length ≤ 8)

/-- The parameters of CTX_CREATE (Table 9-13). -/
def Machine.CtxFields.wf (f : CtxFields) : Bool :=
  fits 8 f.group && fits 32 f.tenant && fits 64 f.tag && fits 16 f.budget && fits 8 f.policy && fits 8 f.shift
  && backingWf f.backing

/-- The fields of BALANCE_SET (Table 9-11). -/
def balanceWf (b : Balance) : Bool :=
  fits 32 b.cap && fits 32 b.chunkMin && fits 32 b.chunkMax && fits 8 b.order && fits 16 b.passLimit

def ipWf (w : Nat) : IpCfg → Bool
  | .off => true
  | .dynamic => true
  | .fixed a p g => fits w a && fits 8 p && fits w g

/-- The items of Table 10-3. -/
def Machine.CfgVal.wf : CfgVal → Bool
  | .phyMode m p => fits 8 m && fits 16 p
  | .vlan none => true
  | .vlan (some v) => fits 12 v
  | .priorities ks => ks.all (fun k => fits 8 k.1 && fits 8 k.2)
  | .macsec p _ nonce cipher tag =>
    fits 8 p && decide (nonce.length = 12) && decide (cipher.length = 32) && decide (tag.length = 16)
  | .ipv4 c => ipWf 32 c
  | .ipv6 c => ipWf 128 c
  | .mctPort p => fits 16 p
  | .announce a b p => fits 32 a && fits 128 b && fits 16 p
  | .ptp t _ _ d => fits 8 t && fits 8 d
  | .storage es _ => decide (es.length ≤ 16) && es.all (fun e => match e with
      | some x => fits 128 x.addr && fits 16 x.port
      | none => true)
  | .sessionLimit n => fits 8 n

def scopeWf : CalScope → Bool
  | .package => true
  | .die d => fits 8 d
  | .core c => fits 16 c
  | .array c e _ => fits 16 c && fits 8 e

/-- A fire as a plan directs it: an entry of the input buffer, a tile of the core, a member of its group. -/
def Machine.FireOp.wf (o : FireOp) : Bool := decide (o.entry < 64) && decide (o.tile < 64)

/-- Columns 0 to 545 of the readings of a start-up run, the spares among them, and sums of its row localisation. -/
def startupWf (r : StartupReads) : Bool :=
  sweepWf 546 r.sweep && sweepWf 546 r.sweep2 && rowsWf r.rows && rowsWf r.rows2 && r.loc.all (fun p => decide (p.1 < 36))

/-- A frame's kind: an MCT message has a header of 32 bytes and a tag of 16 (R268); queue pairs have 24 bits. -/
def FrameKind.wf : FrameKind → Bool
  | .mct src signed tag => fits 144 src && decide (32 ≤ signed.length) && decide (tag.length = 16)
  | .roce qp _ => fits 24 qp
  | .roceNak qp => fits 24 qp
  | .cnp qp => fits 24 qp
  | .roceConnect => true
  | .pfc _ => true
  | .lldp => true
  | .mka => true
  | .ptp => true
  | .arp => true
  | .solicit => true
  | .echo _ => true
  | .closedPort _ => true
  | .other => true
  | .unsupported => true

def Frame.wf (f : Frame) : Bool :=
  f.kind.wf && (f.vlan.map (fits 12)).getD true && fits 32 f.corrected && fits 32 f.lost && fits 16 f.bytes

/-- Every pair fits a field of a bits and one of b bits. -/
def pairsIn (a b : Nat) (l : List (Nat × Nat)) : Bool := l.all (fun p => fits a p.1 && fits b p.2)

/-- Every operand fits its field. -/
def Instr.fieldsFit : Instr → Bool
  | .sessionOpen src v k nonce m p q _ tag =>
    fits 144 src && fits 8 v && fits 32 k && decide (nonce.length = 16) && fits 8 m && fits 8 p && fits 8 q && decide (tag.length = 16)
  | .sessionConfirm h => h.wf
  | .keepalive h => h.wf
  | .sessionClose h => h.wf
  | .versionQuery h => h.wf
  | .sessionQuery h => h.wf
  | .regRead h a n => h.wf && fits 32 a && fits 16 n
  | .regWrite h a _ _ => h.wf && fits 32 a
  | .rcRegisterRead h a => h.wf && fits 32 a
  | .latchingLowHalfRead h a => h.wf && fits 32 a
  | .cfgRead h _ => h.wf
  | .cfgWrite h v => h.wf && v.wf
  | .deviceQuery h => h.wf
  | .deviceReset h _ => h.wf
  | .fwBegin h n d => h.wf && fits 32 n && decide (d.length = 32)
  | .fwData h o _ => h.wf && fits 32 o
  | .fwCommit h => h.wf
  | .attestQuote h n sc => h.wf && decide (n.length = 32) && fits 16 sc
  | .keyEnrol h _ => h.wf
  | .keyRevoke h k => h.wf && fits 32 k
  | .groupForm h g m => h.wf && fits 8 g && fits 16 m
  | .groupDissolve h g => h.wf && fits 8 g
  | .modelLoad h g l _ => h.wf && fits 8 g && locWf l
  | .modelAbort h g => h.wf && fits 8 g
  | .instanceQuery h g => h.wf && fits 8 g
  | .instanceUnload h g _ => h.wf && fits 8 g
  | .loadReport h g t => h.wf && fits 8 g && fits 32 t
  | .adapterLoad h g i t l _ => h.wf && fits 8 g && fits 32 i && fits 32 t && locWf l
  | .adapterUnload h g i => h.wf && fits 8 g && fits 32 i
  | .adapterQuery h g i => h.wf && fits 8 g && fits 32 i
  | .ctxCreate h f => h.wf && f.wf
  | .ctxDelete h c t => h.wf && fits 16 c && fits 32 t
  | .ctxSet h c t p sh b => h.wf && fits 16 c && fits 32 t && fits 8 p && fits 8 sh && backingWf b
  | .ctxTruncate h c t p => h.wf && fits 16 c && fits 32 t && fits 32 p
  | .ctxSuspend h c t => h.wf && fits 16 c && fits 32 t
  | .ctxSuspendComplete c _ => fits 12 c
  | .ctxRestore h g t tag b => h.wf && fits 8 g && fits 32 t && fits 64 tag && backingWf b
  | .ctxRestoreComplete c _ _ => fits 12 c
  | .ctxQuery h c t => h.wf && fits 16 c && fits 32 t
  | .reqSubmit h f => h.wf && f.wf
  | .reqTokens h r ts _ => h.wf && fits 32 r && ts.all (fits 32)
  | .reqTokensTimeout x r => fits 32 x && fits 32 r
  | .reqCancel h r => h.wf && fits 32 r
  | .reqQuery h r => h.wf && fits 32 r
  | .planBegin h g n d => h.wf && fits 8 g && fits 32 n && decide (d.length = 32)
  | .planData h g o _ => h.wf && fits 8 g && fits 32 o
  | .planCommit h g => h.wf && fits 8 g
  | .planAbort h g => h.wf && fits 8 g
  | .planQuery h g => h.wf && fits 8 g
  | .variantForce h g c => h.wf && fits 8 g && fits 8 c
  | .planRetire h g => h.wf && fits 8 g
  | .balanceSet h g b => h.wf && fits 8 g && balanceWf b
  | .balanceQuery h g => h.wf && fits 8 g
  | .coreFence h c => h.wf && fits 16 c
  | .coreUnfence h c => h.wf && fits 16 c
  | .coreUnfenceTestDone _ f rs => (f.map (fits 32)).getD true && rs.all startupWf
  | .probeLoad h l => h.wf && locWf l
  | .probePackFetchDone _ => true
  | .probeResults h p => h.wf && fits 64 p
  | .calRequest h sc => h.wf && scopeWf sc
  | .calCancel h sc => h.wf && scopeWf sc
  | .calDiscard h sc m => h.wf && scopeWf sc && fits 8 m
  | .redundancySet h g _ => h.wf && fits 8 g
  | .telemetrySet h p m => h.wf && fits 32 p && fits 8 m
  | .telemetryQuery h m => h.wf && fits 8 m
  | .telemetryReport x => fits 32 x
  | .eventRead h f n => h.wf && fits 64 f && fits 16 n
  | .eventNotify h sv => h.wf && (sv.map (fits 8)).getD true
  | .evtAck h _ => h.wf
  | .timeQuery h => h.wf
  | .epochSet h e => h.wf && fits 64 e
  | .hostSentDeviceOnlyOpcode h o => h.wf && fits 8 o
  | .unlistedOpcode h o => h.wf && fits 8 o
  | .mctMessageDropped _ => true
  | .sessionOpenTimeout x => fits 32 x
  | .sessionInactivityTimeout x => fits 32 x
  | .deviceMessageResend x q => fits 32 x && fits 32 q
  | .engCtrlWrite h _ _ _ _ => h.wf
  | .tileSelWrite h _ _ _ => h.wf
  | .calCtrlWrite h _ _ => h.wf
  | .calBoundsWrite h _ _ => h.wf
  | .portReserveWrite h _ _ => h.wf
  | .evtCauseWrite h _ _ => h.wf
  | .evtMaskWrite h _ _ => h.wf
  | .pkgThrottleWrite h _ _ => h.wf
  | .coreIdleWrite h _ _ => h.wf
  | .ringmasterMhzWrite h _ _ => h.wf
  | .pkgGateWrite h _ _ => h.wf
  | .dieGateWrite h _ _ _ => h.wf
  | .gateCoreWrite h _ _ _ => h.wf
  | .domCtrlWrite h _ _ _ _ => h.wf
  | .domSscWrite h _ _ _ _ => h.wf
  | .scrubCtrlWrite h _ _ => h.wf
  | .threshDieWrite h _ _ => h.wf
  | .threshStackWrite h _ _ => h.wf
  | .trigCtrlWrite h _ _ => h.wf
  | .trigTimeHiWrite h _ _ => h.wf
  | .monCalWrite h _ _ => h.wf
  | .seqWrite h _ _ _ _ _ => h.wf
  | .pipeCtrlWrite h _ _ _ => h.wf
  | .boundaryMarkSend _ l => decide l.Nodup
  | .boundaryMarkResend _ l => decide l.Nodup
  | .groupTickBoundary _ => true
  | .tickComplete _ _ => true
  | .maintenanceWindow _ => true
  | .load d es _ _ => d.wf && gransWf es
  | .loadReread _ _ _ e _ => symsWf e
  | .fire o e t => o.wf && e.wf && t.wf
  | .firePair o a b => o.wf && a.wf && b.wf
  | .fireDense o l t => o.wf && l.all FireEnv.wf && decide (l.length ≤ 8) && t.wf
  | .splitReplay _ _ l => l.all FireEnv.wf
  | .fireReplay _ _ a b => a.wf && b.wf
  | .stepReplay _ _ l => l.all PairEnv.wf
  | .replayCreditTopup _ _ => true
  | .exhaustedNotice _ => true
  | .expertRun o _ _ _ l => o.wf && l.all (fun t => t.desc.wf && gransWf t.errs && t.slots.all (fun x =>
      x.env.wf && x.twin.wf && decide (x.entry < 64) && decide (x.tile < 64)))
  | .casClear _ _ w g _ => decide (-2048 ≤ w) && decide (w ≤ 2047) && [4, 8, 16].contains g
  | .cascadeGroupSum _ _ g es => fits 16 g && tileErrsWf es
  | .casDrain _ _ _ _ _ _ es _ => tileErrsWf es
  | .casExport _ _ _ _ es _ => tileErrsWf es
  | .casMerge _ _ _ _ es _ => tileErrsWf es
  | .quant _ _ _ es _ _ _ _ => decide ((es.map (·.1)).Nodup) && es.all (fun p => decide (p.2 < 64))
  | .vecElem _ _ _ _ _ => true
  | .vecTrans _ _ _ _ _ => true
  | .vecReduce _ _ _ _ _ => true
  | .route _ _ l rs => fits 16 l && decide ((rs.map (·.row)).Nodup)
  | .assign _ _ l => fits 16 l
  | .memRead _ l _ gs es u off _ => fits 16 l && gs.all (fits 35) && gransWf es && decide (off + 32 * gs.length ≤ memSize u)
  | .memWrite _ l c p _ _ => fits 16 l && fits 12 c && fits 32 p
  | .xfer a b o q n es _ => gransWf es && decide (o + n ≤ memSize a ∧ q + n ≤ memSize b)
  | .transferAck _ _ _ => true
  | .transferResend _ _ _ _ => true
  | .attnPage _ d _ _ _ _ _ => fits 256 d
  | .sample _ x r _ => fits 32 x && fits 32 r
  | .frame _ x => fits 32 x
  | .aoaClear _ _ => true
  | .aoaDrain _ _ _ => true
  | .sync _ => true
  | .pageWalk _ c l _ _ _ _ => fits 12 c && fits 16 l
  | .sluiceDescriptor _ d es => fits 256 d && gransWf es
  | .pageTablePrepare _ c => fits 12 c
  | .spillWrite _ c l _ => fits 12 c && fits 16 l
  | .spillWriteComplete c l _ _ => fits 12 c && fits 16 l
  | .balancerChooseRows _ => true
  | .shardFetch _ _ i => fits 16 i
  | .shardAttemptTimeout _ _ i => fits 16 i
  | .shardDigestCheck _ _ i _ => fits 16 i
  | .flitReceived _ d e _ _ => fits 512 d && symsWf e
  | .controlMessageHop sg _ d es => fits 8 sg && fits 512 d && es.all symsWf
  | .cnSegmentRetrain sg _ => fits 8 sg
  | .coreStop _ => true
  | .stageFailover _ d => decide (1 ≤ d) && decide (d ≤ 4)
  | .fabricPathFault (.meshLink _ c d) => decide (c < 8) && decide (1 ≤ d) && decide (d ≤ 4)
  | .fabricPathFault (.meshRouter _) => true
  | .fabricPathFault (.dieLink _ _) => true
  | .fabricPathFault (.stackEdge _) => true
  | .fabricPathFault .portEdge => true
  | .usherComputeDone _ => true
  | .calRunStart _ _ _ => true
  | .calStep _ _ _ sw rs => sweepWf 530 sw && rowsWf rs
  | .calSpareStep _ _ _ sw => sweepWf 16 sw
  | .calRowLocalisation _ _ _ rs => rs.all (fun p => decide (p.1 < 36))
  | .calRunAbandon _ _ _ => true
  | .calIntervalRequest _ _ _ => true
  | .probeSweepStart => true
  | .probeSegment _ sg _ => fits 16 sg
  | .scrubGranuleRead _ a b _ _ => symsWf a && symsWf b
  | .monitorConversion _ _ code v => fits 12 code && fits 16 v
  | .stackSensorRead _ _ => true
  | .thermalTrip _ _ => true
  | .droopEvent _ mv n cap => fits 12 mv && fits 32 n && pairsIn 12 12 cap && decide (cap.length ≤ 1024)
  | .monitorTrigger l => pairsIn 12 12 l && decide (l.length = 4)
  | .monitorSelfCalDone _ l => pairsIn 16 12 l && decide (l.length = 6)
  | .clockMonitorWindow w => fits 16 w.count && fits 16 w.ring && (w.unlocked.map (fun d => decide (d < 40))).getD true
  | .ringRetune _ _ => true
  | .timeSyncPulse => true
  | .ptpAnnounce a => fits 64 a.identity && fits 8 a.domain
  | .ptpSync _ _ _ => true
  | .ptpAnnounceTimeout o => (o.map (fun a => fits 64 a.identity)).getD true
  | .linkTrainingAttempt _ => true
  | .linkDown => true
  | .lldpSend => true
  | .lldpReceived _ t => fits 16 t
  | .lldpTtlExpiry => true
  | .mkaRetry _ => true
  | .addressLoss _ => true
  | .announce => true
  | .ethFrameReceived f => f.wf
  | .roceRateRecovery q => fits 24 q
  | .nvmeKeepAlive => true
  | .storageTargetLost t => decide (t < 16)
  | .storageReconnect l => l.all (fun p => decide (p.1 < 16))
  | .rbsySwitchLowEnd => true
  | .rstNLow => true
  | .powerGoodLow _ => true
  | .resetRelease _ l => decide (l.length = 4)
  | .thermalTripHold => true
  | .controlNetworkTraining l => l.all (fits 8)
  | .dieLinkTraining l => decide ((l.map (fun p => (p.1, p.2.1))).Nodup)
  | .stackTraining l => decide ((l.map (·.1)).Nodup)
  | .coreCensus l => decide ((l.map (·.1)).Nodup)
  | .startupCalibration l => l.all startupWf
  | .ptpLockWait => true
  | .inServiceAnnounce => true
  | .bottomTreeBuildDone => true
  | .operatingSecondsStore => true
  | .eventRecordCommit => true
  | .discoveryStepBound (some (false, a)) => fits 32 a
  | .discoveryStepBound (some (true, a)) => fits 128 a
  | .discoveryStepBound none => true
  | .planVerificationEnd _ => true
  | .hrefclkLossUnarmedDie _ => true
  | .dieLinkRetrain _ _ _ => true
  | .holdTempUpdate => true

/-- A host command's header carries the command's own opcode (Table 10-4). -/
def Instr.opcodeFits (i : Instr) : Bool :=
  match Machine.opInfo i with
  | some o => o.h.opcode == o.opcode
  | none => true

/-- Every operand fits its field, and the header is the command's. -/
def Instr.wf (i : Instr) : Bool := i.fieldsFit && i.opcodeFits

end Sys2Proof
end

