-- ==== Sys2Proof/Certificates/Slice0/Obligations.lean ====
section
/-!
DEFINITION. The statements about the block, for the provers. Each names the rules it formalises. A clause in which an
event, commanded where its rule does not apply, answers the state as it stands is the model's choice (log 5), and no
rule's.
-/

open Sys2Proof Sys2Proof.Machine

/-! ### The queue and the step -/

/-- A step takes the command at the front of the queue and is its effect on the state with the queue's rest;
withFetchWord changes nothing, since no row of the table has bits. -/
def Obligations.StepRunsFront : Prop :=
  (∀ (s : State) i rest, step { s with pending := i :: rest } = exec i { s with pending := rest })
  ∧ (∀ (s : State) nbits w, decodeTableWord nbits w = none ∧ State.withFetchWord s nbits w = s)

/-- With nothing commanded, one clock of domain 38 passes out of reset, and nothing at all passes in reset or once a thermal
trip has gated the clocks (R304, R363; that the empty queue's step is one clock is log 3). -/
def Obligations.IdleClock : Prop :=
  (∀ (s : State), s.pending = [] → s.counting = false → step s = .next s)
  ∧ (∀ (s : State), s.thermal.tripped = true → s.counting = false)
  ∧ (∀ (s : State), s.pending = [] → s.counting = true → ∃ t, step s = .next t
      ∧ t.time.ns * 2 ^ 48 + t.time.frac
        = s.time.ns * 2 ^ 48 + s.time.frac + (2 ^ 49 + 512 * s.time.rateAdj).toNat
      ∧ t.time.frac < 2 ^ 48 ∧ t = { s with time := { s.time with ns := t.time.ns, frac := t.time.frac } })

/-! ### Sessions (R271 to R275) -/

/-- SESSION_OPEN (R271, R272): at an open port, a key the store holds, the right tag and a nonce not seen open a half-
open session under an identifier that is not 0 and not in use, at the highest version both sides offer; its messages
go to the command's source (R268). Points that the spec leaves open are settled by log 6 and log 51. -/
def Obligations.SessionOpens : Prop :=
  ∀ (s : State) (src ver key : Nat) (nonce : List Byte) (mct plans manifests : Nat) (signed tag : List Byte)
    (k : OpKey) (v : Nat),
    s.portOpen = true → s.port.announced = true → s.keyOf key = some k →
    (Crypto.hmac (openKey k.secret nonce) signed).take 16 = tag →
    (s.nonces.getD key []).contains nonce = false →
    (s.boot.inRom = false ∨ k.roles.testBit 2 = true) →
    topBit 8 (mct &&& formatsMct) = some v →
    (s.sessions.filter (·.isOpen)).length < s.cfg.sessionLimit →
    ∃ t x, exec (.sessionOpen src ver key nonce mct plans manifests signed tag) s = .next t
      ∧ t.sessions = s.sessions ++ [x]
      ∧ x.id ≠ 0 ∧ (∀ y ∈ s.sessions, y.id ≠ x.id)
      ∧ x.key = key ∧ x.version = v ∧ x.isOpen = false ∧ x.expect = 1 ∧ x.dseq = 1 ∧ x.early = []
      ∧ x.peer = src ∧ x.calls = [] ∧ x.plans = (plans &&& formatsPlan &&& (if v = 3 then 0xFF else 0xF7)) ∧ x.manifests = manifests &&& formatsManifest
      ∧ (∃ dev, x.h2d ++ x.d2h = sessionKeys k.secret nonce dev x.id v
          ∧ t.out = s.out ++ [.openReply key .ok x.id dev [s.nvm.serial, v, x.plans, x.manifests]]
          ∧ t.wire = s.wire ++ [t.portFrame (.openReply key .ok x.id dev [s.nvm.serial, v, x.plans, x.manifests]) (some src) 0])
      ∧ (t.nonces.getD key []) = (nonce :: s.nonces.getD key []).take 1024
      ∧ OnlyChanges [.sessions, .nonces, .out, .wire, .wide] s t

/-- SESSION_CONFIRM, KEEPALIVE, VERSION_QUERY, SESSION_QUERY and SESSION_CLOSE (R271, R274, R278). Points that the
spec leaves open are settled by log 48, log 50 and log 51. -/
def Obligations.SessionCommands : Prop :=
  (∀ (s : State) h x, Admitted s h (.sessionConfirm h) → (s.heard h).session? h.sess = some x → x.isOpen = false →
    Answered s h (.sessionConfirm h) ((s.heard h).updSession h.sess (fun y => { y with isOpen := true })) .ok [])
  ∧ (∀ (s : State) h, Admitted s h (.keepalive h) →
    Answered s h (.keepalive h) (s.heard h) .ok ((s.heard h).time.ns
      :: ((s.heard h).groups.filter (fun p => p.2.formed)).flatMap (fun p => [p.1, p.2.tick])))
  ∧ (∀ (s : State) h, Admitted s h (.versionQuery h) →
    Answered s h (.versionQuery h) (s.heard h) .ok [((s.heard h).readReg 0x010).toNat,
      ((s.heard h).readReg 0x014).toNat, ((s.heard h).readReg 0x018).toNat])
  ∧ (∀ (s : State) h x, Admitted s h (.sessionQuery h) → (s.heard h).session? h.sess = some x →
    Answered s h (.sessionQuery h) (s.heard h) .ok [x.expect, x.unacked.length, x.queue.length,
      (x.unacked.head?.map (·.interval)).getD 1000, ((s.heard h).sessions.filter (·.isOpen)).length])
  ∧ (∀ (s : State) h, Admitted s h (.sessionClose h) →
    exec (.sessionClose h) s = .next (((s.heard h).reply h.sess h.seq .ok 0 0 []).depart h.sess))

/-- The window of a session (R273): a command ahead of its turn by at most 255 waits, one of the last 256 has
its stored reply sent again and no effect, anything else is dropped and counted; a session that is not known
drops it too (R270). With the link down, or the port held by its MACsec policy, nothing is received (R2, R265). -/
def Obligations.SequenceWindow : Prop :=
  ∀ (s : State) (h : Hdr) (i : Instr),
    (s.portOpen = false → hostReceive h i s = s)
    ∧ (s.portOpen = true → s.session? h.sess = none → hostReceive h i s = s.bumpLo 0x40014 1)
    ∧ (∀ x, s.portOpen = true → s.session? h.sess = some x →
      (x.expect < h.seq → h.seq ≤ x.expect + 255 → x.early.any (fun j => seqOf j == h.seq) = false →
        hostReceive h i s = (s.received h).updSession h.sess (fun y => { y with early := y.early ++ [i] }))
      ∧ (h.seq < x.expect → x.expect ≤ h.seq + 256 → ∀ a b st d tg body rs,
        x.replies.find? (fun p => p.1 == h.seq) = some (h.seq, .reply a b st d tg body rs) →
        hostReceive h i s = (s.received h).sendTo (.reply a b st d tg body true) (some h.src) h.opcode)
      ∧ ((x.expect + 255 < h.seq ∨ h.seq + 256 < x.expect) →
        hostReceive h i s = (s.received h).bumpHi 0x40014 1))

/-- Every host command is received in its session, and one that is the next of its session and fails a check
made on receipt is answered with that check's status and has no other effect (R270, R275, R277, R278). Receiving and answering change only the
session, what is sent, and TX_FRAMES (0x40030). -/
def Obligations.HostCommandsReceived : Prop :=
  (∀ (i : Instr) (o : OpInfo) (s : State), opInfo i = some o →
    (∀ h op, i = .hostSentDeviceOnlyOpcode h op → deviceOnly op = true) →
    (∀ h op, i = .unlistedOpcode h op → opcodeListed op = false ∧ deviceOnly op = false) →
    exec i s = .next (hostReceive o.h i s))
  ∧ (∀ (i : Instr) (o : OpInfo) (s : State) (x y : Session) (st : Status), opInfo i = some o → s.portOpen = true →
    s.session? o.h.sess = some x → o.h.seq = x.expect → x.early = [] →
    (s.heard o.h).session? o.h.sess = some y → (s.heard o.h).preCheck y i o = some st →
    hostReceive o.h i s = (s.heard o.h).reply o.h.sess o.h.seq st 0 0 [])
  ∧ (∀ (s : State) sess seq st d tag body, OnlyChanges [.sessions, .out, .wire, .wide] s (s.reply sess seq st d tag body)
    ∧ OnlyKeys [0x40030] s.wide (s.reply sess seq st d tag body).wide
    ∧ (∀ x, s.session? sess = some x → (s.reply sess seq st d tag body).out
        = s.out ++ [.reply sess seq st d tag body false])
    ∧ (∀ x src op, s.session? sess = some x → x.calls.get? seq = some (src, op) → s.portOpen = true →
      ∃ f, (s.reply sess seq st d tag body).wire = s.wire ++ [f] ∧ f.dest = some src))
  ∧ (∀ (s : State) h, OnlyChanges [.sessions, .out, .wire, .wide] s (s.heard h)
    ∧ OnlyKeys [0x40030] s.wide (s.heard h).wide ∧ (∃ l, (s.heard h).out = s.out ++ l)
    ∧ (∀ y, y ≠ h.sess → (s.heard h).session? y = s.session? y)
    ∧ (∀ x, s.session? h.sess = some x → ∃ y, (s.heard h).session? h.sess = some y ∧ y.expect = x.expect + 1
        ∧ y.lastRx = s.time.ns ∧ y.peer = h.src ∧ y.key = x.key ∧ y.version = x.version ∧ y.isOpen = x.isOpen ∧ y.early = x.early
        ∧ y.replies = x.replies))

/-- The checks made on receipt, in order (R273, R278, R272, R318, R270, R277): a number beyond 0xFFFF_FF00 is
stale, a device-only opcode conflicts, an opcode outside the list or the session's version is of another
version, and a command whose role the session's key lacks is not authorised. HOST_SENT_DEVICE_ONLY_OPCODE and
UNLISTED_OPCODE are so answered. -/
def Obligations.ReceiptChecks : Prop :=
  (∀ (s : State) x i o, 0xFFFFFF00 < o.h.seq → s.preCheck x i o = some .stale)
  ∧ (∀ (s : State) x h op, h.seq ≤ 0xFFFFFF00 → deviceOnly op = true →
    s.preCheck x (.hostSentDeviceOnlyOpcode h op) ⟨h, op, 1, none, false⟩ = some .conflict)
  ∧ (∀ (s : State) x h op, h.seq ≤ 0xFFFFFF00 → deviceOnly op = false → opcodeListed op = false →
    s.preCheck x (.unlistedOpcode h op) ⟨h, op, 1, none, false⟩ = some .version)
  ∧ (∀ (s : State) x i o, o.h.seq ≤ 0xFFFFFF00 → deviceOnly o.opcode = false → opcodeListed o.opcode = true →
    x.version < o.version → s.preCheck x i o = some .version)
  ∧ (∀ (s : State) x i o r k, o.h.seq ≤ 0xFFFFFF00 → deviceOnly o.opcode = false → opcodeListed o.opcode = true →
    o.version ≤ x.version → flagsLack x.version i = false → x.isOpen = true → s.boot.isDone = true →
    o.role = some r → s.keyOf x.key = some k → k.roles.testBit r = false → s.preCheck x i o = some .notAuthorised)
  ∧ (∀ (s : State) (h : Hdr) op x y, deviceOnly op = true → h.seq ≤ 0xFFFFFF00 → s.session? h.sess = some x →
    h.seq = x.expect → x.early = [] → (s.heard h).session? h.sess = some y →
    Answered s h (.hostSentDeviceOnlyOpcode h op) (s.heard h) .conflict [])
  ∧ (∀ (s : State) (h : Hdr) op x y, deviceOnly op = false → opcodeListed op = false → h.seq ≤ 0xFFFFFF00 →
    s.session? h.sess = some x → h.seq = x.expect → x.early = [] → (s.heard h).session? h.sess = some y →
    Answered s h (.unlistedOpcode h op) (s.heard h) .version [])

/-! ### Registers (R10, R29) -/

/-- REG_READ, RC_REGISTER_READ and LATCHING_LOW_HALF_READ (R10, R29, R310): the words asked for in order, each with
the effect of reading it; a run that is not of 1 to 1,024 aligned words conflicts, and one that touches a disabled
core returns zeros and changes nothing. Reading an RC register clears it to its reset value; reading TIME_NS_LO
latches the high half and the fraction. Points that the spec leaves open are settled by log 17, log 18 and log 19. -/
def Obligations.RegisterReads : Prop :=
  (∀ (s : State) h a n, Admitted s h (.regRead h a n) → a % 4 = 0 → 0 < n → n ≤ 1024 → a + 4 * (n - 1) ≤ 0xFFFFFFFC →
    (∀ i, i < n → ∀ b o, locate (a + 4 * i) = some (b, o) → (s.heard h).blkDisabled b = false) →
    Answered s h (.regRead h a n) (State.readWords n a (s.heard h)).2 .ok (State.readWords n a (s.heard h)).1)
  ∧ (∀ (s : State) h a n i b o, Admitted s h (.regRead h a n) → a % 4 = 0 → 0 < n → n ≤ 1024 →
    a + 4 * (n - 1) ≤ 0xFFFFFFFC → i < n → locate (a + 4 * i) = some (b, o) → (s.heard h).blkDisabled b = true →
    Answered s h (.regRead h a n) (s.heard h) .noResource (List.replicate n 0))
  ∧ (∀ (s : State) h a n, Admitted s h (.regRead h a n) → (a % 4 ≠ 0 ∨ n = 0 ∨ 1024 < n) →
    Answered s h (.regRead h a n) (s.heard h) .conflict [])
  ∧ (∀ (s : State) h a b o r, Admitted s h (.rcRegisterRead h a) → a % 4 = 0 → a ≤ 0xFFFFFFFC → locate a = some (b, o) →
    b.find o = some r → r.acc = .rc → (s.heard h).blkDisabled b = false → (s.heard h).live64 b o = none →
    (s.heard h).view b o = none →
    Answered s h (.rcRegisterRead h a) { s.heard h with regs := (s.heard h).regs.del a } .ok [((s.heard h).reg a).toNat]
      ∧ ({ s.heard h with regs := (s.heard h).regs.del a } : State).reg a = r.reset)
  ∧ (∀ (s : State) h, Admitted s h (.latchingLowHalfRead h 0x30004) →
    Answered s h (.latchingLowHalfRead h 0x30004)
      (((s.heard h).setReg 0x30008 (word ((s.heard h).time.ns / 2 ^ 32))).setReg 0x3000C
        (word ((s.heard h).time.frac / 2 ^ 32))) .ok [(s.heard h).time.ns % 2 ^ 32])
  ∧ (∀ (s : State) h a b o r v, Admitted s h (.latchingLowHalfRead h a) → a % 4 = 0 → a ≤ 0xFFFFFFFC →
    locate a = some (b, o) → b ≠ .time → b.find o = some r → r.acc = .ro → (s.heard h).blkDisabled b = false →
    (s.heard h).live64 b o = some v →
    Answered s h (.latchingLowHalfRead h a) ((s.heard h).setReg (a + 4) (word (v / 2 ^ 32))) .ok [v % 2 ^ 32])

/-- REG_WRITE (R10, R29): a register without a rule of its own takes the masked value in its writable fields; a read-
only or read-to-clear register and an unassigned offset ignore the write with ST_OK; the block of a disabled core
refuses it, and an address that is not aligned conflicts. Points that the spec leaves open are settled by log 19. -/
def Obligations.RegisterWrites : Prop :=
  (∀ (s : State) h a b o r v m, Admitted s h (.regWrite h a v m) → a % 4 = 0 → a ≤ 0xFFFFFFFC → locate a = some (b, o) →
    (s.heard h).blkDisabled b = false → b.find o = some r → (r.acc = .rw ∨ r.acc = .wo) →
    plainBlk b = true →
    Answered s h (.regWrite h a v m) ((s.heard h).setReg a (mergeWrite ((s.heard h).reg a) v m r.mask)) .ok [])
  ∧ (∀ (s : State) h a b o v m, Admitted s h (.regWrite h a v m) → a % 4 = 0 → a ≤ 0xFFFFFFFC → locate a = some (b, o) →
    (s.heard h).blkDisabled b = false → (b.find o = none ∨ ∃ r, b.find o = some r ∧ (r.acc = .ro ∨ r.acc = .rc)) →
    Answered s h (.regWrite h a v m) (s.heard h) .ok [])
  ∧ (∀ (s : State) h a b o v m, Admitted s h (.regWrite h a v m) → a % 4 = 0 → a ≤ 0xFFFFFFFC → locate a = some (b, o) →
    (s.heard h).blkDisabled b = true → Answered s h (.regWrite h a v m) (s.heard h) .noResource [])
  ∧ (∀ (s : State) h a v m, Admitted s h (.regWrite h a v m) → a % 4 ≠ 0 →
    Answered s h (.regWrite h a v m) (s.heard h) .conflict [])
  ∧ (∀ (old v m f : Word) (i : Nat), (mergeWrite old v m f).getLsbD i
    = if m.getLsbD i && f.getLsbD i then v.getLsbD i else old.getLsbD i)

/-- Rows of the table that write one register at once: TILE_SEL, PORT_RESERVE, EVT_MASK, EVT_CAUSE, SCRUB_CTRL,
RINGMASTER_MHZ, PKG_THROTTLE, TRIG_CTRL, TRIG_TIME_HI, THRESH_DIE and THRESH_STACK (R94, R195, R287, R291, R308, R336,
R357, R370). Points that the spec leaves open are settled by log 82. -/
def Obligations.RegisterRowsAtOnce : Prop :=
  (∀ (s : State) h (c : CoreIx) v m, Admitted s h (.tileSelWrite h c v m) → (s.heard h).enabled c.val = true →
    Answered s h (.tileSelWrite h c v m) ((s.heard h).setReg ((Blk.cas c).at 0x40)
      (mergeWrite ((s.heard h).reg ((Blk.cas c).at 0x40)) v m 0xFFF)) .ok [])
  ∧ (∀ (s : State) h v m, Admitted s h (.portReserveWrite h v m) →
    Answered s h (.portReserveWrite h v m) ((s.heard h).setReg 0x60008
      (mergeWrite ((s.heard h).reg 0x60008) v m 0xFF)) .ok [])
  ∧ (∀ (s : State) h v m, Admitted s h (.evtMaskWrite h v m) →
    Answered s h (.evtMaskWrite h v m) ((s.heard h).setReg 0x4000C
      (mergeWrite ((s.heard h).reg 0x4000C) v m 0x7F0)) .ok [])
  ∧ (∀ (s : State) h v m, Admitted s h (.evtCauseWrite h v m) →
    Answered s h (.evtCauseWrite h v m) ((s.heard h).setReg 0x40008
      ((s.heard h).reg 0x40008 &&& ~~~(v &&& m &&& ~~~(s.heard h).causesHeld))) .ok [])
  ∧ (∀ (s : State) h v m, Admitted s h (.scrubCtrlWrite h v m) →
    Answered s h (.scrubCtrlWrite h v m) ((s.heard h).setReg 0x80004
      (word (max 1 (min 168 ((mergeWrite ((s.heard h).reg 0x80004) v m 0xFF).toNat % 256))
        + (mergeWrite ((s.heard h).reg 0x80004) v m 0xFF).toNat / 256 * 256))) .ok [])
  ∧ (∀ (s : State) h v m, Admitted s h (.ringmasterMhzWrite h v m) → (s.heard h).clocks.safe = false →
    Answered s h (.ringmasterMhzWrite h v m)
      (((s.heard h).setReg 0x10014 (word (max 400 (min 1200 (mergeWrite ((s.heard h).reg 0x10014) v m 0x7FF).toNat)))).updDom
        39 (fun x => { x with mhz := max 400 (min 1200 (mergeWrite ((s.heard h).reg 0x10014) v m 0x7FF).toNat) })) .ok [])
  ∧ (∀ (s : State) h v m, Admitted s h (.pkgThrottleWrite h v m) →
    let new := mergeWrite ((s.heard h).reg 0x1000C) v m 0x7FF
    if new.toNat < ((s.heard h).reg 0x1000C).toNat ∧ (s.heard h).throttleInUse new.toNat = true then
      Answered s h (.pkgThrottleWrite h v m) (s.heard h) .conflict []
    else Answered s h (.pkgThrottleWrite h v m) ((s.heard h).setReg 0x1000C new) .ok [])
  ∧ (∀ (s : State) h v m, Admitted s h (.trigCtrlWrite h v m) →
    let new := mergeWrite ((s.heard h).reg 0x20014) v m 0xFFFF803F
    Answered s h (.trigCtrlWrite h v m) ((s.heard h).setReg 0x20014
      (if new.toNat % 4 = 3 then word (new.toNat - 3) else new)) .ok [])
  ∧ (∀ (s : State) h v m, Admitted s h (.trigTimeHiWrite h v m) →
    let new := mergeWrite ((s.heard h).reg 0x2001C) v m 0xFFFFFFFF
    Answered s h (.trigTimeHiWrite h v m) { (s.heard h).setReg 0x2001C new with
      thermal := { (s.heard h).thermal with
        armed := some (max (new.toNat * 2 ^ 32 + ((s.heard h).reg 0x20018).toNat) ((s.heard h).time.ns + 10000)) } } .ok [])
  ∧ (∀ (s : State) h v m, Admitted s h (.threshDieWrite h v m) →
    Answered s h (.threshDieWrite h v m) ((s.heard h).setReg 0x2000C
      (threshWrite ((s.heard h).reg 0x2000C) (mergeWrite ((s.heard h).reg 0x2000C) v m 0xFFFF) 95 105)) .ok [])
  ∧ (∀ (s : State) h v m, Admitted s h (.threshStackWrite h v m) →
    Answered s h (.threshStackWrite h v m) ((s.heard h).setReg 0x20010
      (threshWrite ((s.heard h).reg 0x20010) (mergeWrite ((s.heard h).reg 0x20010) v m 0xFFFF) 85 95)) .ok [])
  ∧ (∀ (old new : Word) (a b : Nat), a + 5 ≤ b → b < 256 →
    ((threshWrite old new a b = old ∧ min b (new.toNat / 256 % 256) < min a (new.toNat % 256) + 5)
      ∨ ((threshWrite old new a b).toNat % 256 ≤ a ∧ (threshWrite old new a b).toNat / 256 % 256 ≤ b
        ∧ (threshWrite old new a b).toNat % 256 + 5 ≤ (threshWrite old new a b).toNat / 256 % 256
        ∧ (threshWrite old new a b).toNat / 65536 = old.toNat / 65536)))

/-- Rows whose effect waits for a boundary while a group concerned runs a plan, or that are judged before they take
effect: ENG_CTRL, CAL_CTRL, CAL_BOUNDS, DOM_SSC, CORE_IDLE, DOM_CTRL, the gates, the converter sequences, MON_CAL and
PIPE_CTRL (R66, R134, R297, R300, R309, R368, R373, R374). Points that the spec leaves open are settled by log 56, log
82 and log 112. -/
def Obligations.RegisterRowsJudged : Prop :=
  (∀ (s : State) h (c : CoreIx) (e : EngIx) v m, Admitted s h (.engCtrlWrite h c e v m) → (s.heard h).enabled c.val = true →
    let a := (Blk.eng c e).at 4
    let new := mergeWrite ((s.heard h).writeBase a) v m 1
    (((s.heard h).core c.val).group = none →
      Answered s h (.engCtrlWrite h c e v m) ((s.heard h).setReg a new) .ok [])
    ∧ (∀ g, ((s.heard h).core c.val).group = some g → ((s.heard h).grp g).current.isSome = true →
      Answered s h (.engCtrlWrite h c e v m)
        { s.heard h with deferred := (s.heard h).deferred ++ [⟨a, new, some g⟩] } .ok []))
  ∧ (∀ (s : State) h v m, Admitted s h (.calCtrlWrite h v m) →
    let new := holdField (mergeWrite ((s.heard h).writeBase 0x70000) v m 0xFFFFFF1F) 1 4 (4, 12)
    ((s.heard h).anyRuns = false → Answered s h (.calCtrlWrite h v m) ((s.heard h).setReg 0x70000 new) .ok [])
    ∧ ((s.heard h).anyRuns = true → Answered s h (.calCtrlWrite h v m)
        { s.heard h with deferred := (s.heard h).deferred ++ [⟨0x70000, new, none⟩] } .ok []))
  ∧ (∀ (s : State) h v m, Admitted s h (.calBoundsWrite h v m) →
    let new := mergeWrite ((s.heard h).writeBase 0x70004) v m 0xFFFF
    ((s.heard h).anyRuns = false → Answered s h (.calBoundsWrite h v m) ((s.heard h).setReg 0x70004 new) .ok [])
    ∧ ((s.heard h).anyRuns = true → Answered s h (.calBoundsWrite h v m)
        { s.heard h with deferred := (s.heard h).deferred ++ [⟨0x70004, new, none⟩] } .ok []))
  ∧ (∀ (s : State) h (d : DieIx) (j : Fin 9) v m, Admitted s h (.domSscWrite h d j v m) →
    let a := (Blk.dieClk d).at (16 * j.val + 8)
    (j.val < 2 →
      let new := holdField (holdField (mergeWrite ((s.heard h).writeBase a) v m 0x7FF) 1 4 (0, 10)) 5 6 (30, 63)
      ((s.heard h).dieGroups d.val = [] → Answered s h (.domSscWrite h d j v m) ((s.heard h).setReg a new) .ok [])
      ∧ ((s.heard h).dieGroups d.val ≠ [] → Answered s h (.domSscWrite h d j v m)
          { s.heard h with deferred := (s.heard h).deferred ++ [⟨a, new, none⟩] } .ok []))
    ∧ (2 ≤ j.val → Answered s h (.domSscWrite h d j v m) (s.heard h) .ok []))
  ∧ (∀ (s : State) h v m, Admitted s h (.coreIdleWrite h v m) →
    let s1 := (s.heard h).setReg 0x10010 (mergeWrite ((s.heard h).reg 0x10010) v m 0x7FF)
    Answered s h (.coreIdleWrite h v m)
      (allDies.foldl (fun acc d => if s1.dieGroups d.val = [] then acc.applyDie d else acc) s1) .ok [])
  ∧ (∀ (s : State) h (d : DieIx) (j : Fin 9) v m, Admitted s h (.domCtrlWrite h d j v m) →
    let a := (Blk.dieClk d).at (16 * j.val)
    let s1 := (s.heard h).setReg a (mergeWrite ((s.heard h).reg a) v m (if j.val = 8 then 1 else 0x1FFF))
    Answered s h (.domCtrlWrite h d j v m)
      (if s1.dieGroups d.val = [] then s1.applyDie d
       else (List.range 9).foldl (fun acc k =>
         acc.updDom (9 * d.val + k) (fun x => { x with pending := decide (x.mhz ≠ s1.domTarget d k) })) s1) .ok [])
  ∧ (∀ (s : State) h v m, Admitted s h (.pkgGateWrite h v m) →
    let g := (s.heard h).clocks.gates
    let w := (mergeWrite (word (flag g.pkg + 2 * (g.dies % 16))) v m 0x1F).toNat
    let new : Gates := { g with pkg := decide (w % 2 = 1), dies := w / 2 % 16 }
    ((s.heard h).gatesOk new = true → Answered s h (.pkgGateWrite h v m)
      { s.heard h with clocks := { (s.heard h).clocks with gates := new } } .ok [])
    ∧ ((s.heard h).gatesOk new = false → Answered s h (.pkgGateWrite h v m) (s.heard h) .conflict []))
  ∧ (∀ (s : State) h (d : DieIx) v m, Admitted s h (.dieGateWrite h d v m) →
    let g := (s.heard h).clocks.gates
    let w := (mergeWrite (word (flag (g.dies.testBit d.val) + 256 * (g.clusters / 2 ^ (8 * d.val) % 256))) v m 0xFF01).toNat
    let new : Gates := { g with dies := setBits g.dies d.val 1 w, clusters := setBits g.clusters (8 * d.val) 8 (w / 256) }
    ((s.heard h).gatesOk new = true → Answered s h (.dieGateWrite h d v m)
      { s.heard h with clocks := { (s.heard h).clocks with gates := new } } .ok [])
    ∧ ((s.heard h).gatesOk new = false → Answered s h (.dieGateWrite h d v m) (s.heard h) .conflict []))
  ∧ (∀ (s : State) h (d : DieIx) v m, Admitted s h (.gateCoreWrite h d v m) →
    let sel := ((s.heard h).reg ((Blk.dieClk d).at 0x104)).toNat % 256
    let c := d.val * 144 + sel
    let g := (s.heard h).clocks.gates
    let w := (mergeWrite (word ((s.heard h).gateWord c)) v m 0x1FFFF).toNat
    let new : Gates := { g with cores := setBits g.cores c 1 w, engines := g.engines.put c (w / 2 % 65536) }
    ((144 ≤ sel ∨ (s.heard h).good c = false) → Answered s h (.gateCoreWrite h d v m) (s.heard h) .ok [])
    ∧ (sel < 144 → (s.heard h).good c = true → (s.heard h).gatesOk new = true → Answered s h (.gateCoreWrite h d v m)
      { s.heard h with clocks := { (s.heard h).clocks with gates := new } } .ok [])
    ∧ (sel < 144 → (s.heard h).good c = true → (s.heard h).gatesOk new = false →
      Answered s h (.gateCoreWrite h d v m) (s.heard h) .conflict []))
  ∧ (∀ (s : State) h (d : DieIx) (k : Fin 4) (e : Fin 16) v m, Admitted s h (.seqWrite h d k e v m) →
    let a := (Blk.mon d).at (0x100 + 0x80 * k.val + 4 * e.val)
    let s1 := (s.heard h).setReg a (mergeWrite ((s.heard h).reg a) v m 0x3F)
    (s1.seqOk d = true → Answered s h (.seqWrite h d k e v m) s1 .ok [])
    ∧ (s1.seqOk d = false → Answered s h (.seqWrite h d k e v m) (s.heard h) .conflict []))
  ∧ (∀ (s : State) h v m, Admitted s h (.monCalWrite h v m) →
    Answered s h (.monCalWrite h v m) (allDies.foldl (fun acc d =>
      if (v &&& m).getLsbD d.val then acc.updTherm d.val (fun t => { t with calBusy := true }) else acc) (s.heard h)) .ok [])
  ∧ (∀ (s : State) h (d : DieIx) v m, Admitted s h (.pipeCtrlWrite h d v m) →
    let a := (Blk.mon d).at 0x300
    let new := mergeWrite ((s.heard h).reg a) v m 0x1FFF
    let s1 := (s.heard h).setReg a new
    Answered s h (.pipeCtrlWrite h d v m)
      (if m.getLsbD 12 then s1.updTherm d.val (fun t => { t with capArmed := new.getLsbD 12, capture := [] }) else s1) .ok [])

/-! ### Configuration, firmware and keys -/

/-- CFG_READ, CFG_WRITE, DEVICE_QUERY and DEVICE_RESET (R267, R278, R313): a value in range is stored, and is in
force at once where its item is live; MACSEC is stored with the CAK that its command decrypts to; a reset comes
after its reply, and is refused while a group runs a plan unless FORCE is set. -/
def Obligations.DeviceCommands : Prop :=
  (∀ (s : State) h item, Admitted s h (.cfgRead h item) →
    Answered s h (.cfgRead h item) (s.heard h) .ok
      ((cfgFields (s.heard h).nvm.cfg item).length :: cfgFields (s.heard h).nvm.cfg item
        ++ ((cfgFields (s.heard h).cfg item).length :: cfgFields (s.heard h).cfg item)))
  ∧ (∀ (s : State) h v, Admitted s h (.cfgWrite h v) → v.inRange = true → (∀ p a b c d, v ≠ .macsec p a b c d) →
    Answered s h (.cfgWrite h v)
      (if v.isLive then ({ s.heard h with nvm := { (s.heard h).nvm with cfg := (s.heard h).nvm.cfg.set v [] }
                                          cfg := (s.heard h).cfg.set v [] } : State).relist (s.heard h).cfg
       else { s.heard h with nvm := { (s.heard h).nvm with cfg := (s.heard h).nvm.cfg.set v [] } }) .ok [])
  ∧ (∀ (s : State) h v, Admitted s h (.cfgWrite h v) → v.inRange = false →
    Answered s h (.cfgWrite h v) (s.heard h) .conflict [])
  ∧ (∀ (s : State) h p name nonce cipher tag cak x, Admitted s h (.cfgWrite h (.macsec p name nonce cipher tag)) →
    (CfgVal.macsec p name nonce cipher tag).inRange = true → (s.heard h).session? h.sess = some x →
    Crypto.gcmOpen (Crypto.hkdf x.h2d (s.heard h).serialBytes (Crypto.ascii "mct-cak") 32) nonce
      (Crypto.bytesLE 1 p ++ name) cipher tag = some cak →
    Answered s h (.cfgWrite h (.macsec p name nonce cipher tag))
      { s.heard h with nvm := { (s.heard h).nvm with
          cfg := { (s.heard h).nvm.cfg with macPolicy := p, cakName := name, cak := cak } } } .ok [])
  ∧ (∀ (s : State) h, Admitted s h (.deviceQuery h) →
    Answered s h (.deviceQuery h) (s.heard h) .ok [((s.heard h).readReg 0x40000).toNat, ((s.heard h).readReg 0x40004).toNat,
      ((s.heard h).readReg 0x40008).toNat, ((s.heard h).readReg 0x50000).toNat])
  ∧ (∀ (s : State) h force, Admitted s h (.deviceReset h force) → ((s.heard h).anyRuns = false ∨ force = true) →
    exec (.deviceReset h force) s = .next (((s.heard h).reply h.sess h.seq .ok 0 0 []).enterReset 4))
  ∧ (∀ (s : State) h, Admitted s h (.deviceReset h false) → (s.heard h).anyRuns = true →
    Answered s h (.deviceReset h false) (s.heard h) .conflict [])

/-- FW_BEGIN, FW_DATA and FW_COMMIT (R319 to R323, Table 12-4). -/
def Obligations.FirmwareCommands : Prop :=
  (∀ (s : State) h len digest, Admitted s h (.fwBegin h len digest) → (s.heard h).boot.inRom = true → len ≤ 2 ^ 26 →
    (∀ u, (s.heard h).boot.upload = some u → u.sess = h.sess) →
    Answered s h (.fwBegin h len digest)
      { s.heard h with boot := { (s.heard h).boot with upload := some ⟨h.sess, len, digest, []⟩ } } .ok [])
  ∧ (∀ (s : State) h len digest, Admitted s h (.fwBegin h len digest) → (s.heard h).boot.inRom = false →
    Answered s h (.fwBegin h len digest) (s.heard h) .conflict [])
  ∧ (∀ (s : State) h off data u, Admitted s h (.fwData h off data) → (s.heard h).boot.upload = some u → u.sess = h.sess →
    data.length ≤ 8192 → off + data.length ≤ u.len →
    Answered s h (.fwData h off data)
      { s.heard h with boot := { (s.heard h).boot with upload := some { u with parts := (off, data) :: u.parts } } } .ok [])
  ∧ (∀ (s : State) h off data, Admitted s h (.fwData h off data) → (s.heard h).boot.upload = none →
    Answered s h (.fwData h off data) (s.heard h) .conflict [])
  ∧ (∀ (s : State) h u bs, Admitted s h (.fwCommit h) → (s.heard h).boot.upload = some u → u.sess = h.sess →
    u.bytes = some bs → (s.heard h).checkImage u bs = none →
    ∃ t, exec (.fwCommit h) s = .next t ∧ t.boot.inRom = false ∧ t.boot.upload = none ∧ t.boot.fwValid = true
      ∧ t.boot.fwVersion = le bs 4 4 ∧ t.boot.fwDigest = Crypto.sha256 bs ∧ t.boot.fwSec = le bs 8 4
      ∧ t.boot.entry = le bs 0x14 4 ∧ t.boot.phase = 12 ∧ t.sessions = ((s.heard h).reply h.sess h.seq .ok 0 0 []).sessions
      ∧ (.reply h.sess h.seq .ok 0 0 [] false) ∈ t.out ∧ t.nvm.floor = s.nvm.floor)
  ∧ (∀ (s : State) h u bs st d, Admitted s h (.fwCommit h) → (s.heard h).boot.upload = some u → u.sess = h.sess →
    u.bytes = some bs → (s.heard h).checkImage u bs = some (st, d) →
    ∃ t, exec (.fwCommit h) s = .next t ∧ t.boot = { (s.heard h).boot with upload := none }
      ∧ t.out = (s.heard h).out ++ [.reply h.sess h.seq st d 0 [] false])
  ∧ (∀ (s : State) (u : Upload) bs, Crypto.sha256 bs ≠ u.digest → s.checkImage u bs = some (.digestMismatch, 0))
  ∧ (∀ (s : State) (u : Upload) bs, s.checkImage u bs = none →
    le bs 8 4 ≥ s.nvm.floor ∧ Crypto.lmsVerify (Crypto.slice bs 0x20 56) (bs.drop (le bs 0x10 4)) (bs.take (le bs 0x10 4)) = true)

/-- KEY_ENROL, KEY_REVOKE and ATTEST_QUOTE (R384, R385, R387, R388): the record that passes every check enrols its
key; a revocation removes the key, and its sessions depart; a quote consumes one leaf. Points that the spec leaves
open are settled by log 27 and log 29. -/
def Obligations.KeyCommands : Prop :=
  (∀ (s : State) h r x slot secret, Admitted s h (.keyEnrol h r) → (s.heard h).session? h.sess = some x →
    enrolFits r = true → le r 0 4 = 0x4B45384D → Crypto.slice r 0x10 16 = (s.heard h).serialBytes →
    (s.heard h).keyOf (le r 4 4) = none → (s.heard h).nvm.freeSlot = some slot → (s.heard h).enrolSigned x r = true →
    Crypto.gcmOpen (Crypto.hkdf x.h2d (s.heard h).serialBytes (Crypto.ascii "mct-enrol") 32) (Crypto.slice r 0x5C 12)
      (r.take 0x5C) (Crypto.slice r 0x68 32) (Crypto.slice r 0x88 16) = some secret →
    ∃ t, exec (.keyEnrol h r) s = .next t ∧ t.nvm.keys = (s.heard h).nvm.keys.put slot
        { id := le r 4 4, secret := secret, roles := le r 8 1, levels := le r 9 1, pub := Crypto.slice r 0x20 60
          custody := false }
      ∧ t.out = (s.heard h).out ++ [.reply h.sess h.seq .ok 0 0 [] false])
  ∧ (∀ (s : State) h r x, Admitted s h (.keyEnrol h r) → (s.heard h).session? h.sess = some x → enrolFits r = true →
    le r 0 4 = 0x4B45384D → Crypto.slice r 0x10 16 = (s.heard h).serialBytes → ((s.heard h).keyOf (le r 4 4)).isSome = true →
    Answered s h (.keyEnrol h r) (s.heard h) .conflict [])
  ∧ (∀ (s : State) h key k, Admitted s h (.keyRevoke h key) → (s.heard h).keyOf key = some k →
    (k.roles.testBit 2 = false ∨ 1 < (s.heard h).nvm.admins) →
    exec (.keyRevoke h key) s = .next (revoked key (({ s.heard h with nvm := { (s.heard h).nvm with
      keys := (s.heard h).nvm.keys.filter (fun p => p.2.id != key) } } : State).reply h.sess h.seq .ok 0 0 [])))
  ∧ (∀ (s : State) key, ((revoked key s).sessions.filter (fun x => x.key == key)) = [])
  ∧ (∀ (s : State) h nonce, Admitted s h (.attestQuote h nonce 0) → nonce.length = 32 →
    Answered s h (.attestQuote h nonce 0) (s.heard h) .ok ((s.heard h).certificate.map (·.toNat)))
  ∧ (∀ (s : State) h nonce scope, Admitted s h (.attestQuote h nonce scope) → nonce.length = 32 → 0 < scope → scope < 8 →
    (s.heard h).sec.reserving = false → (s.heard h).sec.leaf < (s.heard h).sec.blockEnd →
    Answered s h (.attestQuote h nonce scope)
      (({ s.heard h with sec := { (s.heard h).sec with leaf := (s.heard h).sec.leaf + 1 } } : State).bump 0xA0014 1) .ok
      (((s.heard h).quoteBytes nonce scope ++ signatureBytes (s.heard h).nvm.signCopy.bottomTree
        (s.heard h).sec.leaf ((s.heard h).quoteBytes nonce scope)).map (·.toNat)))
  ∧ (∀ (s : State) h nonce scope, Admitted s h (.attestQuote h nonce scope) → nonce.length = 32 → 0 < scope → scope < 8 →
    (s.heard h).sec.reserving = true → Answered s h (.attestQuote h nonce scope) (s.heard h) .busy [])

/-! ### Groups, loads and adapters -/

/-- GROUP_FORM and GROUP_DISSOLVE (R16, R18, R228, R316): channels that no other formed group holds and that have not
failed form a group, and cores are assigned again; a group that runs no plan and holds no generation is dissolved.
Points that the spec leaves open are settled by log 16 and log 62. -/
def Obligations.GroupCommands : Prop :=
  (∀ (s : State) h g mask, AtOnce s h (.groupForm h g mask) → g < 12 → 0 < mask → mask < 4096 →
    (∀ k ∈ maskBits 12 mask, ((s.heard h).stack k).failed = false) →
    (∀ p ∈ (s.heard h).groups, p.1 ≠ g → p.2.formed = true → p.2.channels &&& mask = 0) →
    (((s.heard h).grp g).formed = false ∨ ((s.heard h).grp g).channels = mask ∨ ((s.heard h).inst g).busy = false) →
    Answered s h (.groupForm h g mask)
      (((s.heard h).updGrp g (fun x => { x with formed := true, channels := mask })).reassign none) .ok [])
  ∧ (∀ (s : State) h g mask p, AtOnce s h (.groupForm h g mask) → g < 12 → 0 < mask → mask < 4096 →
    p ∈ (s.heard h).groups → p.1 ≠ g → p.2.formed = true → p.2.channels &&& mask ≠ 0 →
    Answered s h (.groupForm h g mask) (s.heard h) .conflict [])
  ∧ (∀ (s : State) h g, AtOnce s h (.groupDissolve h g) → g < 12 → ((s.heard h).grp g).formed = true →
    ((s.heard h).inst g).busy = false → ((s.heard h).grp g).current = none → ((s.heard h).grp g).staged = none →
    Answered s h (.groupDissolve h g)
      (({ s.heard h with groups := (s.heard h).groups.del g } : State).reassign none) .ok [])
  ∧ (∀ (s : State) h g, AtOnce s h (.groupDissolve h g) → ((s.heard h).inst g).busy = true →
    Answered s h (.groupDissolve h g) (s.heard h) .conflict [])

/-- MODEL_LOAD, MODEL_ABORT, INSTANCE_QUERY, INSTANCE_UNLOAD and LOAD_REPORT (R229, R231, R235, R238, R239, R261): a
manifest that passes every check of R235 begins a load, a check that fails gives its status, an abort fails the load
in progress with ST_STALE. Points that the spec leaves open are settled by log 38, log 62 and log 64. -/
def Obligations.ModelCommands : Prop :=
  (∀ (s : State) h g loc reads x bs, Admitted s h (.modelLoad h g loc reads) → g < 12 → ((s.heard h).grp g).formed = true →
    (s.heard h).session? h.sess = some x → ((s.heard h).inst g).next = none →
    (s.heard h).fetchManifest loc reads = some bs → (s.heard h).checkManifest x g 0 bs = none →
    Answered s h (.modelLoad h g loc reads) ((s.heard h).updInst g (fun i => { i with
      next := some { id := 0, phase := .loading, load := newLoad bs x h.seq, damaged := false }
      shardAttempts := 0 })) .accepted [])
  ∧ (∀ (s : State) h g loc reads, Admitted s h (.modelLoad h g loc reads) → g < 12 → ((s.heard h).grp g).formed = true →
    ((s.heard h).inst g).next.isSome = true → Answered s h (.modelLoad h g loc reads) (s.heard h) .busy [])
  ∧ (∀ (s : State) h g loc reads x bs st, Admitted s h (.modelLoad h g loc reads) → g < 12 → ((s.heard h).grp g).formed = true →
    (s.heard h).session? h.sess = some x → ((s.heard h).inst g).next = none →
    (s.heard h).fetchManifest loc reads = some bs → (s.heard h).checkManifest x g 0 bs = some st →
    Answered s h (.modelLoad h g loc reads) ((s.heard h).countVerify st) st [])
  ∧ (∀ (s : State) h g x, Admitted s h (.modelAbort h g) → g < 12 → ((s.heard h).grp g).formed = true →
    ((s.heard h).inst g).next = some x → x.phase = .loading →
    Answered s h (.modelAbort h g) ((s.heard h).failLoad g none .stale none) .ok [])
  ∧ (∀ (s : State) h g x, Admitted s h (.modelAbort h g) → g < 12 → ((s.heard h).grp g).formed = true →
    ((s.heard h).inst g).next = some x → x.phase ≠ .loading →
    Answered s h (.modelAbort h g) ((s.heard h).updInst g (fun i => { i with next := none })) .ok [])
  ∧ (∀ (s : State) h g, Admitted s h (.instanceQuery h g) → g < 12 → ((s.heard h).grp g).formed = true →
    ((s.heard h).inst g).next = none →
    Answered s h (.instanceQuery h g) (s.heard h) .ok (genFields ((s.heard h).inst g).active ++ [0, 0, 0, 0, 0,
      ((s.heard h).inst g).shardAttempts, ((s.heard h).grp g).deadlineEnds, ((s.heard h).grp g).lateTokens]))
  ∧ (∀ (s : State) h g force, AtOnce s h (.instanceUnload h g force) → g < 12 → ((s.heard h).grp g).formed = true →
    ((s.heard h).inst g).active.isSome = true → (force = true ∨ ∀ r ∈ (s.heard h).reqs, r.group ≠ g) →
    Answered s h (.instanceUnload h g force) ((s.heard h).unload g) .ok [])
  ∧ (∀ (s : State) g, ((s.unload g).inst g).active = none ∧ ((s.unload g).inst g).adapters = []
    ∧ ((s.unload g).grp g).current = none ∧ (∀ r ∈ (s.unload g).reqs, r.group ≠ g))
  ∧ (∀ (s : State) h g tensor x, Admitted s h (.loadReport h g tensor) → g < 12 → ((s.heard h).grp g).formed = true →
    ((s.heard h).inst g).next = none → ((s.heard h).inst g).active = some x → tensor < x.load.manifest.tensors.length →
    Answered s h (.loadReport h g tensor) (s.heard h) .ok
      [(x.load.report.getD tensor (0, 0)).1.toNat, (x.load.report.getD tensor (0, 0)).2])
  ∧ (∀ (s : State) x g kind bs, s.checkManifest x g kind bs = none ↔
    (((parseManifest bs).format = 1 ∨ (parseManifest bs).format = 2)
      ∧ x.manifests.testBit (parseManifest bs).format = true
      ∧ ∃ k, s.keyOf (parseManifest bs).keyId = some k ∧ (parseManifest bs).keyId = x.key ∧ 0 < k.levels
        ∧ k.roles.testBit 1 = true ∧ signedBy bs (le bs 0x7C 4) k = true ∧ manifestRanges bs (parseManifest bs) kind = true
        ∧ (parseManifest bs).deviceBytes ≤ s.freeBytes g))

/-- ADAPTER_LOAD, ADAPTER_UNLOAD and ADAPTER_QUERY (R227, R240 to R243, R261). Points that the spec leaves open are
settled by log 16 and log 62. -/
def Obligations.AdapterCommands : Prop :=
  (∀ (s : State) h g ident tenant loc reads x base bs, AtOnce s h (.adapterLoad h g ident tenant loc reads) → g < 12 →
    ((s.heard h).grp g).formed = true → (s.heard h).session? h.sess = some x → ((s.heard h).inst g).active = some base →
    ident ≠ 0 → base.load.manifest.adapterSlots ≠ 0 → ((s.heard h).inst g).adapters.get? ident = none →
    ((s.heard h).inst g).adapters.length < 64 → (s.heard h).fetchManifest loc reads = some bs →
    (s.heard h).checkManifest x g 1 bs = none → adapterFits (parseManifest bs) base.load.manifest = true →
    Answered s h (.adapterLoad h g ident tenant loc reads) ((s.heard h).updInst g (fun i => { i with
      adapters := i.adapters.put ident
        { tenant := tenant, key := x.key, current := 0
          gens := [{ num := 1, refs := 0, verified := false, load := newLoad bs x h.seq }], unloaded := false } })) .accepted [])
  ∧ (∀ (s : State) h g ident tenant loc reads x a base, AtOnce s h (.adapterLoad h g ident tenant loc reads) → g < 12 →
    ((s.heard h).grp g).formed = true → (s.heard h).session? h.sess = some x → ((s.heard h).inst g).active = some base →
    ident ≠ 0 → base.load.manifest.adapterSlots ≠ 0 → ((s.heard h).inst g).adapters.get? ident = some a → a.key ≠ x.key →
    Answered s h (.adapterLoad h g ident tenant loc reads) (s.heard h) .notAuthorised [])
  ∧ (∀ (s : State) h g ident a, AtOnce s h (.adapterUnload h g ident) → g < 12 → ((s.heard h).grp g).formed = true →
    (s.heard h).adapter? h g ident = some a → a.unloaded = false →
    Answered s h (.adapterUnload h g ident)
      ((((s.heard h).failLoad g (some ident) .stale none).updInst g (fun i => { i with adapters := i.adapters.map (fun p =>
        if p.1 = ident then (p.1, { p.2 with unloaded := true }) else p) })).sweepAdapters g) .ok [])
  ∧ (∀ (s : State) h g ident a, Admitted s h (.adapterQuery h g ident) → g < 12 → ((s.heard h).grp g).formed = true →
    (s.heard h).adapter? h g ident = some a →
    Answered s h (.adapterQuery h g ident) (s.heard h) .ok
      (a.current :: a.gens.flatMap (fun x => [x.num, x.refs, flag x.verified])))

/-! ### Contexts and requests -/

/-- The context commands (R199, R200, R227, R244, R245, R248, R261): each has its effect on a context of the session's
key and of the tenant named, at rest where it must be; one of another key or tenant is not authorised. Points that the
spec leaves open are settled by log 35, log 39, log 63, log 137 and log 139. -/
def Obligations.ContextCommands : Prop :=
  (∀ (s : State) h f x key i d, AtOnce s h (.ctxCreate h f) → f.group < 12 → ((s.heard h).grp f.group).formed = true →
    (s.heard h).session? h.sess = some x → (s.heard h).instKey f.group = some key → key = x.key →
    ctxFieldsOk f.tenant f.tag f.policy f.shift f.backing = true → 6 ≤ f.budget → f.budget ≤ 512 →
    (s.heard h).freeIndex = some i → (s.heard h).homeDie f.group = some d →
    f.budget * sumNats (((s.heard h).attnOf f.group).map AttnEnt.pageGranules) ≤ (s.heard h).dieFree f.group d →
    let r := (s.heard h).reserveFrames f.group d f.budget
    Answered s h (.ctxCreate h f)
      { r.2.newTable.2 with
        contexts := (s.heard h).contexts.put i
          (newCtx f.group d x.key f.tenant f.tag f.budget f.policy f.shift f.backing r.1 r.2.newTable.1) } .ok [i, d])
  ∧ (∀ (s : State) h c t x, AtOnce s h (.ctxDelete h c t) → (s.heard h).named? h c t = some x → x.atRest = true →
    ∃ u, Answered s h (.ctxDelete h c t) u .ok [] ∧ u.contexts = (s.heard h).contexts.del c
      ∧ OnlyChanges [.contexts, .spill] (s.heard h) u)
  ∧ (∀ (s : State) h c t, AtOnce s h (.ctxDelete h c t) → (s.heard h).named? h c t = none →
    Answered s h (.ctxDelete h c t) (s.heard h) .notAuthorised [])
  ∧ (∀ (s : State) h c t x, AtOnce s h (.ctxDelete h c t) → (s.heard h).named? h c t = some x → x.atRest = false →
    Answered s h (.ctxDelete h c t) (s.heard h) .busy [])
  ∧ (∀ (s : State) h c t p sh b x, AtOnce s h (.ctxSet h c t p sh b) → (s.heard h).named? h c t = some x →
    x.atRest = true → ctxFieldsOk t 0 p sh b = true →
    Answered s h (.ctxSet h c t p sh b)
      { s.heard h with contexts := (s.heard h).contexts.put c { x with
          policy := p, shift := sh, backing := if p = 1 then ⟨0, 0, 0, 0⟩ else b } } .ok [])
  ∧ (∀ (s : State) h c t pos x, AtOnce s h (.ctxTruncate h c t pos) → (s.heard h).named? h c t = some x →
    x.atRest = true → pos ≤ x.length → pos % 128 = 0 →
    Answered s h (.ctxTruncate h c t pos)
      { s.heard h with contexts := (s.heard h).contexts.put c (x.truncateAt pos []) } .ok [])
  ∧ (∀ (c : Ctx) pos, (c.truncateAt pos []).length = pos
    ∧ (∀ k es, (k, es) ∈ (c.truncateAt pos []).tables → ∀ e ∈ es, 128 * e.page < pos))
  ∧ (∀ (s : State) h c t x, AtOnce s h (.ctxSuspend h c t) → (s.heard h).named? h c t = some x → x.state = .idle →
    x.policy ≠ 1 → (s.heard h).suspendBytes x ≤ 4096 * x.backing.len →
    let data := (s.heard h).contextImage x
    ∃ u, exec (.ctxSuspend h c t) s = .next u
      ∧ u.contexts = (s.heard h).contexts.put c { x with
          state := .suspending, origin := some (h.sess, h.seq), originAt := (s.heard h).time.ns }
      ∧ u.out = (s.heard h).out ++ [.nvmeWrite ⟨x.backing.target, x.backing.ns, x.backing.base, data.length⟩ data 4]
      ∧ OnlyChanges [.contexts, .out, .wire, .wide] (s.heard h) u)
  ∧ (∀ (s : State) h c t x, AtOnce s h (.ctxSuspend h c t) → (s.heard h).named? h c t = some x → x.atRest = true →
    (x.state = .stale ∨ x.policy = 1 ∨ 4096 * x.backing.len < (s.heard h).suspendBytes x) →
    Answered s h (.ctxSuspend h c t) (s.heard h) .conflict [])
  ∧ (∀ (s : State) h g t tag b x key i d, AtOnce s h (.ctxRestore h g t tag b) → g < 12 → ((s.heard h).grp g).formed = true →
    (s.heard h).session? h.sess = some x → (s.heard h).instKey g = some key → key = x.key →
    ctxFieldsOk t tag 0 1 b = true → (s.heard h).freeIndex = some i → (s.heard h).homeDie g = some d →
    ∃ u y, exec (.ctxRestore h g t tag b) s = .next u ∧ u.contexts = (s.heard h).contexts.put i y
      ∧ y.state = .restoring ∧ y.group = g ∧ y.key = x.key ∧ y.tenant = t ∧ y.origin = some (h.sess, h.seq)
      ∧ u.out = (s.heard h).out ++ [.nvmeRead ⟨b.target, b.ns, b.base, 4096 * b.len⟩ 4]
      ∧ OnlyChanges [.contexts, .out, .wire, .wide] (s.heard h) u)
  ∧ (∀ (s : State) h c t x, Admitted s h (.ctxQuery h c t) → (s.heard h).named? h c t = some x →
    Answered s h (.ctxQuery h c t) (s.heard h) .ok ([x.group, x.key, x.tenant, x.tag, x.stateGen, x.adapter,
      x.adapterGen, x.state.code, x.turns, x.generated, x.homeDie, x.budget, x.length, x.policy, x.shift,
      x.backing.target, x.backing.ns, x.backing.base, x.backing.len] ++ x.tables.map (fun t => t.2.length)))

/-- The checks of REQ_SUBMIT in order (R227, R250): the context and the adapter are the session's and the tenant's, it
is at rest, its state is of the generations that would extend it, the fields are in range, and the deadline is not
past. Points that the spec leaves open are settled by log 140. -/
def Obligations.RequestChecks : Prop :=
  (∀ (s : State) h f, s.named? h f.ctx f.tenant = none → s.reqCheck h f = some .notAuthorised)
  ∧ (∀ (s : State) h f c, s.named? h f.ctx f.tenant = some c →
    s.adapterForeign c.group c.key c.tenant f.adapter = true → s.reqCheck h f = some .notAuthorised)
  ∧ (∀ (s : State) h f c, s.named? h f.ctx f.tenant = some c →
    s.adapterForeign c.group c.key c.tenant f.adapter = false → c.atRest = false → s.reqCheck h f = some .busy)
  ∧ (∀ (s : State) h f c a, s.named? h f.ctx f.tenant = some c → c.atRest = true → f.fullHistory = false → c.length ≠ 0 →
    (s.inst c.group).active = some a → (s.adapterFor c.group c.key c.tenant f.adapter).isSome = true → c.stateGen ≠ a.id →
    s.reqCheck h f = some .stale)
  ∧ (∀ (s : State) h f c a, s.named? h f.ctx f.tenant = some c → c.atRest = true → (f.fullHistory = true ∨ c.length = 0) →
    s.adapterForeign c.group c.key c.tenant f.adapter = false → (s.inst c.group).active = some a →
    (f.ok a.load.manifest.vocabulary = false ∨ s.adapterFor c.group c.key c.tenant f.adapter = none
      ∨ (s.req? h.sess f.id).isSome = true) → s.reqCheck h f = some .conflict)
  ∧ (∀ (s : State) h f c a, s.named? h f.ctx f.tenant = some c → c.atRest = true → (f.fullHistory = true ∨ c.length = 0) →
    (s.inst c.group).active = some a → f.ok a.load.manifest.vocabulary = true → f.more = false → f.adapter = 0 →
    s.req? h.sess f.id = none →
    s.reqCheck h f = if f.deadline ≠ 0 ∧ f.deadline ≤ s.tickEnd c.group then some .deadlineMissed else none)

/-- REQ_SUBMIT, REQ_TOKENS, REQ_TOKENS_TIMEOUT, REQ_CANCEL and REQ_QUERY (R249, R253, R254, R261): a request that
passes its checks is queued, with its context busy; one whose tokens follow waits for them, and is refused ST_STALE
when they do not come in time. Points that the spec leaves open are settled by log 16, log 40, log 64 and log 65. -/
def Obligations.RequestCommands : Prop :=
  (∀ (s : State) h f c, AtOnce s h (.reqSubmit h f) → f.tokens.length ≤ 2048 → f.more = false → f.fullHistory = false →
    f.adapter = 0 → f.penaliseInput = false → (s.heard h).ctxAwaited f.ctx = false →
    (s.heard h).reqCheck h f = none → (s.heard h).ctx? f.ctx = some c →
    ∃ u r, Answered s h (.reqSubmit h f) u .accepted [] ∧ u.reqs = (s.heard h).reqs ++ [r]
      ∧ r.sess = h.sess ∧ r.f = f ∧ r.group = c.group ∧ r.phase = .queued ∧ r.pos = c.length
      ∧ r.rowsLeft = f.tokens.length ∧ r.order = (s.heard h).accepted ∧ u.accepted = (s.heard h).accepted + 1
      ∧ u.contexts = (s.heard h).contexts.put f.ctx { c with state := .busy, truncate := none }
      ∧ OnlyChanges [.reqs, .accepted, .contexts] (s.heard h) u)
  ∧ (∀ (s : State) h f, Admitted s h (.reqSubmit h f) → f.tokens.length ≤ 2048 → f.more = true →
    (s.heard h).ctxAwaited f.ctx = false →
    ∃ x, exec (.reqSubmit h f) s = .next { s.heard h with held := (s.heard h).held ++ [x] }
      ∧ x.awaiting = true ∧ x.cmd = .reqSubmit h f ∧ x.sess = h.sess ∧ x.seq = h.seq ∧ x.lastPart = (s.heard h).time.ns)
  ∧ (∀ (s : State) h r ts more, Admitted s h (.reqTokens h r ts more) → ts.length ≤ 2240 →
    (s.heard h).held.any (fun x => x.awaits h.sess r) = true →
    Answered s h (.reqTokens h r ts more) { s.heard h with held := (s.heard h).held.map (fun x =>
      if x.awaits h.sess r then x.addTokens ts more (s.heard h).time.ns else x) } .ok [])
  ∧ (∀ (s : State) h r ts more, Admitted s h (.reqTokens h r ts more) →
    (s.heard h).held.any (fun x => x.awaits h.sess r) = false →
    Answered s h (.reqTokens h r ts more) (s.heard h) .conflict [])
  ∧ (∀ (s : State) sess r x, s.held.filter (fun y => y.awaits sess r) = [x] →
    exec (.reqTokensTimeout sess r) s = .next (({ s with held := s.held.filter (fun y => !(y.awaits sess r)) } : State).reply
      x.sess x.seq .stale 0 0 []))
  ∧ (∀ (s : State) h r x, AtOnce s h (.reqCancel h r) → (s.heard h).held.any (fun y => y.awaits h.sess r) = false →
    (s.heard h).req? h.sess r = some x →
    Answered s h (.reqCancel h r) ((s.heard h).endReq x 3 (endEntry x.f.id 3)) .ok [])
  ∧ (∀ (s : State) h r, AtOnce s h (.reqCancel h r) → (s.heard h).held.any (fun y => y.awaits h.sess r) = false →
    (s.heard h).req? h.sess r = none → (s.heard h).ended.any (fun e => e.sess == h.sess && e.req == r) = true →
    Answered s h (.reqCancel h r) (s.heard h) .stale [])
  ∧ (∀ (s : State) h r x, Admitted s h (.reqQuery h r) → (s.heard h).req? h.sess r = some x →
    Answered s h (.reqQuery h r) (s.heard h) .ok [x.phase.code, x.rowsLeft, x.sent, x.misses])

/-! ### Plans, balance and maintenance -/

/-- The plan commands (R148, R161, R166, R167, Table 6-9): an upload is opened, filled and committed by one session,
aborting it discards it, and the group's plan can be asked about, have a variant forced, or be retired, at a boundary
of the group where it has boundaries. Points that the spec leaves open are settled by log 16 and log 64. -/
def Obligations.PlanCommands : Prop :=
  (∀ (s : State) h g len digest, Admitted s h (.planBegin h g len digest) → g < 12 → ((s.heard h).grp g).formed = true →
    ((s.heard h).grp g).staged = none → len ≤ 2 ^ 28 → (s.heard h).planBytes + len ≤ 6144 * 2 ^ 20 →
    Answered s h (.planBegin h g len digest) ((s.heard h).updGrp g (fun y => { y with
      staged := some ⟨⟨h.sess, len, digest, []⟩, .uploading, none, none, 0, false⟩ })) .ok [])
  ∧ (∀ (s : State) h g len digest st, Admitted s h (.planBegin h g len digest) → g < 12 → ((s.heard h).grp g).formed = true →
    ((s.heard h).grp g).staged = some st → st.upload.sess ≠ h.sess →
    Answered s h (.planBegin h g len digest) (s.heard h) .busy [])
  ∧ (∀ (s : State) h g off data st, Admitted s h (.planData h g off data) → g < 12 → ((s.heard h).grp g).formed = true →
    ((s.heard h).grp g).staged = some st → st.phase = .uploading → st.upload.sess = h.sess → data.length ≤ 8192 →
    off + data.length ≤ st.upload.len →
    Answered s h (.planData h g off data) ((s.heard h).updGrp g (fun y => { y with
      staged := some { st with upload := { st.upload with parts := (off, data) :: st.upload.parts } } })) .ok [])
  ∧ (∀ (s : State) h g st, Admitted s h (.planCommit h g) → g < 12 → ((s.heard h).grp g).formed = true →
    ((s.heard h).grp g).staged = some st → st.phase = .uploading → st.upload.sess = h.sess → st.upload.bytes.isSome = true →
    exec (.planCommit h g) s = .next ((s.heard h).updGrp g (fun y => { y with
      staged := some { st with phase := .verifying, origin := some (h.sess, h.seq) } })))
  ∧ (∀ (s : State) h g st, Admitted s h (.planCommit h g) → g < 12 → ((s.heard h).grp g).formed = true →
    ((s.heard h).grp g).staged = some st → st.phase = .uploading → st.upload.sess ≠ h.sess →
    Answered s h (.planCommit h g) (s.heard h) .notAuthorised [])
  ∧ (∀ (s : State) h g st, Admitted s h (.planAbort h g) → g < 12 → ((s.heard h).grp g).formed = true →
    ((s.heard h).grp g).staged = some st → Answered s h (.planAbort h g) ((s.heard h).dropStaged g .stale 0) .ok [])
  ∧ (∀ (s : State) g st r x, (s.grp g).staged = some x →
    ((s.dropStaged g st r).grp g).staged = none ∧ (s.dropStaged g st r).usher.computing ≠ some (0, g)
      ∧ (x.origin = none → (s.dropStaged g st r).out = s.out)
      ∧ (∀ sess seq y, x.origin = some (sess, seq) → s.session? sess = some y →
        (s.dropStaged g st r).out = s.out ++ [.reply sess seq st r 0 [] false]))
  ∧ (∀ (s : State) h g, Admitted s h (.planQuery h g) → g < 12 → ((s.heard h).grp g).formed = true →
    ((s.heard h).grp g).current = none →
    Answered s h (.planQuery h g) (s.heard h) .ok [0, ((s.heard h).grp g).kind, 0, 0, ((s.heard h).grp g).tick,
      ((s.heard h).reg (grpReg g Reg.RESERVE_USED)).toNat])
  ∧ (∀ (s base : State) h g code x tick seen (c : Held), c.cmd = .variantForce h g code → (s.session? c.sess).isSome = true →
    g < 12 → (s.grp g).formed = true → code ≤ 3 → ((s.grp g).current.bind (fun p => p.plan.variant code)) = some x →
    State.applyHeld base tick (s, seen) c
      = ((s.updGrp g (fun y => { y with forced := some code })).reply h.sess h.seq .ok 0 tick [], seen))
  ∧ (∀ (s : State) h g, AtOnce s h (.variantForce h g 0xFF) → g < 12 → ((s.heard h).grp g).formed = true →
    Answered s h (.variantForce h g 0xFF) ((s.heard h).updGrp g (fun y => { y with forced := none })) .ok [])
  ∧ (∀ (s : State) h g, AtOnce s h (.planRetire h g) → g < 12 → ((s.heard h).grp g).formed = true →
    (∀ r ∈ (s.heard h).reqs, r.group = g → r.slot = none) →
    Answered s h (.planRetire h g) ((s.heard h).retirePlan g) .ok []
      ∧ (((s.heard h).retirePlan g).grp g).current = none)
  ∧ (∀ (s base : State) h g tick seen (c : Held), c.cmd = .planRetire h g → (s.session? c.sess).isSome = true → g < 12 →
    (s.grp g).formed = true → (∀ r ∈ s.reqs, r.group = g → r.slot = none) →
    State.applyHeld base tick (s, seen) c = ((s.retirePlan g).reply h.sess h.seq .ok 0 tick [], seen))
  ∧ (∀ (s : State) h g r tick seen (c : Held), c.cmd = .planRetire h g → (s.session? c.sess).isSome = true →
    r ∈ s.reqs → r.group = g → r.slot.isSome = true →
    State.applyHeld s tick (s, seen) c = (s.reply h.sess h.seq .conflict 0 tick [], seen))

/-- BALANCE_SET, BALANCE_QUERY and REDUNDANCY_SET (R255, R256, R261, R338, Table 9-11). Points that the spec leaves
open are settled by log 68. -/
def Obligations.BalanceCommands : Prop :=
  (∀ (s : State) h g b, AtOnce s h (.balanceSet h g b) → g < 12 → ((s.heard h).grp g).formed = true → b.cap ≤ 65535 →
    1 ≤ b.chunkMin → b.chunkMin ≤ 4096 → 1 ≤ b.chunkMax → b.chunkMax ≤ 16384 → b.order ≤ 1 → 1 ≤ b.passLimit →
    b.passLimit ≤ 255 →
    Answered s h (.balanceSet h g b) ((s.heard h).updGrp g (fun y => { y with balance := b })) .ok [])
  ∧ (∀ (s : State) h g b, AtOnce s h (.balanceSet h g b) →
    (65535 < b.cap ∨ b.chunkMin = 0 ∨ 4096 < b.chunkMin ∨ b.chunkMax = 0 ∨ 16384 < b.chunkMax ∨ 1 < b.order
      ∨ b.passLimit = 0 ∨ 255 < b.passLimit) →
    Answered s h (.balanceSet h g b) (s.heard h) .conflict [])
  ∧ (∀ (s : State) h g p, Admitted s h (.balanceQuery h g) → g < 12 → ((s.heard h).grp g).formed = true →
    ((s.heard h).grp g).current = some p →
    Answered s h (.balanceQuery h g) (s.heard h) .ok [((s.heard h).grp g).balance.cap, ((s.heard h).grp g).balance.chunkMin,
      ((s.heard h).grp g).balance.chunkMax, ((s.heard h).grp g).balance.order, ((s.heard h).grp g).balance.passLimit,
      p.plan.decodeRows, p.plan.prefillRows, (s.heard h).pairBudget g, ((s.heard h).grp g).rowsLast,
      ((s.heard h).grp g).pairsLast, ((s.heard h).grp g).passesLast])
  ∧ (∀ (s base : State) h g tick seen (c : Held), c.cmd = .redundancySet h g true → (s.session? c.sess).isSome = true →
    g < 12 → (s.grp g).formed = true → (s.grp g).redundant = false → (s.applyFences g).doublePlaces g = true →
    State.applyHeld base tick (s, seen) c
      = ((s.updGrp g (fun x => { x with redundant := true, boundKind := none })).reply h.sess h.seq .ok 0 tick [], seen))
  ∧ (∀ (s : State) h g tick seen (c : Held), c.cmd = .redundancySet h g true → (s.session? c.sess).isSome = true →
    g < 12 → (s.grp g).formed = true → (s.grp g).redundant = false → (s.applyFences g).doublePlaces g = false →
    State.applyHeld s tick (s, seen) c
      = ((s.bump (0x60000 + Reg.UNPLACEABLE) 1).reply h.sess h.seq .unplaceable 0 tick [], seen))
  ∧ (∀ (s : State) h g, AtOnce s h (.redundancySet h g true) → g < 12 → ((s.heard h).grp g).formed = true →
    ((s.heard h).grp g).redundant = false → ((s.heard h).applyFences g).doublePlaces g = false →
    Answered s h (.redundancySet h g true) ((s.heard h).bump (0x60000 + Reg.UNPLACEABLE) 1) .unplaceable [])
  ∧ (∀ (s : State) h g, AtOnce s h (.redundancySet h g false) → g < 12 → ((s.heard h).grp g).formed = true →
    ((s.heard h).grp g).redundant = true →
    Answered s h (.redundancySet h g false)
      ((s.heard h).updGrp g (fun x => { x with redundant := false, boundKind := none })) .ok [])

/-- CORE_FENCE, CORE_UNFENCE, PROBE_LOAD, PROBE_RESULTS, CAL_REQUEST, CAL_CANCEL and CAL_DISCARD (R133, R345, R347,
R349, R351, Table 5-4). Points that the spec leaves open are settled by log 16 and log 70. -/
def Obligations.MaintenanceCommands : Prop :=
  (∀ (s : State) h c, AtOnce s h (.coreFence h c) → c < 576 → (s.heard h).good c = true →
    ((s.heard h).core c).fenced = false → ((s.heard h).core c).causes = 0 → ((s.heard h).core c).due = 0 →
    ∃ t, Answered s h (.coreFence h c) t .ok [] ∧ (t.core c).causes = 2 ∧ (t.core c).fenced = true ∧ (t.core c).due = 0)
  ∧ (∀ (s : State) h c, AtOnce s h (.coreFence h c) → c < 576 → (s.heard h).good c = false →
    Answered s h (.coreFence h c) (s.heard h) .noResource [])
  ∧ (∀ (s : State) h c, AtOnce s h (.coreFence h c) → c < 576 → (s.heard h).good c = true →
    ((s.heard h).core c).fenced = true → Answered s h (.coreFence h c) (s.heard h) .conflict [])
  ∧ (∀ (s : State) h c, AtOnce s h (.coreUnfence h c) → c < 576 → ((s.heard h).core c).fenced = true →
    ((s.heard h).core c).permanent = false → ((s.heard h).core c).testing = false →
    Answered s h (.coreUnfence h c) ((s.heard h).updCore c (fun x => { x with testing := true })) .ok [])
  ∧ (∀ (s : State) h c, AtOnce s h (.coreUnfence h c) → (((s.heard h).core c).fenced = false ∨ ((s.heard h).core c).permanent = true) →
    Answered s h (.coreUnfence h c) (s.heard h) .conflict [])
  ∧ (∀ (s : State) h loc x, Admitted s h (.probeLoad h loc) → (s.heard h).probe.loading = none →
    (s.heard h).session? h.sess = some x →
    Answered s h (.probeLoad h loc) (({ s.heard h with probe := { (s.heard h).probe with
      loading := some ⟨h.sess, h.seq, x.key, loc⟩, fetches := 1 } } : State).send (.nvmeRead loc 4)) .accepted [])
  ∧ (∀ (s : State) h loc, Admitted s h (.probeLoad h loc) → (s.heard h).probe.loading.isSome = true →
    Answered s h (.probeLoad h loc) (s.heard h) .busy [])
  ∧ (∀ (s : State) h pack p, Admitted s h (.probeResults h pack) → (s.heard h).probe.held = some p → p.id = pack →
    Answered s h (.probeResults h pack) (s.heard h) .ok ((List.range 576).flatMap (fun c =>
      [((s.heard h).core c).probeResult,
        if ((s.heard h).core c).probeResult = 2 then ((s.heard h).core c).probeFirst else 0])))
  ∧ (∀ (s : State) h x ks, AtOnce s h (.calRequest h x) → (s.heard h).scopeArrays x = .ok ks →
    ∃ t, Answered s h (.calRequest h x) t .ok [(ks.filter (fun k => ((s.heard h).arr k).cal.run.isNone)).length]
      ∧ (∀ k ∈ ks, ∃ r, (t.arr k).cal.run = some r ∧ r.cls ≤ 3)
      ∧ OnlyChanges [.arrays, .calOrder] (s.heard h) t)
  ∧ (∀ (s : State) h x ks, AtOnce s h (.calCancel h x) → (s.heard h).scopeArrays x = .ok ks →
    ∃ t, Answered s h (.calCancel h x) t .ok [(ks.filter (fun k => ((s.heard h).arr k).cal.hostQueued)).length]
      ∧ (∀ k ∈ ks, ((s.heard h).arr k).cal.hostQueued = true → (t.arr k).cal.run = none)
      ∧ OnlyChanges [.arrays] (s.heard h) t)
  ∧ (∀ (s : State) h x slots ks, AtOnce s h (.calDiscard h x slots) → slots < 16 → (s.heard h).scopeArrays x = .ok ks →
    (∀ k ∈ ks, (((s.heard h).arr k).cal.without slots).isEmpty = false) →
    ∃ t, Answered s h (.calDiscard h x slots) t .ok []
      ∧ (∀ k ∈ ks, ∀ i, slots.testBit i = true → (t.arr k).cal.sets.get? i = none)
      ∧ OnlyChanges [.arrays] (s.heard h) t)
  ∧ (∀ (s : State) h (c : CoreIx) (e : EngIx) b, AtOnce s h (.calRequest h (.array c.val e.val b)) → (s.heard h).good c.val = false →
    Answered s h (.calRequest h (.array c.val e.val b)) (s.heard h) .noResource [])

/-- TELEMETRY_SET, TELEMETRY_QUERY, EVENT_READ, EVENT_NOTIFY, EVT_ACK, TIME_QUERY and EPOCH_SET (R278, R287, R307,
R397). Points that the spec leaves open are settled by log 23 and log 60. -/
def Obligations.TelemetryCommands : Prop :=
  (∀ (s : State) h period mask, AtOnce s h (.telemetrySet h period mask) → period ≤ 65535 → mask < 16 →
    Answered s h (.telemetrySet h period mask) ((s.heard h).updSession h.sess (fun x => { x with
      telPeriod := period, telMask := mask })) .ok [])
  ∧ (∀ (s : State) h mask, Admitted s h (.telemetryQuery h mask) → mask < 16 →
    Answered s h (.telemetryQuery h mask) (s.heard h) .ok ((s.heard h).telemetry mask))
  ∧ (∀ (s : State) h first n, Admitted s h (.eventRead h first n) → 1 ≤ n → n ≤ 128 →
    (∀ r ∈ (s.heard h).nvm.records, r.seq + payloadSlots r.payload.length ≤ first) →
    Answered s h (.eventRead h first n) (s.heard h) .ok [first, sat32 (s.heard h).nvm.dropped])
  ∧ (∀ (s : State) h r n, Admitted s h (.eventRead h r.seq n) → 1 ≤ n → n ≤ 128 → (s.heard h).nvm.records = [r] →
    r.payload.length ≤ 24 →
    Answered s h (.eventRead h r.seq n) (s.heard h) .ok ((r.seq + 1) :: sat32 (s.heard h).nvm.dropped
      :: (r.slots.headD []).map (·.toNat)))
  ∧ (∀ (s : State) h n first, Admitted s h (.eventRead h first n) → (n = 0 ∨ 128 < n) →
    Answered s h (.eventRead h first n) (s.heard h) .conflict [])
  ∧ (∀ (s : State) h sev, Admitted s h (.eventNotify h sev) → sev.getD 0 ≤ 3 →
    Answered s h (.eventNotify h sev) ((s.heard h).updSession h.sess (fun x => { x with notify := sev })) .ok [])
  ∧ (∀ (s : State) h mask, Admitted s h (.evtAck h mask) →
    let v := (s.heard h).reg 0x40008 &&& ~~~(mask &&& ~~~(s.heard h).causesHeld)
    Answered s h (.evtAck h mask) ((s.heard h).setReg 0x40008 v) .ok [v.toNat])
  ∧ (∀ (s : State) h, Admitted s h (.timeQuery h) →
    Answered s h (.timeQuery h) (s.heard h) .ok [(s.heard h).time.ns, (s.heard h).time.ptp,
      ((s.heard h).time.master.map (·.identity)).getD 0, ((s.heard h).time.offset % 2 ^ 64).toNat, (s.heard h).time.epoch])
  ∧ (∀ (s : State) h e, Admitted s h (.epochSet h e) → (s.heard h).anyRuns = false → e < 2 ^ 64 →
    Answered s h (.epochSet h e) { s.heard h with time := { (s.heard h).time with epoch := e } } .ok [])
  ∧ (∀ (s : State) h e, Admitted s h (.epochSet h e) → (s.heard h).anyRuns = true →
    Answered s h (.epochSet h e) (s.heard h) .conflict [])

/-! ### Loads in progress -/

/-- SHARD_FETCH, SHARD_ATTEMPT_TIMEOUT and SHARD_DIGEST_CHECK (R236 to R239): an attempt goes to the next target
in order; the fourth that fails, or one with no target left, fails the load; data whose digest matches verify the
shard, and the last shard completes the load with a notice. -/
def Obligations.ShardEvents : Prop :=
  (∀ (s : State) (g : GroupIx) ident i l p t, s.loading? g.val ident = some l → i < l.manifest.shards.length →
    (l.shards.getD i ShardState.init).verified = false → (l.shards.getD i ShardState.init).active = none →
    l.activeShards.length < 32 → (∀ k, k < i → 0 < (l.shards.getD k ShardState.init).attempts) →
    s.nextTarget l i = some (p, t) →
    ∃ u, exec (.shardFetch g ident i) s = .next u
      ∧ u.loading? g.val ident = some { l with shards := (l.shards.put i
        { (l.shards.getD i ShardState.init) with
          attempts := (l.shards.getD i ShardState.init).attempts + 1, active := some t
          tried := (l.shards.getD i ShardState.init).tried ++ [t], pos := p + 1 }) }
      ∧ (u.inst g.val).shardAttempts = (s.inst g.val).shardAttempts + 1
      ∧ u.out = s.out ++ (shardReads t (l.manifest.shards.getD i ⟨0, [], [], 0, 0⟩)).map (fun r => .nvmeRead r 4)
      ∧ OnlyKeys [g.val] s.insts u.insts ∧ OnlyChanges [.insts, .out, .wire, .wide] s u)
  ∧ (∀ t (e : ShardEnt), ∀ r ∈ shardReads t e, r.target = t ∧ r.ns = e.ns ∧ 0 < r.len ∧ r.len ≤ 2 ^ 20)
  ∧ (∀ t (e : ShardEnt), sumNats ((shardReads t e).map (·.len)) = e.len)
  ∧ (∀ (s : State) (g : GroupIx) ident i l t, s.loading? g.val ident = some l →
    (l.shards.getD i ShardState.init).active = some t →
    exec (.shardAttemptTimeout g ident i) s = .next (s.attemptFails g.val ident i false))
  ∧ (∀ (s : State) (g : GroupIx) ident i l, s.loading? g.val ident = some l →
    (l.shards.getD i ShardState.init).active = none → exec (.shardAttemptTimeout g ident i) s = .next s)
  ∧ (∀ (s : State) g ident i l b, s.loading? g ident = some l → i < l.manifest.shards.length →
    (l.shards.getD i ShardState.init).verified = false → 4 ≤ (l.shards.getD i ShardState.init).attempts →
    (∀ k, k < i → s.hopeless l k = false) →
    s.attemptFails g ident i b = (s.setLoad g ident { l with shards := (l.shards.put i
      { (l.shards.getD i ShardState.init) with active := none, mismatch := b }) }).failLoad g ident
        (if b then .digestMismatch else .shardMissing) (some i))
  ∧ (∀ (s : State) (g : GroupIx) ident i data l t, s.loading? g.val ident = some l →
    (l.shards.getD i ShardState.init).active = some t →
    Crypto.sha256 data ≠ (l.manifest.shards.getD i ⟨0, [], [], 0, 0⟩).digest →
    exec (.shardDigestCheck g ident i data) s = .next (s.attemptFails g.val ident i true))
  ∧ (∀ (s : State) (g : GroupIx) i data l t s1 l2, s.loading? g.val none = some l →
    (l.shards.getD i ShardState.init).active = some t →
    data.length = (l.manifest.shards.getD i ⟨0, [], [], 0, 0⟩).len →
    Crypto.sha256 data = (l.manifest.shards.getD i ⟨0, [], [], 0, 0⟩).digest →
    s.convertReady g.val none i { l with
      shards := (l.shards.put i { (l.shards.getD i ShardState.init) with active := none, verified := true })
      data := l.data.put i data } = some (s1, l2) →
    (l2.complete = false → exec (.shardDigestCheck g none i data) s = .next (s1.setLoad g.val none l2))
    ∧ (l2.complete = true → ∃ u, exec (.shardDigestCheck g none i data) s = .next u
        ∧ (u.inst g.val).next = (((s1.notice l2.sess 0x22 l2.origin .ok
            [g.val, 0, 0xFFFF, ShardState.init.attempts, ShardState.init.lastTarget]).inst g.val).next).map
              (fun x => { x with phase := .loaded, load := l2 })))

/-- PLAN_VERIFICATION_END (R148): a committed plan whose digest differs is rejected with ST_DIGEST_MISMATCH, one that
every check accepts awaits the computation of its bindings and then a boundary (R149, R190), and nothing happens while
none is being verified. A rejection shows in the registers of a group with boundaries in its window (R167). Points
that the spec leaves open are settled by log 147 and log 148. -/
def Obligations.PlanVerification : Prop :=
  (∀ (s : State) (g : GroupIx) st bs, (s.grp g.val).staged = some st → st.phase = .verifying → st.upload.bytes = some bs →
    Crypto.sha256 bs ≠ st.upload.digest →
    exec (.planVerificationEnd g) s = .next (s.rejectPlan g.val .digestMismatch noRecord))
  ∧ (∀ (s : State) (g : GroupIx) st bs x usable p, (s.grp g.val).staged = some st → st.phase = .verifying →
    st.upload.bytes = some bs → Crypto.sha256 bs = st.upload.digest → s.session? st.upload.sess = some x →
    verifyPlan bs ((List.range 8).filter x.plans.testBit) (s.grp g.val).chans.length (s.grp g.val).slots
      (s.bindingOk g.val) s.pkgThrottle = (.accept usable, some p) →
    exec (.planVerificationEnd g) s = .next (s.updGrp g.val (fun y => { y with staged := some { st with
      phase := .verified, since := s.time.ns
      plan := some ⟨p, st.upload.digest, st.upload.len, usable, s.pkgThrottle⟩, computed := false } })).startCompute)
  ∧ (∀ (s : State) (g : GroupIx) st bs x r p, (s.grp g.val).staged = some st → st.phase = .verifying →
    st.upload.bytes = some bs → Crypto.sha256 bs = st.upload.digest → s.session? st.upload.sess = some x →
    verifyPlan bs ((List.range 8).filter x.plans.testBit) (s.grp g.val).chans.length (s.grp g.val).slots
      (s.bindingOk g.val) s.pkgThrottle = (.invalid r, p) →
    exec (.planVerificationEnd g) s = .next (s.rejectPlan g.val .planInvalid r))
  ∧ (∀ (s : State) (g : GroupIx), (s.grp g.val).staged = none → exec (.planVerificationEnd g) s = .next s)
  ∧ (∀ (s : State) g st record x sess seq, (s.grp g).staged = some x → x.origin = some (sess, seq) →
    (∃ y, s.session? sess = some y) →
    ((s.rejectPlan g st record).grp g).staged = none
      ∧ (s.rejectPlan g st record).out
        = s.out ++ [.reply sess seq st (if st = .planInvalid then record else 0) 0 [] false])
  ∧ (∀ (s : State) g st record, (s.grp g).staged = none → (s.grp g).ticking = true →
    ((s.rejectPlan g st record).grp g).rejects = (s.grp g).rejects ++ [(st.code, record)]
      ∧ (s.rejectPlan g st record).regs = s.regs)

/-! ### The tick -/

/-- BOUNDARY_MARK_SEND, BOUNDARY_MARK_RESEND and GROUP_TICK_BOUNDARY (R19, R23, R136, R137): the master sends the mark
of the next boundary once, on the data mesh for cores that the control segments do not reach (R185), and again there
where a core has not acknowledged it; a boundary at which the tick still runs is skipped and counted as an overrun,
and any other runs its window in the order of Table 6-1: the completed tick is closed, the arrays are calibrated,
commands and register writes take effect, plan, variant and binding are settled, and the tick starts. Points that the
spec leaves open are settled by log 46 and log 47. -/
def Obligations.BoundaryEvents : Prop :=
  (∀ (s : State) (g : GroupIx) lost b, s.boundaryOf g.val = some b → s.serving = true → (s.grp g.val).markSent = false →
    exec (.boundaryMarkSend g lost) s = .next ((s.updGrp g.val (fun x => { x with
      markSent := true
      unmarked := (s.groupCores g.val).filter (lost.map (·.val)).contains })).sendMarks g.val b))
  ∧ (∀ (s : State) g b, (∀ c ∈ s.groupCores g, s.coreOnMesh c = false) →
    s.sendMarks g b = s.send (.mark g (s.tickNumber g b) (s.grp g).kind false))
  ∧ (∀ (s : State) g b, s.groupCores g ≠ [] → (∀ c ∈ s.groupCores g, s.coreOnMesh c = true) →
    s.sendMarks g b = s.send (.mark g (s.tickNumber g b) (s.grp g).kind true))
  ∧ (∀ (s : State) (g : GroupIx) lost b, s.boundaryOf g.val = some b → s.serving = true → (s.grp g.val).markSent = true →
    (s.grp g.val).unmarked ≠ [] →
    exec (.boundaryMarkResend g lost) s = .next ((s.updGrp g.val (fun x => { x with
      unmarked := x.unmarked.filter (lost.map (·.val)).contains })).send
        (.mark g.val (s.tickNumber g.val b) (s.grp g.val).kind true)))
  ∧ (∀ (s : State) (g : GroupIx) b, s.boundaryOf g.val = some b → s.serving = true → (s.grp g.val).running = true →
    (s.grp g.val).overrun = false →
    ∃ t, exec (.groupTickBoundary g) s = .next t ∧ (t.grp g.val).overrun = true ∧ (t.grp g.val).running = true
      ∧ (t.grp g.val).tick = (s.grp g.val).tick ∧ t.time = { s.time with ns := max s.time.ns b }
      ∧ (t.reg (grpReg g.val Reg.OVERRUNS)).toNat = min 0xFFFFFFFF ((s.reg (grpReg g.val Reg.OVERRUNS)).toNat + 1)
      ∧ OnlyChanges [.groups, .regs, .time] s t)
  ∧ (∀ (s : State) (g : GroupIx) b, s.boundaryOf g.val = some b → s.serving = true → (s.grp g.val).running = false →
    exec (.groupTickBoundary g) s
      = .next (({ s with time := { s.time with ns := max s.time.ns b } } : State).window g.val b))
  ∧ (∀ (s : State) (g : GroupIx), s.boundaryOf g.val = none → exec (.groupTickBoundary g) s = .next s)
  ∧ (∀ (s : State) g b, let n := s.tickNumber g b
    let s2 := ((((s.closeTick g).updGrp g (fun x => { x with tick := n, boundary := b })).calibrateGroup g).commandStep g n b).showRejects g
    (s2.grp g).formed = true →
    s.window g b = ((((((s2.placeStep g n).sweepOver).updGrp g (fun x => { x with
      next := ((s2.placeStep g n).sweepOver).nextBoundary g b })).startTick g).snapCtxs g).snapQuote).flushHeld)
  ∧ (∀ (s : State) g, (s.grp g).current = none → s.startTick g = s.updGrp g (fun y => { y with unmarked := [], markSent := false }))
  ∧ (∀ (s : State) g, (s.grp g).suspended = true →
    s.startTick g = s.updGrp g (fun y => { y with unmarked := [], markSent := false }))

/-- A boundary command waits where its group has boundaries; those received at least 200 µs before a boundary, and
whose tag names a tick not later than its, are applied at it in the order of receive timestamp, session and sequence,
each on what those before it left, and one that they caused to fail is answered ST_STALE (R277, R279, R280). Points
that the spec leaves open are settled by log 16 and log 67. -/
def Obligations.BoundaryOrder : Prop :=
  (∀ (x : Held) g tick b, x.due g tick b = true ↔
    (x.awaiting = false ∧ (x.group = some g ∨ x.group = none) ∧ x.rx + 200000 ≤ b ∧ x.tag ≤ tick))
  ∧ (∀ (l : List Held), (sortBy heldOrder l).Perm l)
  ∧ (∀ (l : List Held), (sortBy heldOrder l).Pairwise (fun a b => heldOrder b a = false))
  ∧ (∀ (s : State) h i o, Admitted s h i → opInfo i = some o → o.boundary = true → submitOf i = none →
    (s.heard h).mustWait i h.tag = true →
    exec i s = .next { s.heard h with held := (s.heard h).held ++ [⟨(s.heard h).time.ns, h.sess, h.seq, h.tag, i, false,
      (s.heard h).time.ns, (s.heard h).concerns i⟩] })
  ∧ (∀ (s base : State) tick seen (x : Held) o, opInfo x.cmd = some o → (s.session? x.sess).isSome = true →
    s.replaces x.cmd = none → (runHost s x.cmd).done = true →
    State.applyHeld base tick (s, seen) x = ((runHost s x.cmd).send o.h tick, seen))
  ∧ (∀ (s base : State) tick seen (x : Held) o, opInfo x.cmd = some o → (s.session? x.sess).isSome = true →
    s.replaces x.cmd = none → (runHost s x.cmd).done = false → (runHost base x.cmd).done = true →
    State.applyHeld base tick (s, seen) x = (s.reply x.sess x.seq .stale 0 tick [], seen))

/-- MAINTENANCE_WINDOW, TICK_COMPLETE and FRAME (R21, R22, R94, R155, R251 to R253, R282 to R284): the engines whose
plan work is done take maintenance work, and a tick completes once the work of its plan is done and every sequence has
its token. Points that the spec leaves open are settled by log 41 and log 95. -/
def Obligations.TickEvents : Prop :=
  (∀ (s : State) (g : GroupIx) v, (s.grp g.val).variant = some v → (s.grp g.val).ticked = true →
    (s.grp g.val).maint = false → v.maint ≠ 0 →
    ∃ t, exec (.maintenanceWindow g) s = .next t ∧ (t.grp g.val).maint = true
      ∧ (∀ c ∈ s.groupCores g.val, (t.core c).maint = true)
      ∧ (∀ c ∈ s.groupCores g.val, ∀ e, e < 16 → (t.grp g.val).idleEngs.get? (16 * c + e)
        = if s.engineDone g.val (16 * c + e) then some v.maint else none)
      ∧ OnlyChanges [.groups, .cores] s t)
  ∧ (∀ (s : State) (g : GroupIx) clock, (s.grp g.val).running = true → s.workDone g.val = true → s.tokensDone g.val = true →
    ∃ t, exec (.tickComplete g clock) s = .next t ∧ (t.grp g.val).running = false ∧ (t.grp g.val).doneClk = clock
      ∧ (∀ e ∈ t.ended, e.group = g.val → e.reported = true))
  ∧ (∀ (s : State) (g : GroupIx) clock, ((s.grp g.val).running = false ∨ s.workDone g.val = false ∨ s.tokensDone g.val = false) →
    exec (.tickComplete g clock) s = .next s)
  ∧ (∀ (s : State) (g : GroupIx) sess x, (s.grp g.val).running = true → sess ∈ s.frameSessions g.val →
    sess ∉ (s.grp g.val).framed → s.samplingDone g.val sess = true → s.session? sess = some x →
    ∃ t, exec (.frame g sess) s = .next t ∧ sess ∈ (t.grp g.val).framed
      ∧ (∀ e ∈ t.ended, e.group = g.val → e.sess = sess → e.reported = true))
  ∧ (∀ (s : State) (r : Req) token, r.ending ≠ some 5 → r.f.stops.contains token = true → s.endReason r token = some 0)
  ∧ (∀ (s : State) (r : Req) token, r.ending ≠ some 5 → r.f.stops.contains token = false → r.f.ignoreEnd = true →
    r.f.maxNew ≤ r.sent + 1 → s.endReason r token = some 1)

/-! ### Serving -/

/-- BALANCER_CHOOSE_ROWS (R255 to R257): the rows chosen together keep to the group's cap and to the free prefill
and decode rows of its plan, and no request gets more than the largest chunk. -/
def Obligations.BalancerLimits : Prop :=
  (∀ (s : State) (g : GroupIx) pl, (s.grp g.val).current = some pl → (s.grp g.val).running = true →
    (s.grp g.val).lastPhase = true →
    ∃ t, exec (.balancerChooseRows g) s = .next t
      ∧ sumNats ((t.grp g.val).chosen.map (·.rows)) ≤ min (s.grp g.val).balance.cap
        (pl.plan.prefillRows + (pl.plan.decodeRows - (s.reqs.filter (fun r => r.group == g.val && r.slot.isSome)).length))
      ∧ (∀ a ∈ (t.grp g.val).chosen, 0 < a.rows ∧ a.rows ≤ (s.grp g.val).balance.chunkMax)
      ∧ (t.grp g.val).rowsLast = sumNats ((t.grp g.val).chosen.map (·.rows))
      ∧ (t.grp g.val).pairsLast ≤ s.pairBudget g.val
      ∧ OnlyChanges [.groups, .reqs] s t)
  ∧ (∀ (s : State) (g : GroupIx), (s.grp g.val).current = none → exec (.balancerChooseRows g) s = .next s)

/-- SAMPLE (R21, R258 to R260): a seated sequence of the running tick draws its token from the logits its cores hold,
once, as the records of those cores issue; with a temperature of 0 the token is that of the largest penalised logit.
Points that the spec leaves open are settled by log 14. -/
def Obligations.Sampling : Prop :=
  (∀ (s : State) (g : GroupIx) sess req (c : CoreIx) v r token, s.req? sess req = some r → r.group = g.val →
    r.slot.isSome = true → r.token = none → (s.grp g.val).running = true → (s.grp g.val).lastPhase = true →
    s.mayIssue c.val clsSample 0 = true →
    r.draw ((s.vreg c.val v).zipIdx.map (fun x => (0 + x.2, r.penalised (0 + x.2) x.1)))
      (((s.ctx? r.f.ctx).map (fun c => c.length + c.grow.length)).getD 0) = some token →
    ∃ t q, exec (.sample g sess req [(c, v)]) s = .next t ∧ t.req? sess req = some q ∧ q.token = some token
      ∧ q.counts = (r.count token).counts ∧ q.sent = r.sent ∧ OnlyChanges [.reqs, .regs, .cores] s t)
  ∧ (∀ (s : State) (g : GroupIx) sess req l r, s.req? sess req = some r → r.token.isSome = true →
    ∃ t, exec (.sample g sess req l) s = .next t ∧ OnlyChanges [.cores] s t)
  ∧ (∀ (s : State) (g : GroupIx) sess req l p, p ∈ l → s.mayIssue p.1.val clsSample 0 = false →
    exec (.sample g sess req l) s = .next s)
  ∧ (∀ (r : Req) l pos top, (fpValue r.f.temperature).num = 0 → argMax l = some top → r.draw l pos = some top.1)
  ∧ (∀ (r : Req) l pos, argMax l = none → r.draw l pos = none)

/-- CTX_SUSPEND_COMPLETE and CTX_RESTORE_COMPLETE (R218, R245, R248): a suspended context is freed once it is written;
a restored one takes its place under its new group, key and tenant, or its index is free again. Points that the spec
leaves open are settled by log 35. -/
def Obligations.ContextMoves : Prop :=
  (∀ (s : State) i leftOut c, s.ctx? i = some c → c.state = .suspending →
    ∃ t, exec (.ctxSuspendComplete i leftOut) s = .next t ∧ t.contexts = s.contexts.del i ∧ t.mem = s.mem
      ∧ (∀ sess seq x, c.origin = some (sess, seq) → s.session? sess = some x →
        (.reply sess seq .ok 0 0 [] false) ∈ t.out))
  ∧ (∀ (s : State) i leftOut c, s.ctx? i = some c → c.state ≠ .suspending →
    exec (.ctxSuspendComplete i leftOut) s = .next s)
  ∧ (∀ (s : State) i bad c, s.ctx? i = some c → c.state = .restoring →
    ∃ t, exec (.ctxRestoreComplete i none bad) s = .next t ∧ t.contexts = s.contexts.del i
      ∧ (∀ sess seq x, c.origin = some (sess, seq) → s.session? sess = some x →
        t.out = s.out ++ [.reply sess seq .noResource 0 0 [] false]))
  ∧ (∀ (s : State) i b bad c x start, s.ctx? i = some c → c.state = .restoring →
    s.targetUsable c.backing.target c.backing.ns = true → s.contextOf c.group b = some (x, start) →
    x.key = c.key → x.tenant = c.tenant → x.group = c.group → 6 ≤ x.budget → x.budget ≤ 512 →
    s.reserveGranules { x with homeDie := c.homeDie } ≤ s.dieFree c.group c.homeDie →
    ∃ t y, exec (.ctxRestoreComplete i (some b) bad) s = .next t ∧ t.ctx? i = some y ∧ y.key = c.key
      ∧ y.tenant = c.tenant ∧ y.group = c.group ∧ y.length = x.length ∧ y.chain = x.chain ∧ y.tail = x.tail
      ∧ y.budget = x.budget ∧ y.ptBase = c.ptBase ∧ y.origin = none ∧ (y.state = .idle ∨ y.state = .stale))

/-! ### Loading and firing (Chapters 2 to 4) -/

/-- LOAD and LOAD_REREAD (R17, R22, R57, R60, R69, R97, R192, R335, R337, R338, R412): in its record's turn a tile
read without error is written, with its rows under the array's repair maps; one with granules that are uncorrectable
or corrupt awaits their re-reads, and a second failure empties the array and poisons the granule; a load whose tile is
not described, or whose reads are never answered, leaves its array empty; an address beyond the stacks stops. Points
that the spec leaves open are settled by log 106 and log 141. -/
def Obligations.Loads : Prop :=
  (∀ (s : State) d late n x, s.loadOpen d = true → s.entryLost d = false → d.kv = none → n ≤ 4 →
    (∀ a ∈ s.loadAddrs d, a < deviceGranules ∧ s.poison.contains a = false) →
    corruptGranules d.fmt ((s.loadAddrs d).map s.granule) = [] →
    decodeTile d.fmt ((s.loadAddrs d).map s.granule) = some x →
    ∃ t w, exec (.load d [] late n) s = .next t
      ∧ (t.arr (arrKey d.core d.eng d.arrB)).phase = .loaded
      ∧ (t.arr (arrKey d.core d.eng d.arrB)).cells = loadCells (s.arr (arrKey d.core d.eng d.arrB)).cal d.fmt x.1
      ∧ (t.arr (arrKey d.core d.eng d.arrB)).cal = (s.arr (arrKey d.core d.eng d.arrB)).cal
      ∧ (t.arr (arrKey d.core d.eng d.arrB)).reread = none
      ∧ (t.arr (arrKey d.core d.eng d.arrB)).tile = some w ∧ w.fmt = d.fmt ∧ w.half = d.half ∧ w.scales = x.2.2.1
      ∧ w.listE8 = x.2.2.2.1 ∧ w.list = x.2.2.2.2 ∧ w.desc = d
      ∧ ((s.groupOf d.core.val).twins = [] → OnlyKeys [arrKey d.core d.eng d.arrB] s.arrays t.arrays)
      ∧ OnlyKeys [d.core.val] s.cores t.cores
      ∧ OnlyChanges [.arrays, .cores, .groups, .regs, .wide, .recorder, .nvm] s t)
  ∧ (∀ (s : State) d errs late n r, s.loadOpen d = true → s.entryLost d = false → d.kv = none → n ≤ 4 →
    (∀ a ∈ s.loadAddrs d, a < deviceGranules) →
    r = s.loadRead (s.loadAddrs d) (errs.filter (fun e =>
      (s.freshAddrs d false).contains ((s.loadAddrs d).getD e.idx 0))) → r.any (fun p => p.1.isNone) = true →
    ∃ t y, exec (.load d errs late n) s = .next t
      ∧ (t.arr (arrKey d.core d.eng d.arrB)).phase = .loading ∧ (t.arr (arrKey d.core d.eng d.arrB)).tile = none
      ∧ (t.arr (arrKey d.core d.eng d.arrB)).reread = some y ∧ y.desc = d ∧ y.got = r.map (·.1)
      ∧ (∀ i, i ∈ y.todo ↔ (r.map (·.1))[i]? = some none)
      ∧ OnlyKeys [arrKey d.core d.eng d.arrB] s.arrays t.arrays ∧ OnlyKeys [d.core.val] s.cores t.cores
      ∧ OnlyChanges [.arrays, .cores, .groups, .regs, .wide] s t)
  ∧ (∀ (s : State) d late n, s.loadOpen d = true → s.entryLost d = false → d.kv = none → n ≤ 4 →
    (∀ a ∈ s.loadAddrs d, a < deviceGranules ∧ s.poison.contains a = false) →
    corruptGranules d.fmt ((s.loadAddrs d).map s.granule) ≠ [] →
    ∃ t y, exec (.load d [] late n) s = .next t ∧ (t.arr (arrKey d.core d.eng d.arrB)).phase = .loading
      ∧ (t.arr (arrKey d.core d.eng d.arrB)).reread = some y ∧ y.desc = d
      ∧ y.todo = corruptGranules d.fmt ((s.loadAddrs d).map s.granule)
      ∧ OnlyChanges [.arrays, .cores, .groups, .regs, .wide] s t)
  ∧ (∀ (s : State) d errs late n, s.loadOpen d = true → s.entryLost d = true →
    ∃ t, exec (.load d errs late n) s = .next t ∧ (t.arr (arrKey d.core d.eng d.arrB)).phase = .empty
      ∧ (t.arr (arrKey d.core d.eng d.arrB)).tile = none ∧ (t.arr (arrKey d.core d.eng d.arrB)).abandoned = true
      ∧ t.reqs = (s.degrade d.feeds).reqs ∧ OnlyChanges [.arrays, .cores, .reqs, .regs, .recorder, .nvm] s t)
  ∧ (∀ (s : State) d errs late n a, s.loadOpen d = true → s.entryLost d = false →
    (s.loadAddrs d).find? (fun a => decide (deviceGranules ≤ a)) = some a →
    exec (.load d errs late n) s = .fault (.noSuchGranule a))
  ∧ (∀ (s : State) d errs late n, s.loadOpen d = true → s.entryLost d = false → (∀ a ∈ s.loadAddrs d, a < deviceGranules) →
    4 < n →
    ∃ t, exec (.load d errs late n) s = .next t ∧ (t.arr (arrKey d.core d.eng d.arrB)).phase = .empty
      ∧ (t.arr (arrKey d.core d.eng d.arrB)).tile = none ∧ t.reqs = (s.degrade d.feeds).reqs
      ∧ (t.reg (Blk.usher.at Reg.E2E_RESENDS)).toNat = min 0xFFFFFFFF ((s.reg (Blk.usher.at Reg.E2E_RESENDS)).toNat + 4)
      ∧ (t.reg (Blk.usher.at Reg.E2E_FAILED)).toNat = min 0xFFFFFFFF ((s.reg (Blk.usher.at Reg.E2E_FAILED)).toNat + 1)
      ∧ OnlyKeys [arrKey d.core d.eng d.arrB] s.arrays t.arrays
      ∧ OnlyChanges [.arrays, .cores, .reqs, .regs, .recorder, .nvm] s t)
  ∧ (∀ (s : State) d errs late n, s.loadOpen d = false → exec (.load d errs late n) s = .next s)
  ∧ (∀ (s : State) (c : CoreIx) (e : EngIx) (b : Bool) errs stall,
    (s.unitRuns c.val = true →
      exec (.loadReread c e b errs stall) s = .next ((s.reread c.val e.val b errs stall).resume c.val))
    ∧ (s.unitRuns c.val = false → exec (.loadReread c e b errs stall) s = .next s))
  ∧ (∀ (s : State) c, (∀ e, e < 16 → (s.eng (c * 16 + e)).run = []) → (∀ k, (s.tile c k).held = []) → s.resume c = s)
  ∧ (∀ (s : State) (c : CoreIx) (e : EngIx) (b : Bool) errs stall r i j rest v f,
    (s.arr (arrKey c e b)).reread = some r → r.todo = i :: j :: rest →
    s.readOnce ((s.loadAddrs r.desc).getD i 0) errs = (some v, f) →
    ∃ t, t = s.reread c.val e.val b errs stall
      ∧ (t.arr (arrKey c e b)).reread = some ⟨r.desc, r.got.set i (some v), j :: rest⟩
      ∧ OnlyKeys [arrKey c e b] s.arrays t.arrays ∧ OnlyChanges [.arrays, .regs, .wide, .groups, .cores] s t)
  ∧ (∀ (s : State) (c : CoreIx) (e : EngIx) (b : Bool) errs stall r i v f,
    (s.arr (arrKey c e b)).reread = some r → r.todo = [i] →
    s.readOnce ((s.loadAddrs r.desc).getD i 0) errs = (some v, f) →
    ∃ t, s.reread c.val e.val b errs stall = t.loadFinish r.desc (r.got.set i (some v))
      ∧ OnlyChanges [.regs, .wide, .groups, .cores] s t)
  ∧ (∀ (s : State) (c : CoreIx) (e : EngIx) (b : Bool) errs stall r i rest,
    (s.arr (arrKey c e b)).reread = some r → r.desc.core = c → r.desc.eng = e → r.desc.arrB = b →
    r.todo = i :: rest → (s.readOnce ((s.loadAddrs r.desc).getD i 0) errs).1 = none →
    ∃ t, t = s.reread c.val e.val b errs stall ∧ (t.arr (arrKey c e b)).phase = .empty
      ∧ (t.arr (arrKey c e b)).tile = none ∧ (t.arr (arrKey c e b)).abandoned = true
      ∧ (s.loadAddrs r.desc).getD i 0 ∈ t.poison)

/-- What one fire of an array gives (R37 to R39, R42, R45 to R47, R49, R102): the readings of the driven rows, held to
the converter's range and corrected, combined, with the checksum and reference tests; the Weir flags instead where a
chain collects too much, and exactly 0 for a block of zeros under zero detection. Points that the spec leaves open are
settled by log 7. -/
def Obligations.FireReadings : Prop :=
  (∀ (s : State) op (w : Tile) (l : List Elem) env, (driven l 0 256).isEmpty = true → s.zeroDetect op = true →
    s.fireOnce op w l env = (some ⟨List.replicate w.fmt.outs 0, false, false, 0⟩, s.engBump op Reg.ZERO_SKIPS 1))
  ∧ (∀ (s : State) op (w : Tile) (l : List Elem) env, ((driven l 0 256).isEmpty && s.zeroDetect op) = false →
    weirFlags (s.arr op.key) (driven l 0 256) ++ env.faults ≠ [] →
    ∃ t, s.fireOnce op w l env = (none, t)
      ∧ (t.reg (engReg op.core.val op.eng.val Reg.WEIR_FLAGS)).toNat
        = min 0xFFFFFFFF ((s.reg (engReg op.core.val op.eng.val Reg.WEIR_FLAGS)).toNat + 1)
      ∧ OnlyChanges [.engines, .regs, .wide] s t)
  ∧ (∀ (s : State) op (w : Tile) (l : List Elem) env, ((driven l 0 256).isEmpty && s.zeroDetect op) = false →
    weirFlags (s.arr op.key) (driven l 0 256) = [] → env.faults = [] → env.store = [] →
    ∃ h t, s.fireOnce op w l env = (some h, t) ∧ h.counts.length = w.fmt.outs
      ∧ (∀ j, j < w.fmt.outs → h.counts.getD j 0
          = combineOne w.fmt (((List.range 530).map (fun c => corrected (s.arr op.key).cal c
              (clampInt (((chains (s.arr op.key) (driven l 0 256) c).1 : Int) - (chains (s.arr op.key) (driven l 0 256) c).2
                + devAt env.dev c) (-1023) 1023))).drop (j * w.fmt.colsPer) |>.take w.fmt.colsPer)
            + (if w.half = .low then 8 * refExpected (driven l 0 256) 0 else 0))
      ∧ h.cs = decide ((s.arr op.key).cal.csTol < (csResidual w.fmt (readings (s.arr op.key) (driven l 0 256) env.dev)
          (combine w.fmt (readings (s.arr op.key) (driven l 0 256) env.dev))).natAbs)
      ∧ (h.ref = true ↔ ∃ k, k < 8 ∧ k ∉ (s.arr op.key).cal.drift.mask ∧ (s.arr op.key).cal.refTol
          < ((readings (s.arr op.key) (driven l 0 256) env.dev).getD (522 + k) 0
              - refExpected (driven l 0 256) k).natAbs)
      ∧ OnlyChanges [.engines, .arrays, .regs, .wide] s t)
  ∧ (∀ (a : ArrayState) act c b, (c, b) ∈ weirFlags a act ↔ c < 530
      ∧ (if 1023 < (chains a act c).1 then b = false else b = true ∧ 1023 < (chains a act c).2))

/-- R102: a reading is corrected by the gains and offsets of its column and of its array's drift, exactly, and rounded
once to nearest with ties to even; it is corrected before combination, is not held to the converter's range, and
leaves the Weir's decision alone. -/
def Obligations.CorrectedReading : Prop :=
  (∀ (cal : ArrayCal) c (d n : Int), n = (4 * d - ((colVal cal c).o + cal.drift.oA)) * ((colVal cal c).g * cal.drift.gA) →
    2 * (corrected cal c d * 2 ^ 32 - n).natAbs ≤ 2 ^ 32
      ∧ (2 * (corrected cal c d * 2 ^ 32 - n).natAbs = 2 ^ 32 → corrected cal c d % 2 = 0))
  ∧ (∀ (cal : ArrayCal) c d, (colVal cal c).g = 0x8000 → (colVal cal c).o = 0 → cal.drift.gA = 0x8000 → cal.drift.oA = 0 →
    corrected cal c d = d)
  ∧ (∀ (cal : ArrayCal) c, (colVal cal c).g = 0xFFFF → (colVal cal c).o = 0 → cal.drift.gA = 0x8000 → cal.drift.oA = 0 →
    corrected cal c 1023 = 2046)
  ∧ (∀ (a : ArrayState) act dev c, c < 530 →
    (readings a act dev)[c]? = some (corrected a.cal c (rawReading a act dev c)))
  ∧ (∀ (a : ArrayState) f act dev, (evaluate a f .none act (readings a act dev)).counts = combine f (readings a act dev))
  ∧ (∀ (a : ArrayState) act x y,
    weirFlags { a with cal := { a.cal with inForce := x, drift := y } } act = weirFlags a act)

/-- Delivery of a fire's counts (R63, R84, R85, R100): outside compatibility mode each tile takes one member, whose
lanes are the exact sums of the aligned terms, and nothing is added to its lanes yet; in compatibility mode the counts
go to the accumulate group of the engine. Points that the spec leaves open are settled by log 117 and log 124. -/
def Obligations.FireDelivery : Prop :=
  (∀ (s : State) op (w : Tile) (x : Shot) counts k m d, s.compat op.core.val = false → (k, m, d) ∈ s.members op w x counts →
    ((s.deliverFire op w x counts).tile op.core.val k).members = (s.tile op.core.val k).members ++ [m]
    ∧ ((s.deliverFire op w x counts).tile op.core.val k).ufl = ((s.tile op.core.val k).ufl || d)
    ∧ ((s.deliverFire op w x counts).tile op.core.val k).lanes = (s.tile op.core.val k).lanes)
  ∧ (∀ (s : State) op (w : Tile) (x : Shot) counts k, s.compat op.core.val = false →
    (∀ p ∈ s.members op w x counts, p.1 ≠ k) →
    (s.deliverFire op w x counts).tile op.core.val k = s.tile op.core.val k)
  ∧ (∀ (s : State) op (w : Tile) (x : Shot) counts, s.compat op.core.val = true →
    ((s.deliverFire op w x counts).core op.core.val).acc.getD (op.eng.val / 4) accZero
      = addLists ((s.core op.core.val).acc.getD (op.eng.val / 4) accZero)
        ((accTerms (s.fireInput op w x) counts).map (·.i)))
  ∧ (∀ (s : State) op (w : Tile) (x : Shot) counts,
    OnlyKeys [op.core.val] s.cores (s.deliverFire op w x counts).cores
    ∧ OnlyChanges [.cores, .regs] s (s.deliverFire op w x counts))
  ∧ (∀ (l : List Term) w, (∀ y ∈ l, y.i = 0 ∨ w ≤ y.p) →
    (alignLane l w).1 = sumInts (l.map (fun y => y.i * (2 ^ (y.p - w).toNat : Nat))) ∧ (alignLane l w).2.1 = false)
  ∧ (∀ (y : Term) w, y.i ≠ 0 → y.p < w → (y.align w).1 = 0 ∧ (y.align w).2.1 = true)

/-- FIRE, FIRE_PAIR and FIRE_DENSE (R48, R52, R55, R60, R61, R77, R101, R105 to R107, R338, R339): in its record's
turn a fire that is not flagged and passes its tests is delivered; one that is flagged awaits its split, one that
fails or departs from its twin awaits its replay (dropped, R107, where step replays are pending for all of its tiles),
a wide block awaits its nibble pair, and an array without its tile contributes zeros. Points that the spec leaves open
are settled by log 104, log 123 and log 125. -/
def Obligations.FireCommands : Prop :=
  (∀ (s : State) op env twin w u h t, FireStarts s op clsFire { op with dense := false } w (s.entry op) u →
    (s.entry op).wide = false →
    u.fireHalf { op with dense := false } w (s.entry op).elems [env] = (some h, t) → t.twinOf op.core.val = none →
    ((h.cs || h.ref) = false ∨ t.stepsPend op w.fmt.outs [] = true) →
    exec (.fire op env twin) s = .next (t.deliverFire { op with dense := false } w (s.entry op).shot h.counts))
  ∧ (∀ (s : State) op env twin w u h t, FireStarts s op clsFire { op with dense := false } w (s.entry op) u →
    (s.entry op).wide = false →
    u.fireHalf { op with dense := false } w (s.entry op).elems [env] = (some h, t) → t.twinOf op.core.val = none →
    (h.cs || h.ref) = true → t.stepsPend op w.fmt.outs [] = false →
    exec (.fire op env twin) s = .next (t.queueReplay ⟨{ op with dense := false }, if h.cs then 2 else 3, s.entry op,
      (s.entry op).shot, (s.entry op).shot.whole (zeroHalf w.fmt) h, []⟩))
  ∧ (∀ (s : State) op env twin w u t, FireStarts s op clsFire { op with dense := false } w (s.entry op) u →
    (s.entry op).wide = false →
    u.fireHalf { op with dense := false } w (s.entry op).elems [env] = (none, t) → t.twinOf op.core.val = none →
    exec (.fire op env twin) s = .next (t.updEng (engKey op.core op.eng) (fun e => { e with
      splitActive := true
      split := e.split ++ [⟨{ op with dense := false }, s.entry op, (s.entry op).shot, some (zeroHalf w.fmt), none, none,
        none⟩] })))
  ∧ (∀ (s : State) op env twin w u, FireStarts s op clsFire { op with dense := false } w (s.entry op) u →
    (s.entry op).wide = true →
    exec (.fire op env twin) s = .next (u.queueReplay ⟨{ op with dense := false }, 1, s.entry op, (s.entry op).shot,
      zeroHalf w.fmt, []⟩))
  ∧ (∀ (s : State) op env twin, s.fireOpen op = true → s.mayIssue op.core.val clsFire op.part = true →
    (s.arr op.key).tile = none → s.compat op.core.val = false →
    ∃ t, exec (.fire op env twin) s = .next t
      ∧ (∀ k ∈ op.tiles (((s.arr op.key).lost.map WFmt.outs).getD 64), (t.tile op.core.val k).members
        = (s.tile op.core.val k).members ++ [⟨op.member, List.replicate 64 0, []⟩])
      ∧ t.reqs = (s.degrade op.feeds).reqs ∧ OnlyKeys [op.core.val] s.cores t.cores ∧ OnlyChanges [.cores, .reqs] s t)
  ∧ (∀ (s : State) op (env twin : PairEnv) w l u a t b v, l = s.entry { op with entry := (op.entry + 1) % 64 } →
    FireStarts s op clsFirePair op w ((s.entry op).paired l) u →
    u.fireHalf op w (s.entry op).elems env.hi = (some a, t) → t.fireHalf op w l.elems env.lo = (some b, v) →
    (v.engBump op Reg.NIBBLE_PAIRS 1).twinOf op.core.val = none → (a.cs || a.ref || b.cs || b.ref) = false →
    exec (.firePair op env twin) s = .next ((v.engBump op Reg.NIBBLE_PAIRS 1).deliverFire op w ((s.entry op).pairShot l)
      (List.zipWith (fun (x y : Int) => 16 * x + y) a.counts b.counts)))
  ∧ (∀ (s : State) op envs twin w u h t, FireStarts s op clsFireDense { op with dense := true } w (s.entry op) u →
    (s.entry op).wide = false →
    u.fireHalf { op with dense := true } w (s.entry op).elems envs = (some h, t) → t.twinOf op.core.val = none →
    (h.cs || h.ref) = false →
    exec (.fireDense op envs twin) s = .next (t.deliverFire { op with dense := true } w (s.entry op).shot h.counts))
  ∧ (∀ (s : State) op w l envs, (op.dense = false → s.fireHalf op w l envs
      = (s.rillHold op (envs.headD FireEnv.clean).hold).fireOnce op w l (envs.headD FireEnv.clean))
    ∧ (op.dense = true → ∃ h t, s.fireHalf op w l envs = (some h, t)
      ∧ (t.reg (engReg op.core.val op.eng.val Reg.SPLITS_PLANNED)).toNat
        = min 0xFFFFFFFF ((s.reg (engReg op.core.val op.eng.val Reg.SPLITS_PLANNED)).toNat + 1)))
  ∧ (∀ (s : State) op t b x hi lo h j, twinMismatch t.fmt x.pair (x.whole hi lo).counts h.counts = some j →
    s.stepsPend op t.fmt.outs x.skip = false →
    s.fireDone op t b x hi lo (some h) none = (s.twinWarn op j).queueReplay ⟨op, 7, b, x, x.whole hi lo, h.counts⟩)
  ∧ (∀ (s : State) op env env2 envs twin, s.fireOpen op = false → exec (.fire op env twin) s = .next s
    ∧ exec (.firePair op env2 twin) s = .next s ∧ exec (.fireDense op envs twin) s = .next s)
  ∧ (∀ (s : State) op env env2 envs twin,
    (s.mayIssue op.core.val clsFire op.part = false → exec (.fire op env twin) s = .next s)
    ∧ (s.mayIssue op.core.val clsFirePair op.part = false → exec (.firePair op env2 twin) s = .next s)
    ∧ (s.mayIssue op.core.val clsFireDense op.part = false → exec (.fireDense op envs twin) s = .next s))

/-- SPLIT_REPLAY, FIRE_REPLAY and STEP_REPLAY (R52, R106 to R110): a split always fires its four row groups and
charges 96 clocks; a replay is asked for in its turn, splits first, then engines in order and array A before B, then
tiles; one that is served fires again as a nibble pair, one that waits holds the later ones back, and one that is
refused leaves the first result with DEGRADED. What is then no longer held goes on. Points that the spec leaves open
are settled by log 104, log 126 and log 127. -/
def Obligations.ReplayCommands : Prop :=
  (∀ (s : State) (c : CoreIx) (e : EngIx) (k : Fin 64) envs env twin pairs,
    (s.unitRuns c.val = true → exec (.splitReplay c e envs) s = .next ((s.splitNext c.val e.val envs).resume c.val)
      ∧ exec (.fireReplay c e env twin) s = .next ((s.replayNext c.val e.val env twin).resume c.val)
      ∧ exec (.stepReplay c k pairs) s = .next ((s.stepNext c.val k.val pairs).resume c.val))
    ∧ (s.unitRuns c.val = false → exec (.splitReplay c e envs) s = .next s ∧ exec (.fireReplay c e env twin) s = .next s
      ∧ exec (.stepReplay c k pairs) s = .next s))
  ∧ (∀ (s : State) (c : CoreIx) (e : EngIx) envs p rest w g t, (s.eng (engKey c e)).split = p :: rest → p.op.core = c →
    p.op.eng = e → (s.arr p.op.key).tile = some w → (s.core c.val).group = some g →
    (p.hi.isSome = true ∨ p.lo.isSome = true) → p.replay = none → t = s.splitNext c.val e.val envs →
    (t.eng (engKey c e)).split = rest ∧ (t.eng (engKey c e)).splitActive = !rest.isEmpty
      ∧ (t.core c.val).credit = (s.core c.val).credit - 96
      ∧ (t.core c.val).lastReplay = e.val + 16 * flag p.op.arrB + 256 * (p.op.tile % 64)
      ∧ (t.grp g).charged = (s.grp g).charged + 96)
  ∧ (∀ (s : State) (c : CoreIx) (e : EngIx) envs p rest w g t, (s.eng (engKey c e)).split = p :: rest → p.op.core = c →
    p.op.eng = e → (s.arr p.op.key).tile = some w → (s.core c.val).group = some g → p.hi = none → p.lo = none →
    t = s.splitNext c.val e.val envs →
    (∃ h, (t.eng (engKey c e)).split = { p with hi := some h } :: rest)
      ∧ (t.core c.val).credit = (s.core c.val).credit - 96 ∧ (t.grp g).charged = (s.grp g).charged + 96)
  ∧ (∀ (s : State) (c : CoreIx) (e : EngIx) envs, (s.eng (engKey c e)).split = [] → s.splitNext c.val e.val envs = s)
  ∧ (∀ (s : State) c e, e < 16 → (s.eng (c * 16 + e)).split ≠ [] → s.nextReplay c = none)
  ∧ (∀ (s : State) c w, s.nextReplay c = some w → (s.core c).waitsFor = none →
    (∀ a, a < 32 → (s.eng (c * 16 + a / 2)).replays.any (fun p => p.op.key == c * 32 + a && s.replayStands p) = true → w ≤ a)
      ∧ (∀ k, k < 64 → (s.tile c k).pending.isSome = true → w ≤ k + 32))
  ∧ (∀ (s : State) c e env twin, s.nextReplay c = none → s.replayNext c e env twin = s)
  ∧ (∀ (s : State) (c : CoreIx) (e : EngIx) env twin k p w u, s.nextReplay c.val = some k →
    (s.eng (engKey c e)).replays.find? (fun p => p.op.key == c.val * 32 + k && s.replayStands p) = some p →
    (s.arr p.op.key).tile = some w → s.askReplay c.val (replayCost p.cause (s.compat c.val)) = (.served, u) →
    s.replayNext c.val e.val env twin = ((u.updEng (engKey c e) (fun q => { q with
      replays := q.replays.erase p })).updCore c.val (fun q => { q with waitsFor := none })).replayServed c.val e.val p w env
        twin)
  ∧ (∀ (s : State) (c : CoreIx) (e : EngIx) p w env twin, p.cause < 7 → s.compat c.val = false →
    s.replayServed c.val e.val p w env twin = (((s.corBump c.val Reg.FIRE_REPLAYS 1).markReplayed p.op.feeds).lastReplay
      c.val e.val p.op.arrB p.cause p.op.tile false false).fireShot p.op w p.ent
        { wideShot (s.sourceOf c.val p.ent) p.ent.rho with skip := p.shot.skip } env twin (some p.cause))
  ∧ (∀ (s : State) (c : CoreIx) (e : EngIx) env twin k p w u, s.nextReplay c.val = some k →
    (s.eng (engKey c e)).replays.find? (fun p => p.op.key == c.val * 32 + k && s.replayStands p) = some p →
    p.op.core = c → (s.arr p.op.key).tile = some w → p.cause ≠ 1 →
    s.askReplay c.val (replayCost p.cause (s.compat c.val)) = (.refused, u) →
    ∃ t : State, s.replayNext c.val e.val env twin = t.deliverFire p.op w p.shot p.first.counts
      ∧ (t.eng (engKey c e)).replays = (s.eng (engKey c e)).replays.erase p ∧ t.reqs = (s.degrade p.op.feeds).reqs
      ∧ (t.core c.val).lastReplay
        = e.val + 16 * flag p.op.arrB + 32 * (p.cause % 7) + 256 * (p.op.tile % 64) + 16384)
  ∧ (∀ (s : State) (c : CoreIx) (e : EngIx) env twin k p w u, s.nextReplay c.val = some k →
    (s.eng (engKey c e)).replays.find? (fun p => p.op.key == c.val * 32 + k && s.replayStands p) = some p →
    (s.arr p.op.key).tile = some w → s.askReplay c.val (replayCost p.cause (s.compat c.val)) = (.waits, u) →
    s.replayNext c.val e.val env twin = u.updCore c.val (fun q => { q with waitsFor := some k }))
  ∧ (∀ (s : State) (c : CoreIx) (k : Fin 64) envs cause u t, (s.tile c.val k.val).pending = some cause →
    s.nextReplay c.val = some (32 + k.val) → s.askReplay c.val (s.stepCost (s.tile c.val k.val)) = (.served, u) →
    t = s.stepNext c.val k.val envs →
    (t.tile c.val k.val).replayed = true ∧ (t.tile c.val k.val).pending = none
      ∧ (t.tile c.val k.val).w = (s.tile c.val k.val).w ∧ (t.tile c.val k.val).step = (s.tile c.val k.val).step
      ∧ (t.core c.val).lastReplay = 32 * cause + 256 * k.val)
  ∧ (∀ (s : State) (c : CoreIx) (k : Fin 64) envs cause u t, (s.tile c.val k.val).pending = some cause →
    s.nextReplay c.val = some (32 + k.val) → s.askReplay c.val (s.stepCost (s.tile c.val k.val)) = (.refused, u) →
    t = s.stepNext c.val k.val envs →
    (t.tile c.val k.val).replayed = true ∧ (t.tile c.val k.val).pending = none
      ∧ (t.tile c.val k.val).lanes = (s.tile c.val k.val).lanes ∧ t.reqs = (s.degrade (s.tile c.val k.val).feeds).reqs
      ∧ (t.core c.val).lastReplay = 32 * cause + 256 * k.val + 16384)
  ∧ (∀ (s : State) (c : CoreIx) (k : Fin 64) envs cause u, (s.tile c.val k.val).pending = some cause →
    s.nextReplay c.val = some (32 + k.val) → s.askReplay c.val (s.stepCost (s.tile c.val k.val)) = (.waits, u) →
    s.stepNext c.val k.val envs = u.updCore c.val (fun q => { q with waitsFor := some (32 + k.val) }))
  ∧ (∀ (s : State) c k envs, ((s.tile c k).pending = none ∨ s.nextReplay c ≠ some (32 + k)) → s.stepNext c k envs = s)

/-- The replay reserve (R110, R152, R153): a replay that the core's credit covers is charged to it; a core of no group
replays freely; after the notice it is refused. REPLAY_CREDIT_TOPUP grants what the ledger holds up to what is asked,
and EXHAUSTED_NOTICE reaches the cores of a group a replay of which was refused. -/
def Obligations.LedgerCommands : Prop :=
  (∀ (s : State) c n, (s.core c).group = none → s.askReplay c n = (.served, s))
  ∧ (∀ (s : State) c n g, (s.core c).group = some g → (s.core c).noticed = false →
    ((n + (s.core c).waitClocks : Nat) : Int) ≤ (s.core c).credit →
    ∃ t, s.askReplay c n = (.served, t) ∧ (t.core c).credit = (s.core c).credit - (n + (s.core c).waitClocks : Nat)
      ∧ (t.core c).waiting = false ∧ (t.grp g).charged = (s.grp g).charged + (n + (s.core c).waitClocks)
      ∧ OnlyKeys [c] s.cores t.cores ∧ OnlyKeys [g] s.groups t.groups ∧ OnlyChanges [.cores, .groups, .regs] s t)
  ∧ (∀ (s : State) c n g, (s.core c).group = some g → (s.core c).noticed = true →
    ∃ t, s.askReplay c n = (.refused, t) ∧ (t.grp g).refused = true ∧ (t.core c).credit = (s.core c).credit
      ∧ (t.grp g).charged = (s.grp g).charged ∧ OnlyChanges [.cores, .groups, .regs] s t)
  ∧ (∀ (s : State) (c : CoreIx) waited g k n, (s.core c.val).group = some g →
    (s.grp g).topups.find? (fun t => t.1 == c.val) = some (k, n) →
    ∃ t, exec (.replayCreditTopup c waited) s = .next t ∧ (t.grp g).ledger = (s.grp g).ledger - min n (s.grp g).ledger
      ∧ (t.core c.val).credit = (s.core c.val).credit + (min n (s.grp g).ledger : Nat)
      ∧ (t.core c.val).inflight = (s.core c.val).inflight - n
      ∧ (t.grp g).topups = (s.grp g).topups.erase (k, n)
      ∧ ((s.core c.val).waiting = true → (t.core c.val).waitClocks = min 96 ((s.core c.val).waitClocks + waited))
      ∧ OnlyKeys [c.val] s.cores t.cores ∧ OnlyKeys [g] s.groups t.groups ∧ OnlyChanges [.cores, .groups] s t)
  ∧ (∀ (s : State) (c : CoreIx), (s.groupOf c.val).refused = true →
    exec (.exhaustedNotice c) s = .next (s.updCore c.val (fun k => { k with noticed := true, waitClocks := 0 })))
  ∧ (∀ (s : State) (c : CoreIx), (s.groupOf c.val).refused = false → exec (.exhaustedNotice c) s = .next s)

/-- The Cascade (R82, R85 to R91, R107, R191): CAS_CLEAR, CASCADE_GROUP_SUM, CAS_DRAIN, CAS_EXPORT and CAS_MERGE, each
in its record's turn and held while contributions are outstanding; a group is added exactly, lane by lane, and a lane
that leaves the range is set to its bound and stays there. Points that the spec leaves open are settled by log 115,
log 128 and log 153. -/
def Obligations.CascadeCommands : Prop :=
  (∀ (s : State) (c : CoreIx) (k : Fin 64) w g hold, s.mayIssue c.val clsClear k.val = true → s.tileHeld c.val k.val = false →
    (s.tile c.val k.val).pending = none → (s.tile c.val k.val).held = [] →
    (∀ n ∈ (s.tile c.val k.val).openGroups, (s.tile c.val k.val).groupFull n = false) →
    ∃ t, exec (.casClear c k w g hold) s = .next t ∧ t.tile c.val k.val = CasTile.clear w g
      ∧ (∀ j, j ≠ k.val → t.tile c.val j = s.tile c.val j) ∧ OnlyKeys [c.val] s.cores t.cores
      ∧ OnlyChanges [.cores, .regs] s t)
  ∧ (∀ (s : State) (c : CoreIx) (k : Fin 64) w g hold, s.tileHeld c.val k.val = true → s.mayIssue c.val clsClear k.val = true →
    ∃ t, exec (.casClear c k w g hold) s = .next t ∧ TileKeeps s c k.val (.clear w g) hold t)
  ∧ (∀ (s : State) (c : CoreIx) (k : Fin 64) f b m dst hold, s.tileHeld c.val k.val = true → s.mayIssue c.val clsDrain k.val = true →
    ∃ t, exec (.casDrain c k f b m dst [] hold) s = .next t ∧ TileKeeps s c k.val (.drain f b m dst) hold t)
  ∧ (∀ (s : State) (c d : CoreIx) (k j : Fin 64) hold, s.tileHeld c.val k.val = true → s.mayIssue c.val clsExport k.val = true →
    ∃ t, exec (.casExport c k d j [] hold) s = .next t ∧ TileKeeps s c k.val (.send d j.val) hold t)
  ∧ (∀ (s : State) (c d : CoreIx) (k j : Fin 64) hold, s.tileHeld c.val k.val = true → s.mayIssue c.val clsMerge k.val = true →
    s.exportHere c.val k.val d.val j.val = true →
    ∃ t, exec (.casMerge c k d j [] hold) s = .next t ∧ TileKeeps s c k.val (.take d.val j.val) hold t)
  ∧ (∀ (s : State) (c d : CoreIx) (k j : Fin 64) w g f b m dst errs hold,
    (s.mayIssue c.val clsClear k.val = false → exec (.casClear c k w g hold) s = .next s)
    ∧ (s.mayIssue c.val clsDrain k.val = false → exec (.casDrain c k f b m dst errs hold) s = .next s)
    ∧ (s.mayIssue c.val clsExport k.val = false → s.owesRecord c.val clsExport k.val = false →
      exec (.casExport c k d j errs hold) s = .next s)
    ∧ ((s.mayIssue c.val clsMerge k.val = false ∨ s.exportHere c.val k.val d.val j.val = false) →
      exec (.casMerge c k d j errs hold) s = .next s))
  ∧ (∀ (u : CasTile) ms l, l < 64 → l ∉ u.bound → ms.all (fun m => m.beyond.all (fun o => o.1 != l)) = true →
    laneMin ≤ u.lanes.getD l 0 + sumLanes ms l → u.lanes.getD l 0 + sumLanes ms l ≤ laneMax →
    (u.addGroup ms).1.lanes.getD l 0 = u.lanes.getD l 0 + sumLanes ms l ∧ l ∉ (u.addGroup ms).1.bound)
  ∧ (∀ (u : CasTile) ms l, l < 64 → l ∉ u.bound →
    (u.lanes.getD l 0 + sumLanes ms l < laneMin ∨ laneMax < u.lanes.getD l 0 + sumLanes ms l) →
    (u.addGroup ms).1.lanes.getD l 0 = (if sumLanes ms l < 0 then laneMin else laneMax) ∧ l ∈ (u.addGroup ms).1.bound
      ∧ (u.addGroup ms).1.sat = true)
  ∧ (∀ (u : CasTile) ms l, l < 64 → l ∈ u.bound → (u.addGroup ms).1.lanes.getD l 0 = u.lanes.getD l 0
      ∧ l ∈ (u.addGroup ms).1.bound)
  ∧ (∀ (s : State) (c : CoreIx) (k : Fin 64) n, s.unitRuns c.val = true → (s.tile c.val k.val).groupFull n = true →
    ∃ t, exec (.cascadeGroupSum c k n []) s = .next (t.releaseTile c.val k.val)
      ∧ (t.tile c.val k.val).lanes = ((s.tile c.val k.val).addGroup ((s.tile c.val k.val).groupMembers n)).1.lanes
      ∧ (t.tile c.val k.val).sat = ((s.tile c.val k.val).addGroup ((s.tile c.val k.val).groupMembers n)).1.sat
      ∧ (t.tile c.val k.val).members
        = (s.tile c.val k.val).members.filter (fun m => m.idx / (s.tile c.val k.val).g != n)
      ∧ OnlyKeys [c.val] s.cores t.cores ∧ OnlyChanges [.cores, .regs, .wide, .reqs] s t)
  ∧ (∀ (s : State) c k, (s.tile c k).held = [] → s.releaseTile c k = s)
  ∧ (∀ (s : State) (c : CoreIx) (k : Fin 64) n, s.unitRuns c.val = true → (s.tile c.val k.val).groupFull n = false →
    ∃ t, exec (.cascadeGroupSum c k n []) s = .next t ∧ OnlyChanges [.regs] s t)
  ∧ (∀ (s : State) c k errs, (∃ i, i < 24 ∧ (eccRead 0 (((errs.find? (fun e => e.1 == i)).map (·.2)).getD [])).1 = none) →
    ((s.readTile c k errs).tile c k).sat = true ∧ ((s.readTile c k errs).tile c k).lanes = (s.tile c k).lanes)
  ∧ (∀ (s : State) (c : CoreIx) (k : Fin 64) f b m dst hold u, s.mayIssue c.val clsDrain k.val = true →
    s.tileHeld c.val k.val = false → (s.tile c.val k.val).held = [] → (s.tile c.val k.val).pending = none →
    u = (s.closeTile c.val k.val).tile c.val k.val → u.pending = none →
    ∃ t, exec (.casDrain c k f b m dst [] hold) s = .next t
      ∧ (m = false → t.vreg c.val dst = (u.drain ((f.map (s.vreg c.val)).getD []) b).1)
      ∧ (m = true → ∀ i x, (drainBytes b (u.drain ((f.map (s.vreg c.val)).getD []) b).1)[i]? = some x →
        t.memAt? (.core c) (dst + i) = some x)
      ∧ t.tile c.val k.val = { u with step := [], stepTiles := [], merged := [], formed := 0, replayed := false }
      ∧ OnlyKeys [c.val] s.cores t.cores ∧ OnlyChanges [.cores, .regs, .wide, .reqs] s t)
  ∧ (∀ (s : State) (c d : CoreIx) (k j : Fin 64) hold u, s.mayIssue c.val clsExport k.val = true →
    s.tileHeld c.val k.val = false → (s.tile c.val k.val).held = [] → (s.tile c.val k.val).pending = none →
    u = (s.closeTile c.val k.val).tile c.val k.val → u.pending = none →
    ∃ t, exec (.casExport c k d j [] hold) s = .next t
      ∧ ((s.core d.val).stopped = false → (t.core d.val).exports = (s.core d.val).exports
        ++ [⟨c.val, k.val, j.val, u.toExport⟩])
      ∧ ((s.core d.val).stopped = true → (t.core d.val).exports = (s.core d.val).exports
        ∧ (t.reg ((Blk.crt d).at Reg.FENCE_NACKS)).toNat
          = min 0xFFFFFFFF ((s.reg ((Blk.crt d).at Reg.FENCE_NACKS)).toNat + 1))
      ∧ OnlyKeys [c.val, d.val] s.cores t.cores ∧ OnlyChanges [.cores, .regs, .wide, .reqs] s t)
  ∧ (∀ (s : State) (c d : CoreIx) (k j : Fin 64) errs hold, s.owesRecord c.val clsExport k.val = true →
    (s.core d.val).stopped = false →
    ∃ t, exec (.casExport c k d j errs hold) s = .next t ∧ (t.core d.val).exports = (s.core d.val).exports
        ++ [⟨c.val, k.val, j.val, ⟨List.replicate 64 0, (s.tile d.val j.val).w, false, false⟩⟩]
      ∧ t.reqs = (s.degrade (s.tile d.val j.val).feeds).reqs ∧ OnlyChanges [.cores, .reqs] s t)
  ∧ (∀ (s : State) (c d : CoreIx) (k j : Fin 64) hold u x, s.mayIssue c.val clsMerge k.val = true →
    s.tileHeld c.val k.val = false → (s.tile c.val k.val).held = [] → (s.tile c.val k.val).pending = none →
    u = (s.closeTile c.val k.val).tile c.val k.val → u.pending = none →
    (s.core c.val).exports.find? (fun e => e.srcCore == d.val && e.srcTile == j.val && e.dstTile == k.val) = some x →
    x.exp.w = (s.tile c.val k.val).w →
    ∃ t, exec (.casMerge c k d j [] hold) s = .next t
      ∧ (t.tile c.val k.val).lanes = (u.merge x.exp).1.lanes ∧ (t.tile c.val k.val).sat = (u.merge x.exp).1.sat
      ∧ (t.tile c.val k.val).ufl = (u.merge x.exp).1.ufl
      ∧ (t.core c.val).exports = (s.core c.val).exports.erase x
      ∧ OnlyKeys [c.val] s.cores t.cores ∧ OnlyChanges [.cores, .regs, .wide, .reqs] s t)

/-- R94: a write to TILE_SEL takes effect at once for TILE_INFO and leaves the snapshot words as they are; each tick
that completes captures the three words of the lane then selected, from one lane, and leaves the tiles. -/
def Obligations.SnapshotCapture : Prop :=
  (∀ (s : State) h (c : CoreIx) v m, Admitted s h (.tileSelWrite h c v m) → (s.heard h).enabled c.val = true →
    ∃ t, exec (.tileSelWrite h c v m) s = .next t
      ∧ t.reg ((Blk.cas c).at 0x40) = mergeWrite (s.reg ((Blk.cas c).at 0x40)) v m 0xFFF
      ∧ (∃ info, t.view (.cas c) 0x44 = some info
        ∧ info.toNat % 4096 = fieldOfInt 12 (s.tile c.val ((t.reg ((Blk.cas c).at 0x40)).toNat % 64)).w
        ∧ info.getLsbD 14 = (s.tile c.val ((t.reg ((Blk.cas c).at 0x40)).toNat % 64)).sat
        ∧ info.getLsbD 15 = (s.tile c.val ((t.reg ((Blk.cas c).at 0x40)).toNat % 64)).ufl
        ∧ info.getLsbD 16 = (s.tile c.val ((t.reg ((Blk.cas c).at 0x40)).toNat % 64)).cleared)
      ∧ (∀ o ∈ [0x48, 0x4C, 0x50], t.view (.cas c) o = s.view (.cas c) o))
  ∧ (∀ (s : State) (g : GroupIx) clock (c : CoreIx) n, (s.grp g.val).running = true → s.workDone g.val = true →
    s.tokensDone g.val = true → c.val ∈ (s.grp g.val).placed → n = fieldOfInt 96 ((s.tile c.val ((s.reg ((Blk.cas c).at 0x40)).toNat % 64)).lanes.getD
      ((s.reg ((Blk.cas c).at 0x40)).toNat / 64 % 64) 0) →
    ∃ t, exec (.tickComplete g clock) s = .next t
      ∧ t.view (.cas c) 0x48 = some (word n) ∧ t.view (.cas c) 0x4C = some (word (n / 2 ^ 32))
      ∧ t.view (.cas c) 0x50 = some (word (n / 2 ^ 64)) ∧ (∀ k, t.tile c.val k = s.tile c.val k))

/-- QUANT, the accumulate groups of compatibility mode, the vector operations and SYNC (R32, R63, R75, R76, R92, R98,
R106, R140), each in its record's turn. Points that the spec leaves open are settled by log 9, log 105, log 117 and
log 160. -/
def Obligations.VectorCommands : Prop :=
  (∀ (s : State) (c : CoreIx) src blk engs rho set store e n q, s.mayIssue c.val clsQuant 0 = true → s.compat c.val = false →
    q = quantise (s.block c.val src) (rhoOf rho) false false → q.exceeded = false → (e, n) ∈ engs →
    ∃ t, exec (.quant c (.values src) blk engs rho false set store) s = .next t
      ∧ (t.eng (engKey c e)).buf.get? (n % 64) = some (entryOf q blk (rhoOf rho) false .whole)
      ∧ (((s.core c.val).sources.del blk).length < ((s.groupOf c.val).current.map (·.plan.spillSrc)).getD 0 →
        (t.core c.val).sources.get? blk = some (s.block c.val src))
      ∧ (∀ off i x, store = some off → ((actRecord q false).flatMap (Crypto.bytesLE 32))[i]? = some x →
        t.memAt? (.core c) (off + i) = some x)
      ∧ OnlyKeys [c.val] s.cores t.cores ∧ OnlyChanges [.engines, .cores, .regs] s t)
  ∧ (∀ (s : State) (c : CoreIx) src blk e n rho set store q, s.mayIssue c.val clsQuant 0 = true → s.compat c.val = false →
    q = quantise (s.block c.val src) (rhoOf rho) true false →
    ∃ t, exec (.quant c (.values src) blk [(e, n)] rho true set store) s = .next t
      ∧ (t.eng (engKey c e)).buf.get? (n % 64) = some (entryOf q blk (rhoOf rho) false .high)
      ∧ (t.eng (engKey c e)).buf.get? ((n + 1) % 64) = some (entryOf q blk (rhoOf rho) false .low)
      ∧ OnlyKeys [engKey c e] s.engines t.engines ∧ OnlyChanges [.engines, .cores, .regs] s t)
  ∧ (∀ (s : State) (c : CoreIx) src blk e n rho set store, s.mayIssue c.val clsQuant 0 = true → s.compat c.val = false →
    (quantise (s.block c.val src) (rhoOf rho) false false).exceeded = true →
    ∃ t, exec (.quant c (.values src) blk [(e, n)] rho false set store) s = .next t
      ∧ (t.eng (engKey c e)).buf.get? (n % 64)
        = some (entryOf (quantise (s.block c.val src) (rhoOf rho) true false) blk (rhoOf rho) true .whole)
      ∧ (t.reg ((Blk.cor c).at Reg.BUDGET_EXCEEDED)).toNat
        = min 0xFFFFFFFF ((s.reg ((Blk.cor c).at Reg.BUDGET_EXCEEDED)).toNat + 1)
      ∧ OnlyChanges [.engines, .cores, .regs] s t)
  ∧ (∀ (s : State) (c : CoreIx) src blk e n rho set store q, s.mayIssue c.val clsQuant 0 = true → s.compat c.val = true →
    (quantiseSet (s.block c.val src :: set.map (s.block c.val))).head? = some q →
    ∃ t, exec (.quant c (.values src) blk [(e, n)] rho false set store) s = .next t
      ∧ (t.eng (engKey c e)).buf.get? (n % 64) = some (entryOf q blk (rhoOf rho) false .whole)
      ∧ OnlyKeys [engKey c e] s.engines t.engines ∧ OnlyChanges [.engines, .cores, .regs] s t)
  ∧ (∀ (s : State) (c : CoreIx) off blk e n rho set store, s.mayIssue c.val clsQuant 0 = true →
    ∃ t, exec (.quant c (.record off) blk [(e, n)] rho false set store) s = .next t
      ∧ (t.eng (engKey c e)).buf.get? (n % 64)
        = some (entryOf (decodeActRecord (s.localGranules c off 8) false) blk (rhoOf rho) false .whole)
      ∧ OnlyKeys [engKey c e] s.engines t.engines ∧ OnlyChanges [.engines, .cores] s t)
  ∧ rhoOf none = 16 ∧ (∀ o, ∃ k, 2 ≤ k ∧ k ≤ 6 ∧ rhoOf o = 2 ^ k)
  ∧ (∀ (s : State) (c : CoreIx) (k : Fin 4), s.mayIssue c.val clsAoa k.val = true → s.compat c.val = true →
    exec (.aoaClear c k) s = .next ((s.issue c.val clsAoa k.val).updCore c.val (fun x => { x with
      acc := x.acc.put k.val (List.replicate 64 0), accExp := x.accExp.put k.val (List.replicate 64 0) })))
  ∧ (∀ (s : State) (c : CoreIx) (k : Fin 4) dst, s.mayIssue c.val clsAoa k.val = true → s.compat c.val = true →
    ∃ t, exec (.aoaDrain c k dst) s = .next t ∧ t.vreg c.val dst = List.zipWith (fun a p => fpOfFrac (Frac.dyadic a p))
        ((s.core c.val).acc.getD k.val accZero) ((s.core c.val).accExp.getD k.val accZero)
      ∧ (t.core c.val).acc.get? k.val = some accZero ∧ OnlyKeys [c.val] s.cores t.cores ∧ OnlyChanges [.cores] s t)
  ∧ (∀ (s : State) (c : CoreIx) (k : Fin 4) dst, (s.compat c.val = false ∨ s.mayIssue c.val clsAoa k.val = false) →
    exec (.aoaClear c k) s = .next s ∧ exec (.aoaDrain c k dst) s = .next s)
  ∧ (∀ (s : State) (c : CoreIx) fn n srcs dst,
    (s.mayIssue c.val clsVecElem 0 = false → exec (.vecElem c fn n srcs dst) s = .next s)
    ∧ (s.mayIssue c.val clsVecTrans 0 = false → exec (.vecTrans c fn n srcs dst) s = .next s)
    ∧ (s.mayIssue c.val clsVecReduce 0 = false → exec (.vecReduce c fn n srcs dst) s = .next s))
  ∧ (∀ (s : State) (c : CoreIx) fn n srcs dst, s.mayIssue c.val clsVecElem 0 = true →
    ∃ t, exec (.vecElem c fn n srcs dst) s = .next t ∧ VecWritten s c clsVecElem fn n srcs dst t)
  ∧ (∀ (s : State) (c : CoreIx) fn n srcs dst, s.mayIssue c.val clsVecTrans 0 = true →
    ∃ t, exec (.vecTrans c fn n srcs dst) s = .next t ∧ VecWritten s c clsVecTrans fn n srcs dst t)
  ∧ (∀ (s : State) (c : CoreIx) fn n srcs dst, s.mayIssue c.val clsVecReduce 0 = true →
    ∃ t, exec (.vecReduce c fn n srcs dst) s = .next t ∧ VecWritten s c clsVecReduce fn n srcs dst t)
  ∧ (∀ (s : State) (c : CoreIx), (s.mayIssue c.val clsSync 0 = true → exec (.sync c) s = .next (s.issue c.val clsSync 0))
    ∧ (s.mayIssue c.val clsSync 0 = false → exec (.sync c) s = .next s))
  ∧ (∀ (s : State) (c : CoreIx) src blk engs rho wide set store, s.mayIssue c.val clsQuant 0 = false →
    exec (.quant c src blk engs rho wide set store) s = .next s)

/-- ROUTE, ASSIGN and EXPERT_RUN (R58, R106, R140, R156 to R159), each in its record's turn: each row gets its
choices; no expert gets more rows than its capacity and no pool group more than its pool, and what finds no place is
dropped; an expert run, whose slots are those that ASSIGN gave, loads each tile and fires its slots. Points that the
spec leaves open are settled by log 9. -/
def Obligations.RoutingCommands : Prop :=
  (∀ (s : State) (c : CoreIx) (g : GroupIx) layer rows m, s.mayIssue c.val clsRoute 0 = true →
    s.moeEntry g.val layer = some m →
    ∃ t q, exec (.route c g layer rows) s = .next t ∧ (t.grp g.val).routing.get? (layer * 1024 + c.val) = some q
      ∧ q.rows = ((s.grp g.val).routing.getD (layer * 1024 + c.val) ⟨layer, [], []⟩).rows
        ++ rows.map (fun r => (r.row, r.slot, topChoices m layer (s.vreg c.val r.gates)))
      ∧ OnlyKeys [g.val] s.groups t.groups ∧ OnlyKeys [c.val] s.cores t.cores
      ∧ OnlyChanges [.groups, .cores, .regs, .wide] s t)
  ∧ (∀ (s : State) (c : CoreIx) (g : GroupIx) layer rows, s.mayIssue c.val clsRoute 0 = false →
    exec (.route c g layer rows) s = .next s)
  ∧ (∀ (s : State) (c : CoreIx) (g : GroupIx) layer m, s.mayIssue c.val clsAssign 0 = true →
    s.moeEntry g.val layer = some m → (s.grp g.val).bind.get? m.router = some c.val →
    ∃ t q, exec (.assign c g layer) s = .next t ∧ (t.grp g.val).routing.get? (layer * 1024 + c.val) = some q
      ∧ q.placed = (rescale ((s.grp g.val).routed layer) (assignRows m ((s.grp g.val).routed layer))).map
        (fun p => (p.row, p.expert, p.pool, p.gate))
      ∧ (t.grp g.val).moeDrops = (s.grp g.val).moeDrops + (assignRows m ((s.grp g.val).routed layer)).drops.length
      ∧ OnlyKeys [g.val] s.groups t.groups ∧ OnlyKeys [c.val] s.cores t.cores
      ∧ OnlyChanges [.groups, .cores, .regs, .wide, .reqs] s t)
  ∧ (∀ (s : State) (c : CoreIx) (g : GroupIx) layer m, s.moeEntry g.val layer = some m →
    ((s.grp g.val).bind.get? m.router ≠ some c.val ∨ s.mayIssue c.val clsAssign 0 = false) →
    exec (.assign c g layer) s = .next s)
  ∧ (∀ (m : MoeEnt) rows e, ((assignRows m rows).placed.filter (fun p => p.expert == e && !p.pool)).length ≤ m.capacity)
  ∧ (∀ (m : MoeEnt) rows q, ((assignRows m rows).placed.filter (fun p => p.expert / m.groupSize == q && p.pool)).length
      ≤ m.pool)
  ∧ (∀ (m : MoeEnt) rows, (assignRows m rows).placed.length + (assignRows m rows).drops.length
      = sumNats (rows.map (fun r => min m.topK r.choices.length)))
  ∧ (∀ (s : State) op (g : GroupIx) p nib tiles, s.runOpen op g.val p tiles = true →
    (tiles.flatMap (fun t => s.loadAddrs t.desc)).find? (fun a => decide (deviceGranules ≤ a)) = none →
    exec (.expertRun op g p nib tiles) s = .next (((s.issue op.core.val clsExpert op.eng.val).updEng (engKey op.core op.eng)
      (fun e => { e with run := runItems op nib tiles })).runOn op.core.val op.eng.val))
  ∧ (∀ (s : State) op (g : GroupIx) p nib tiles a, s.runOpen op g.val p tiles = true →
    (tiles.flatMap (fun t => s.loadAddrs t.desc)).find? (fun a => decide (deviceGranules ≤ a)) = some a →
    exec (.expertRun op g p nib tiles) s = .fault (.noSuchGranule a))
  ∧ (∀ (s : State) op (g : GroupIx) p nib tiles, s.runOpen op g.val p tiles = false →
    exec (.expertRun op g p nib tiles) s = .next s)
  ∧ (∀ (s : State) op g q tiles, s.runOpen op g q tiles = true → ∃ m, s.moeEntry g op.layer = some m
    ∧ tiles.length = m.groupSize ∧ (∀ i x, tiles[i]? = some x → x.slots.map (·.row)
      = slotRows m (((s.grp g).routing.filter (fun p => p.1 / 1024 == op.layer)).flatMap (·.2.placed)) q i))
  ∧ (∀ (m : MoeEnt) placed q i, (placed.filter (fun p => p.2.1 == q * m.groupSize + i && !p.2.2.1)).length ≤ m.capacity →
    (slotRows m placed q i).length = m.capacity
      + (placed.filter (fun p => p.2.1 / m.groupSize == q && p.2.2.1 && p.2.1 == q * m.groupSize + i)).length
      + (if i + 1 = m.groupSize then m.pool - (placed.filter (fun p => p.2.1 / m.groupSize == q && p.2.2.1)).length else 0))
  ∧ (∀ (s : State) c e i rest, (s.eng (c * 16 + e)).run = i :: rest → s.runWaits c e i = true → s.runItem c e = s)
  ∧ (∀ (s : State) c e d errs late rest, (s.eng (c * 16 + e)).run = .load d errs late :: rest →
    s.runWaits c e (.load d errs late) = false →
    s.runItem c e = (s.updEng (c * 16 + e) (fun q => { q with run := rest })).loadArray d errs late false)
  ∧ (∀ (s : State) c e op nib f r rest, (s.eng (c * 16 + e)).run = .slot op nib f :: rest →
    s.runWaits c e (.slot op nib f) = false → f.row = some r →
    s.runItem c e = (if nib then (s.updEng (c * 16 + e) (fun q => { q with run := rest })).firePair op f.env f.twin
      else (s.updEng (c * 16 + e) (fun q => { q with run := rest })).fire op f.env.lo f.twin))
  ∧ (∀ (s : State) c e op nib f rest, (s.eng (c * 16 + e)).run = .slot op nib f :: rest →
    s.runWaits c e (.slot op nib f) = false → f.row = none →
    s.runItem c e = (s.updEng (c * 16 + e) (fun q => { q with run := rest })).skipSlot op nib)

/-! ### Streams, attention and the fabric (Chapters 6 to 8) -/

/-- MEM_READ, MEM_WRITE, XFER, TRANSFER_ACK and TRANSFER_RESEND (R22, R78, R138, R141, R176, R191, R192, R201, R212,
R335). Points that the spec leaves open are settled by log 121, log 133, log 153 and log 157. -/
def Obligations.StreamCommands : Prop :=
  (∀ (s : State) (g : GroupIx) layer kv gs (dst : MemUnit) off n, s.memRuns dst = true →
    s.readsInto g.val layer kv dst off (32 * gs.length) = true → n ≤ 4 →
    off + 32 * gs.length ≤ memSize dst → (∀ a ∈ gs, a < deviceGranules ∧ s.poison.contains a = false) →
    ∃ t, exec (.memRead g layer kv gs [] dst off n) s = .next t
      ∧ (∀ i j, i < gs.length → j < 32 → t.memAt? dst (off + 32 * i + j) = some (memByte s.mem (32 * gs.getD i 0 + j)))
      ∧ (∀ k, k < off ∨ off + 32 * gs.length ≤ k → t.memAt? dst k = s.memAt? dst k)
      ∧ (∀ u k, u ≠ dst → k < memSize u → t.memAt? u k = s.memAt? u k)
      ∧ (kv = false → (∀ a ∈ gs, (t.grp g.val).hasRead a = true)
        ∧ ((∀ a ∈ gs, (s.grp g.val).hasRead a = true) → t.wide = s.wide))
      ∧ OnlyKeys [g.val] s.groups t.groups
      ∧ OnlyChanges [.cores, .basin, .wide, .groups, .stackTbl, .regs] s t)
  ∧ (∀ (s : State) (g : GroupIx) layer kv gs errs (dst : MemUnit) off n, s.memRuns dst = true →
    s.readsInto g.val layer kv dst off (32 * gs.length) = true → 4 < n →
    off + 32 * gs.length ≤ memSize dst → (∀ a ∈ gs, a < deviceGranules) →
    ∃ t, exec (.memRead g layer kv gs errs dst off n) s = .next t
      ∧ (∀ k, k < 32 * gs.length → t.memAt? dst (off + k) = some 0)
      ∧ (t.reg (Blk.usher.at Reg.E2E_FAILED)).toNat = min 0xFFFFFFFF ((s.reg (Blk.usher.at Reg.E2E_FAILED)).toNat + 1)
      ∧ (t.reg (Blk.usher.at Reg.E2E_RESENDS)).toNat = min 0xFFFFFFFF ((s.reg (Blk.usher.at Reg.E2E_RESENDS)).toNat + 4)
      ∧ OnlyChanges [.cores, .basin, .reqs, .regs, .recorder, .nvm] s t)
  ∧ (∀ (s : State) (g : GroupIx) layer kv gs errs (dst : MemUnit) off n a, s.memRuns dst = true →
    s.readsInto g.val layer kv dst off (32 * gs.length) = true →
    gs.find? (fun a => decide (deviceGranules ≤ a)) = some a →
    exec (.memRead g layer kv gs errs dst off n) s = .fault (.noSuchGranule a))
  ∧ (∀ (s : State) (g : GroupIx) layer kv gs errs (dst : MemUnit) off n,
    (s.memRuns dst = false ∨ s.readsInto g.val layer kv dst off (32 * gs.length) = false) →
    exec (.memRead g layer kv gs errs dst off n) s = .next s)
  ∧ (∀ (s : State) (g : GroupIx) layer ctx pos (c : CoreIx) src a e x, s.unitRuns c.val = true →
    s.streams g.val clsMemWrite layer true = true →
    s.attnEntry g.val layer = some a → s.ctx? ctx = some x → (s.writePage a ctx pos x).1 = some e →
    ∃ t, exec (.memWrite g layer ctx pos c src) s = .next t
      ∧ (∀ k, (∀ b i, b < a.nb → i = pos % 128 * a.nb + b →
          k / 32 ≠ frameGranule (s.frameStacks x) e.frame (a.scaleBase + i / 32)
          ∧ (if a.kv8 then k / 32 ≠ frameGranule (s.frameStacks x) e.frame (2 * i)
              ∧ k / 32 ≠ frameGranule (s.frameStacks x) e.frame (2 * i + 1)
            else k / 32 ≠ frameGranule (s.frameStacks x) e.frame i)) → memByte t.mem k = memByte s.mem k)
      ∧ (a.cross = false → t.contexts = s.contexts) ∧ OnlyKeys [ctx] s.contexts t.contexts
      ∧ OnlyChanges [.mem, .poison, .wide, .regs, .reqs, .recorder, .nvm, .contexts, .stackTbl] s t)
  ∧ (∀ (s : State) (g : GroupIx) layer ctx pos (c : CoreIx) src a x, s.unitRuns c.val = true →
    s.streams g.val clsMemWrite layer true = true →
    s.attnEntry g.val layer = some a → s.ctx? ctx = some x → (s.writePage a ctx pos x).1 = none →
    ∃ t, exec (.memWrite g layer ctx pos c src) s = .next t ∧ OnlyChanges [.stackTbl] s t)
  ∧ (∀ (s : State) (g : GroupIx) layer ctx pos (c : CoreIx) src,
    (s.unitRuns c.val = false ∨ s.streams g.val clsMemWrite layer true = false) →
    exec (.memWrite g layer ctx pos c src) s = .next s)
  ∧ (∀ (s : State) (a : AttnEnt) ctx pos x, a.cross = false →
    (x.length ≤ pos → pos < x.length + x.grow.length → s.writePage a ctx pos x = (s.pte? ctx a.layer (pos / 128), s))
    ∧ ((pos < x.length ∨ x.length + x.grow.length ≤ pos) → s.writePage a ctx pos x = (none, s)))
  ∧ (∀ (s : State) (a : AttnEnt) ctx pos x, a.cross = true →
    (x.tables.getD a.layer []).any (fun e => e.page == pos / 128) = false →
    x.budget ≤ (x.tables.getD a.layer []).length → (s.writePage a ctx pos x).1 = none)
  ∧ (∀ (s : State) (a : AttnEnt) x frame p b v, memWf s.mem = true → a.kv8 = false →
    frameGranule (s.frameStacks x) frame (p * a.nb + b)
      ≠ frameGranule (s.frameStacks x) frame (a.scaleBase + (p * a.nb + b) / 32) →
    (s.putKvBlock a x frame p b v).granule (frameGranule (s.frameStacks x) frame (p * a.nb + b))
      = (kvGranules v false).headD 0 % 2 ^ 256
    ∧ memByte (s.putKvBlock a x frame p b v).mem
        (32 * frameGranule (s.frameStacks x) frame (a.scaleBase + (p * a.nb + b) / 32) + (p * a.nb + b) % 32)
      = BitVec.ofNat 8 v.e8)
  ∧ (∀ (s : State) (src dst : MemUnit) o q n d,
    ((∃ c, transferCore src dst = some c ∧ s.nextTransfer c src dst o q = true ∧ s.mayIssue c clsXfer 0 = true)
      ∨ (transferCore src dst = none ∧ s.memRuns src = true)) →
    s.memStopped dst = false → o + n ≤ memSize src → q + n ≤ memSize dst →
    ∃ t, exec (.xfer src dst o q n [] d) s = .next t
      ∧ (d = true → ∀ j, j < n → t.memAt? dst (q + j) = some (s.memAt src (o + j)))
      ∧ (d = false → ∀ u k, t.memAt? u k = s.memAt? u k)
      ∧ (∀ k, k < q ∨ q + n ≤ k → t.memAt? dst k = s.memAt? dst k)
      ∧ (∀ u k, u ≠ dst → k < memSize u → t.memAt? u k = s.memAt? u k)
      ∧ t.fabric.transfers = s.fabric.transfers ++ [⟨src, dst, s.fabric.nextSeq.getD (pairKey src dst) 0, q, s.getMem src o n, 0, d⟩]
      ∧ t.fabric.nextSeq.getD (pairKey src dst) 0 = s.fabric.nextSeq.getD (pairKey src dst) 0 + 1
      ∧ OnlyChanges [.cores, .basin, .fabric] s t)
  ∧ (∀ (s : State) (src dst : CoreIx) o q n d, s.nextTransfer src.val (.core src) (.core dst) o q = true →
    s.mayIssue src.val clsXfer 0 = true → (s.core dst.val).stopped = true →
    exec (.xfer (.core src) (.core dst) o q n [] d) s
      = .next ((s.issue src.val clsXfer 0).bump (crtReg dst.val Reg.FENCE_NACKS) 1))
  ∧ (∀ (s : State) (src : CoreIx) (dst : MemUnit) o q n errs d, s.nextTransfer src.val (.core src) dst o q = true →
    s.owesRecord src.val clsXfer 0 = true → q + n ≤ memSize dst →
    ∃ t, exec (.xfer (.core src) dst o q n errs d) s = .next t ∧ (∀ j, j < n → t.memAt? dst (q + j) = some 0)
      ∧ t.reqs = (s.degradeMem dst).reqs ∧ OnlyChanges [.cores, .basin, .reqs] s t)
  ∧ (∀ (s : State) (src dst : MemUnit) o q n errs d c, transferCore src dst = some c →
    (s.nextTransfer c src dst o q = false
      ∨ (s.mayIssue c clsXfer 0 = false ∧ s.owesRecord c clsXfer 0 = false)) →
    exec (.xfer src dst o q n errs d) s = .next s)
  ∧ (∀ (s : State) (src dst : MemUnit) n, s.fabric.transfers.any (fun t => t.names src dst n && t.delivered) = true →
    ∃ t, exec (.transferAck src dst n) s = .next t ∧ OnlyChanges [.fabric] s t
      ∧ t.fabric.transfers = s.fabric.transfers.filter (fun t => !t.names src dst n))
  ∧ (∀ (s : State) (src dst : MemUnit) n, s.fabric.transfers.any (fun t => t.names src dst n && t.delivered) = false →
    exec (.transferAck src dst n) s = .next s)
  ∧ (∀ (s : State) (src dst : MemUnit) n d x, s.fabric.transfers.find? (fun t => t.names src dst n) = some x →
    x.resends < 4 →
    ∃ t, exec (.transferResend src dst n d) s = .next t ∧ t.fabric.transfers.length = s.fabric.transfers.length
      ∧ (t.reg (Blk.usher.at Reg.E2E_RESENDS)).toNat = min 0xFFFFFFFF ((s.reg (Blk.usher.at Reg.E2E_RESENDS)).toNat + 1)
      ∧ OnlyChanges [.fabric, .regs, .cores, .basin] s t)
  ∧ (∀ (s : State) (src dst : MemUnit) n d x, s.fabric.transfers.find? (fun t => t.names src dst n) = some x →
    4 ≤ x.resends → x.dstOff + x.data.length ≤ memSize dst →
    ∃ t, exec (.transferResend src dst n d) s = .next t ∧ (∀ y ∈ t.fabric.transfers, y.names src dst n = false)
      ∧ (x.delivered = false → ∀ j, j < x.data.length → t.memAt? dst (x.dstOff + j) = some 0)
      ∧ (t.reg (Blk.usher.at Reg.E2E_FAILED)).toNat = min 0xFFFFFFFF ((s.reg (Blk.usher.at Reg.E2E_FAILED)).toNat + 1)
      ∧ OnlyChanges [.fabric, .regs, .cores, .basin, .reqs, .recorder, .nvm] s t)
  ∧ (∀ (s : State) (src dst : MemUnit) n d, s.fabric.transfers.find? (fun t => t.names src dst n) = none →
    exec (.transferResend src dst n d) s = .next s)

/-- PAGE_WALK, SLUICE_DESCRIPTOR and ATTN_PAGE (R204 to R206, R210, R211, R219): the next walk of a walker goes, as
one descriptor for each page, to every Sluice of its frames; a Sluice takes its descriptors in order and delivers
their pages, and discards and counts those of another tick; a core takes its pages in the order of their delivery
until the last one ends its walk with an output for each head. Points that the spec leaves open are settled by log 79,
log 81, log 138 and log 156. -/
def Obligations.AttentionCommands : Prop :=
  (∀ (s : State) (g : GroupIx) ctx layer pre lcore span late c a k w ds, (s.grp g.val).running = true →
    (if pre then k = 0 else (s.grp g.val).walkSlots.find? (fun p => p.2 == ctx) = some (k, ctx)) →
    w = (if pre then ctx else k) % 8 →
    (s.walkList g.val w)[(s.grp g.val).walked.getD w 0]? = some (layer, ctx, pre, k) →
    s.ctx? ctx = some c → s.attnEntry g.val layer = some a →
    (∀ x, (s.inst g.val).active = some x → x.lostLayers.contains layer = false) →
    (pre = true ∨ span + 1 = a.spanCores) → ds = s.walkDescs g.val ctx layer pre k lcore span c a →
    (∀ j ∈ s.frameStacks c, (s.stack j).descs.length + ds.length ≤ 4096) →
    ∃ t, exec (.pageWalk g ctx layer pre lcore span late) s = .next t
      ∧ t.out = s.out ++ ds.map (fun d => .descriptor d.word)
      ∧ (t.grp g.val).descs = (s.grp g.val).descs + ds.length
      ∧ (t.grp g.val).walked.getD w 0 = (s.grp g.val).walked.getD w 0 + 1
      ∧ ((s.frameStacks c).Nodup →
        ∀ j ∈ s.frameStacks c, (t.stack j).descs = (s.stack j).descs ++ ds.map PageDesc.word)
      ∧ (∀ j, j ∉ s.frameStacks c → t.stack j = s.stack j)
      ∧ OnlyKeys [g.val] s.groups t.groups ∧ OnlyChanges [.out, .groups, .stackTbl, .regs] s t)
  ∧ (∀ (s : State) (g : GroupIx) ctx layer lcore span late, ((s.grp g.val).running = false
      ∨ (s.walkList g.val (ctx % 8))[(s.grp g.val).walked.getD (ctx % 8) 0]? ≠ some (layer, ctx, true, 0)) →
    exec (.pageWalk g ctx layer true lcore span late) s = .next s)
  ∧ (∀ (s : State) (g : GroupIx) ctx layer lcore span late,
    (∀ k, (s.grp g.val).walkSlots.find? (fun p => p.2 == ctx) = some (k, ctx) → (s.grp g.val).running = false
      ∨ (s.walkList g.val (k % 8))[(s.grp g.val).walked.getD (k % 8) 0]? ≠ some (layer, ctx, false, k)) →
    exec (.pageWalk g ctx layer false lcore span late) s = .next s)
  ∧ (∀ (s : State) g ctx layer pre k lcore span late c a j, s.ctx? ctx = some c → s.attnEntry g layer = some a →
    (∀ x, (s.inst g).active = some x → x.lostLayers.contains layer = false) → j ∈ s.frameStacks c →
    4096 < (s.stack j).descs.length + (s.walkDescs g ctx layer pre k lcore span c a).length →
    s.makeWalk g ctx layer pre k lcore span late = s)
  ∧ (∀ (s : State) d k, ((s.queueDesc d k).stack k).descs = (s.stack k).descs ++ [d]
    ∧ OnlyKeys [k] s.stackTbl (s.queueDesc d k).stackTbl)
  ∧ (∀ (d : PageDesc), d.frame < 2 ^ 35 → d.granules < 2 ^ 12 → d.fill < 2 ^ 8 → d.start < 2 ^ 7 → d.posBase < 2 ^ 31 →
    d.ctx < 2 ^ 12 → d.layer < 2 ^ 10 → d.slot < 2 ^ 11 → d.lcore < 2 ^ 10 → d.span < 2 ^ 4 → d.pte < 2 ^ 9 →
    d.tag < 2 ^ 8 → d.group < 2 ^ 4 → PageDesc.ofWord d.word = d)
  ∧ (∀ (s : State) (k : StackIx) w errs, (s.stack k.val).descs.head? = some w → s.descLive (PageDesc.ofWord w) = false →
    ∃ t, exec (.sluiceDescriptor k w errs) s = .next t ∧ (t.stack k.val).descs = (s.stack k.val).descs.tail
      ∧ OnlyKeys [k.val] s.stackTbl t.stackTbl
      ∧ OnlyKeys ((s.descCores (PageDesc.ofWord w)).map (fun c => (Blk.se (coreIx c)).at Reg.SE_STALE_DESC)) s.regs t.regs
      ∧ OnlyChanges [.stackTbl, .regs] s t)
  ∧ (∀ (s : State) (k : StackIx) w c gs, (s.stack k.val).descs.head? = some w → s.descLive (PageDesc.ofWord w) = true →
    s.ctx? (PageDesc.ofWord w).ctx = some c →
    gs = s.frameGranules c (PageDesc.ofWord w).frame (PageDesc.ofWord w).granules →
    (∀ x ∈ gs, s.poison.contains x = false) →
    ∃ t, exec (.sluiceDescriptor k w []) s = .next t ∧ (t.stack k.val).descs = (s.stack k.val).descs.tail
      ∧ t.wide.getD ((Blk.sluice k).at Reg.SL_GRANULES_LO) 0 = (s.wide.getD ((Blk.sluice k).at Reg.SL_GRANULES_LO) 0
        + (gs.filter (fun x => stackOf x == k.val)).length) % 2 ^ 64
      ∧ (∀ n ∈ s.descCores (PageDesc.ofWord w), ∃ p ∈ (t.core n).pages, p.desc = w
        ∧ ∀ (i x : Nat), gs[i]? = some x → stackOf x = k.val → p.got.get? i = some (some (s.granule x), false))
      ∧ OnlyKeys [k.val] s.stackTbl t.stackTbl ∧ OnlyKeys (s.descCores (PageDesc.ofWord w)) s.cores t.cores
      ∧ OnlyChanges [.stackTbl, .cores, .regs, .wide] s t)
  ∧ (∀ (s : State) (k : StackIx) w errs, (s.stack k.val).descs.head? ≠ some w →
    exec (.sluiceDescriptor k w errs) s = .next s)
  ∧ (∀ (s : State) (c : CoreIx) q cur wait out bf16 p d a x v, (s.core c.val).nextPage = some p → p.complete = true →
    s.mayIssue c.val clsAttn 0 = true → d = PageDesc.ofWord p.desc →
    s.attnEntry d.group d.layer = some a → s.ctx? d.ctx = some x →
    s.openWalk c.val d (s.carried c.val d a q).length = some v → d.last = false →
    ∃ t y, exec (.attnPage c p.desc q cur wait out bf16) s = .next t ∧ (t.core c.val).walk = some y ∧ y.group = v.group
      ∧ y.ctx = v.ctx ∧ y.layer = v.layer ∧ y.slot = v.slot ∧ (t.core c.val).pages = (s.core c.val).pages.erase p
      ∧ (a.pageBad p.read d.fill = false → s.pageDamaged d.ctx d.layer (d.posBase / 128) = false →
        y.heads = (s.takePage d.group a d p.read (v.heads.zip (s.carried c.val d a q))).1)
      ∧ (a.pageBad p.read d.fill = true → y.heads = v.heads ∧ t.reqs = (s.degrade [d.slot]).reqs)
      ∧ (t.core c.val).vreg = (s.core c.val).vreg ∧ (t.core c.val).lmem = (s.core c.val).lmem
      ∧ OnlyKeys [c.val] s.cores t.cores
      ∧ OnlyChanges [.cores, .regs, .wide, .contexts, .reqs, .recorder, .nvm] s t)
  ∧ (∀ (s : State) (c : CoreIx) q cur wait out bf16 p d a x v hs, (s.core c.val).nextPage = some p → p.complete = true →
    s.mayIssue c.val clsAttn 0 = true → d = PageDesc.ofWord p.desc →
    s.attnEntry d.group d.layer = some a → s.ctx? d.ctx = some x →
    s.openWalk c.val d (s.carried c.val d a q).length = some v → d.last = true →
    hs = (s.takePage d.group a d p.read (v.heads.zip (s.carried c.val d a q))).1 →
    ∃ t, exec (.attnPage c p.desc q cur wait out bf16) s = .next t ∧ (t.core c.val).walk = none
      ∧ (t.core c.val).pages = (s.core c.val).pages.erase p ∧ (t.core c.val).vreg = (s.core c.val).vreg
      ∧ (a.pageBad p.read d.fill = false → s.pageDamaged d.ctx d.layer (d.posBase / 128) = false → ∀ (i : Nat) b,
        ((if a.cross then hs else (s.takeCurrent c.val d.group x.length a cur (hs.zip (s.carried c.val d a q))).1).flatMap
          (fun h => outBytes bf16 (if h.empty then List.replicate a.valueDim 0 else h.o.map (fun y => fpDiv y h.l))))[i]? = some b →
        t.memAt? (.core c) (out + i) = some b)
      ∧ OnlyKeys [c.val] s.cores t.cores ∧ t.mem = s.mem ∧ t.groups = s.groups)
  ∧ (∀ (s : State) (c : CoreIx) q cur wait out bf16 p d a, (s.core c.val).nextPage = some p → p.complete = true →
    s.mayIssue c.val clsAttn 0 = true → d = PageDesc.ofWord p.desc → s.attnEntry d.group d.layer = some a →
    s.openWalk c.val d (s.carried c.val d a q).length = none →
    exec (.attnPage c p.desc q cur wait out bf16) s = .next (s.issue c.val clsAttn 0))
  ∧ (∀ (s : State) (c : CoreIx) w q cur wait out bf16, ((∀ p, (s.core c.val).nextPage = some p → p.desc ≠ w
      ∨ p.complete = false) ∨ s.mayIssue c.val clsAttn 0 = false) →
    exec (.attnPage c w q cur wait out bf16) s = .next s)

/-- PAGE_TABLE_PREPARE, SPILL_WRITE and SPILL_WRITE_COMPLETE (R216, R217): the pages that the next tick's positions
need are prepared, the victim of a full layer being neither the sink nor one of the four highest; a spill that cannot
be written or fails drops its page. Points that the spec leaves open are settled by log 76 and log 77. -/
def Obligations.PageCommands : Prop :=
  (∀ (t : List Pte) v, victimOf t = some v → v ∈ t ∧ v.sink = false
    ∧ (∀ w ∈ t, w.sink = false → w.page < v.page →
        w.page ∉ ((byPage t).drop ((byPage t).length - 4)).map (·.page) → v.score < w.score)
    ∧ (∀ w ∈ t, w.sink = false → w.page ∉ ((byPage t).drop ((byPage t).length - 4)).map (·.page) → v.score ≤ w.score)
    ∧ v.page ∉ ((byPage t).drop ((byPage t).length - 4)).map (·.page))
  ∧ (∀ (t : List Pte) start n j, j ∈ newPages t start n ↔
    0 < n ∧ start / 128 ≤ j ∧ j ≤ (start + n - 1) / 128 ∧ t.any (fun e => e.page == j) = false)
  ∧ (∀ (s : State) (g : GroupIx) ctx c start n, s.ctx? ctx = some c → (s.grp g.val).running = true → c.group = g.val →
    c.truncate = none → start = c.length + c.grow.length → n = (s.nextRows g.val ctx).1 →
    ∃ t, exec (.pageTablePrepare g ctx) s = .next t
      ∧ (t.grp g.val).preps.filter (fun p => p.ctx != ctx) = (s.grp g.val).preps.filter (fun p => p.ctx != ctx)
      ∧ (∀ a ∈ s.attnOf g.val, a.cross = false →
        (c.tables.getD a.layer []).length + (newPages (c.tables.getD a.layer []) start n).length ≤ c.budget →
        (newPages (c.tables.getD a.layer []) start n).length ≤ (c.free.getD a.layer []).length →
        ∀ j ∈ newPages (c.tables.getD a.layer []) start n, ∃ p ∈ (t.grp g.val).preps, p.ctx = ctx ∧ p.layer = a.layer
          ∧ p.page = j ∧ p.victim = none ∧ p.frame ∈ c.free.getD a.layer [])
      ∧ (∀ p ∈ (t.grp g.val).preps, p.ctx = ctx → p.page ∈ newPages (c.tables.getD p.layer []) start n)
      ∧ OnlyKeys [g.val] s.groups t.groups ∧ OnlyChanges [.groups] s t)
  ∧ (∀ (s : State) (g : GroupIx) ctx c, s.ctx? ctx = some c → (s.grp g.val).running = true → c.group = g.val →
    ∃ t, exec (.pageTablePrepare g ctx) s = .next t ∧ OnlyKeys [g.val] s.groups t.groups ∧ OnlyChanges [.groups] s t)
  ∧ (∀ (s : State) (g : GroupIx) ctx, (s.grp g.val).running = false → exec (.pageTablePrepare g ctx) s = .next s)
  ∧ (∀ (s : State) (k : StackIx) ctx layer page q c a, s.spill.queue.find? (fun x => x.names ctx layer page && !x.writing) = some q →
    s.ctx? ctx = some c → s.attnEntry c.group layer = some a → k.val ∈ s.frameStacks c →
    (s.spillPlace c.group a page).1 + (s.spillPlace c.group a page).2 ≤ c.backing.len →
    s.targetUsable c.backing.target c.backing.ns = true →
    ∃ t, exec (.spillWrite k ctx layer page) s = .next t
      ∧ t.out = s.out ++ [.nvmeWrite ⟨c.backing.target, c.backing.ns, c.backing.base + (s.spillPlace c.group a page).1,
            32 * q.granules⟩ ((s.frameGranules c q.frame q.granules).flatMap (fun i => Crypto.bytesLE 32 (s.granule i))) 4]
      ∧ t.spill.lentGranules = s.spill.lentGranules
      ∧ (∀ x ∈ t.spill.queue, x.names ctx layer page = true → x.writing = true)
      ∧ OnlyChanges [.out, .wire, .wide, .spill] s t)
  ∧ (∀ (s : State) (k : StackIx) ctx layer page q c a, s.spill.queue.find? (fun x => x.names ctx layer page && !x.writing) = some q →
    s.ctx? ctx = some c → s.attnEntry c.group layer = some a → k.val ∈ s.frameStacks c →
    (c.backing.len < (s.spillPlace c.group a page).1 + (s.spillPlace c.group a page).2
      ∨ s.targetUsable c.backing.target c.backing.ns = false) →
    exec (.spillWrite k ctx layer page) s = .next (s.dropSpill q))
  ∧ (∀ (s : State) ctx layer page q c ok, s.spill.queue.find? (fun x => x.names ctx layer page && x.writing) = some q →
    s.ctx? ctx = some c →
    ∃ t, exec (.spillWriteComplete ctx layer page ok) s = .next t
      ∧ t.spill.lentGranules = s.spill.lentGranules - q.granules
      ∧ (∀ x ∈ t.spill.queue, x.names q.ctx q.layer q.page = false)
      ∧ (ok = false → (t.reg (Blk.walk.at Reg.SPILL_DROPS)).toNat
        = min 0xFFFFFFFF ((s.reg (Blk.walk.at Reg.SPILL_DROPS)).toNat + 1))
      ∧ OnlyChanges [.spill, .regs, .recorder, .nvm] s t)
  ∧ (∀ (s : State) (k : StackIx) ctx layer page ok,
    (s.spill.queue.find? (fun x => x.names ctx layer page && !x.writing) = none →
      exec (.spillWrite k ctx layer page) s = .next s)
    ∧ (s.spill.queue.find? (fun x => x.names ctx layer page && x.writing) = none →
      exec (.spillWriteComplete ctx layer page ok) s = .next s))

/-- FLIT_RECEIVED, CONTROL_MESSAGE_HOP and CN_SEGMENT_RETRAIN (R169, R178, R179, R184, R185, R332): the losers of an
arbitration count their losses in a row, and the eighth promotes; a corrected or uncorrectable flit is counted where
it arrives; a control message is resent up to three times and its segment is bypassed with the fourth failure, and
returns once retrained, which is tried at most once a second. Points that the spec leaves open are settled by log 20
and log 152. -/
def Obligations.HopEvents : Prop :=
  (∀ (s : State) d south data errs arb v, eccRead data errs = (some v, true) →
    exec (.flitReceived (.link d south) data errs false arb) s
      = .next ((s.arbitrate (.link d south) arb).bump ((Blk.dlink d south).at Reg.DL_CORRECTED) 1))
  ∧ (∀ (s : State) d south data errs bad arb, (bad = true ∨ (eccRead data errs).1 = none) →
    exec (.flitReceived (.link d south) data errs bad arb) s
      = .next ((s.arbitrate (.link d south) arb).bump ((Blk.dlink d south).at Reg.DL_UNCORRECTABLE) 1))
  ∧ (∀ (s : State) (hop : HopUnit) data arb, exec (.flitReceived hop data [] false arb) s = .next (s.arbitrate hop arb))
  ∧ (∀ (s : State) (c : ClusterIx) data errs arb v, eccRead data errs = (some v, true) →
    exec (.flitReceived (.router c) data errs false arb) s
      = .next ((s.arbitrate (.router c) arb).bump ((Blk.xbar c).at Reg.CORRECTED) 1))
  ∧ (∀ (s : State) hop a, OnlyChanges [.fabric, .regs] s (s.arbitrate hop a)
    ∧ (a.input < 64 → (∀ i ∈ a.losers, i < 64) → a.input ∉ a.losers → a.losers.Nodup →
      (s.arbitrate hop a).fabric.losses.getD (lossKey hop a.port a.input) 0 = 0
      ∧ ∀ i ∈ a.losers, (s.arbitrate hop a).fabric.losses.getD (lossKey hop a.port i) 0
        = s.fabric.losses.getD (lossKey hop a.port i) 0 + 1))
  ∧ (∀ (s : State) (c : ClusterIx) port input i, input < 64 → i < 64 → input ≠ i →
    s.fabric.losses.getD (lossKey (.router c) port i) 0 = 7 →
    (s.arbitrate (.router c) ⟨port, input, [i]⟩).promotedAt (.router c) port i = true
      ∧ ((s.arbitrate (.router c) ⟨port, input, [i]⟩).reg ((Blk.xbar c).at Reg.PROMOTIONS)).toNat
        = min 0xFFFFFFFF ((s.reg ((Blk.xbar c).at Reg.PROMOTIONS)).toNat + 1))
  ∧ (∀ (s : State) k core data errs, k < 36 → s.fabric.segTrained = true → s.fabric.segDown.get? k = none →
    s.hubsOverrun (segmentDie k) = false → failedHops data (errs.take 4) < 4 →
    ∃ t, exec (.controlMessageHop k core data errs) s = .next t
      ∧ t.out = s.out ++ List.replicate (failedHops data (errs.take 4)) (.hopNack k) ∧ OnlyChanges [.out, .regs] s t)
  ∧ (∀ (s : State) k core data errs, k < 36 → s.fabric.segTrained = true → s.fabric.segDown.get? k = none →
    (s.hubsOverrun (segmentDie k) = true ∨ failedHops data (errs.take 4) = 4) →
    ∃ t, exec (.controlMessageHop k core data errs) s = .next t ∧ t.fabric.segDown.get? k = some 0
      ∧ OnlyKeys [k] s.fabric.segDown t.fabric.segDown ∧ OnlyChanges [.out, .regs, .fabric] s t)
  ∧ (∀ (s : State) k n, s.fabric.segDown.get? k = some n → n < 3 → s.fabric.segReturning.contains k = false →
    (∀ x, s.fabric.segTried.get? k = some x → x + 1000000000 ≤ s.time.ns) →
    ∃ t, exec (.cnSegmentRetrain k true) s = .next t ∧ t.fabric.segTried.get? k = some s.time.ns
      ∧ (t.reg (Blk.usher.at Reg.CN_RETRAINS)).toNat = min 0xFFFFFFFF ((s.reg (Blk.usher.at Reg.CN_RETRAINS)).toNat + 1)
      ∧ (if s.groups.any (fun p => p.2.ticking) then k ∈ t.fabric.segReturning ∧ t.fabric.segDown = s.fabric.segDown
         else t.fabric.segDown.get? k = none) ∧ OnlyChanges [.regs, .fabric] s t)
  ∧ (∀ (s : State) k n, s.fabric.segDown.get? k = some n → n < 3 → s.fabric.segReturning.contains k = false →
    (∀ x, s.fabric.segTried.get? k = some x → x + 1000000000 ≤ s.time.ns) →
    ∃ t, exec (.cnSegmentRetrain k false) s = .next t ∧ t.fabric.segDown.get? k = some (n + 1)
      ∧ OnlyKeys [k] s.fabric.segDown t.fabric.segDown ∧ OnlyChanges [.regs, .fabric, .recorder, .nvm] s t)
  ∧ (∀ (s : State) k ok x, s.fabric.segTried.get? k = some x → s.time.ns < x + 1000000000 →
    exec (.cnSegmentRetrain k ok) s = .next s)
  ∧ (∀ (s : State) k ok, s.fabric.segDown.get? k = some 3 → exec (.cnSegmentRetrain k ok) s = .next s)

/-- Faults of the fabric (R190, R191, R193, R194, R297, Table 7-6): CORE_STOP, STAGE_FAILOVER, FABRIC_PATH_FAULT,
USHER_COMPUTE_DONE and DIE_LINK_RETRAIN. Points that the spec leaves open are settled by log 16, log 80 and log 146.
-/
def Obligations.FabricFaults : Prop :=
  (∀ (s : State) (c : CoreIx), (s.core c.val).stopped = false →
    ∃ t, exec (.coreStop c) s = .next t ∧ (t.core c.val).passThrough = true
      ∧ (s.groups.any (fun p => p.2.ticking) = true → (t.core c.val).stopped = true)
      ∧ ((t.core c.val).due.testBit 7 = true ∨ ((t.core c.val).fenced = true ∧ (t.core c.val).causes.testBit 7 = true))
      ∧ (∀ x ∈ t.fabric.transfers, x.src ≠ .core c ∧ x.dst ≠ .core c))
  ∧ (∀ (s : State) (c : ClusterIx) dir, 1 ≤ dir → dir ≤ 4 → portKind c.val dir ≠ 0 →
    s.fabric.stageDead.contains (dirKey c.val dir) = false → s.fabric.onStandby.contains (dirKey c.val dir) = false →
    ∃ t, exec (.stageFailover c dir) s = .next t ∧ dirKey c.val dir ∈ t.fabric.onStandby
      ∧ t.fabric.stageDead = s.fabric.stageDead ∧ t.fabric.meshDown = s.fabric.meshDown
      ∧ (t.core (18 * c.val + (stageCores dir).1)).stageFault = true
      ∧ (s.groups.any (fun p => p.2.ticking) = true → (t.core (18 * c.val + (stageCores dir).1)).stopped = true))
  ∧ (∀ (s : State) (c : ClusterIx) dir, 1 ≤ dir → dir ≤ 4 → portKind c.val dir ≠ 0 →
    s.fabric.stageDead.contains (dirKey c.val dir) = false → s.fabric.onStandby.contains (dirKey c.val dir) = true →
    ∃ t, exec (.stageFailover c dir) s = .next t ∧ dirKey c.val dir ∈ t.fabric.stageDead
      ∧ (t.core (18 * c.val + (stageCores dir).2)).stageFault = true)
  ∧ (∀ (s : State) (k : StackIx), (s.stack k.val).failed = false → s.fabric.lostStacks.contains k.val = false →
    ∃ t, exec (.fabricPathFault (.stackEdge k)) s = .next t
      ∧ (if s.groups.any (fun p => p.2.ticking) then k.val ∈ t.fabric.lostStacks ∧ t.stackTbl = s.stackTbl
         else (t.stack k.val).failed = true ∧ (t.stack k.val).inService = false)
      ∧ OnlyChanges [.fabric, .stackTbl] s t)
  ∧ (∀ (s : State) d south, ∃ t, exec (.fabricPathFault (.dieLink d south)) s = .next t
      ∧ t.fabric.linkWorks d.val south = false)
  ∧ (∀ (s : State) d (c : Fin 8) dir, portKind (8 * d.val + c.val) dir = 1 →
    ∃ t, exec (.fabricPathFault (.meshLink d c dir)) s = .next t
      ∧ dirKey (8 * d.val + c.val) dir ∈ t.fabric.meshDown)
  ∧ (∀ (s : State) c, ∃ t, exec (.fabricPathFault (.meshRouter c)) s = .next t ∧ c.val ∈ t.fabric.routerDown)
  ∧ (∀ (s : State), s.clocks.safe = false → ∃ t, exec (.fabricPathFault .portEdge) s = .next t
      ∧ t.clocks.safe = true ∧ t.port.linkUp = false)
  ∧ (∀ (s : State) n r g, s.usher.computing = some (r, g) →
    ∃ t, exec (.usherComputeDone n) s = .next t ∧ t.usher.lastMicros = n ∧ t.usher.lastGroup = g ∧ t.usher.lastReason = r
      ∧ (r ≠ 0 → t.usher.ready = s.usher.ready ++ [(r, g)] ∧ t.groups = s.groups)
      ∧ (r = 0 → t.usher.ready = s.usher.ready ∧ ∀ x, (s.grp g).staged = some x → (t.grp g).staged
        = some { x with computed := decide (x.phase = .verified) }) ∧ OnlyKeys [g] s.groups t.groups
      ∧ OnlyChanges [.usher, .groups] s t)
  ∧ (∀ (s : State) n, s.usher.computing = none → exec (.usherComputeDone n) s = .next s)
  ∧ (∀ (s : State) (d : DieIx) south, s.fabric.linkWorks d.val south = false → s.linkClockOk d.val south = true →
    s.linkClockOk (linkPeer d.val south) (!south) = true →
    ∃ t, exec (.dieLinkRetrain d south true) s = .next t ∧ t.fabric.linkWorks d.val south = true
      ∧ (t.reg ((Blk.dlink d south).at Reg.DL_RETRAINS)).toNat
        = min 0xFFFFFFFF ((s.reg ((Blk.dlink d south).at Reg.DL_RETRAINS)).toNat + 1)
      ∧ OnlyChanges [.fabric, .regs, .cores, .groups, .usher] s t)
  ∧ (∀ (s : State) (d : DieIx) south, s.fabric.linkWorks d.val south = false →
    exec (.dieLinkRetrain d south false) s = .next (s.bump ((Blk.dlink d south).at Reg.DL_RETRAINS) 1))
  ∧ (∀ (s : State) (d : DieIx) south ok, s.fabric.linkWorks d.val south = true →
    exec (.dieLinkRetrain d south ok) s = .next s)

/-! ### Calibration and upkeep (Chapters 5 and 13) -/

/-- Calibration runs (R118, R123, R130, R131): CAL_RUN_START, CAL_STEP, CAL_SPARE_STEP, CAL_ROW_LOCALISATION,
CAL_RUN_ABANDON and CAL_INTERVAL_REQUEST. The steps empty the array and change no value in force. Points that the spec
leaves open are settled by log 71 and log 134. -/
def Obligations.CalibrationEvents : Prop :=
  (∀ (s : State) (c : CoreIx) (e : EngIx) b, s.queueHead = some (arrKey c e b) →
    ∃ t, exec (.calRunStart c e b) s = .next t
      ∧ (t.arr (arrKey c e b)).cal.run = (s.arr (arrKey c e b)).cal.run.map (fun r => { r with
        phase := .sampling, startTemp := s.arrTemp (arrKey c e b), tempSum := 0, tempN := 0, ticks := 0 })
      ∧ OnlyKeys [arrKey c e b] s.arrays t.arrays ∧ OnlyChanges [.arrays] s t)
  ∧ (∀ (s : State) (c : CoreIx) (e : EngIx) b, s.queueHead ≠ some (arrKey c e b) → exec (.calRunStart c e b) s = .next s)
  ∧ (∀ (s : State) (c : CoreIx) (e : EngIx) b sweep rows r0, s.stepMay (arrKey c e b) .sampling 1692 = true →
    (s.arr (arrKey c e b)).cal.run = some r0 →
    ∃ t : State, exec (.calStep c e b sweep rows) s = .next (t.commitOff (arrKey c e b)) ∧ (t.arr (arrKey c e b)).phase = .empty
      ∧ (t.arr (arrKey c e b)).tile = none ∧ (t.arr (arrKey c e b)).cal.inForce = (s.arr (arrKey c e b)).cal.inForce
      ∧ t.wide.getD (engReg c.val e.val Reg.FIRES_LO) 0 = (s.wide.getD (engReg c.val e.val Reg.FIRES_LO) 0 + 65) % 2 ^ 64
      ∧ (let cal := (s.arr (arrKey c e b)).cal
         let r1 := { r0 with sweeps := (List.range 530).map (fun c => (c, nominalSweep (colVal cal c) c sweep)) }
         match r1.badReason cal s.resBound with
         | some _ => (t.arr (arrKey c e b)).cal.run = none ∧ (t.arr (arrKey c e b)).cal.badStreak = min 3 (cal.badStreak + 1)
           ∧ (t.reg (Blk.cal.at Reg.RUNS_BAD)).toNat = min 0xFFFFFFFF ((s.reg (Blk.cal.at Reg.RUNS_BAD)).toNat + 1)
         | none => ∃ r, (t.arr (arrKey c e b)).cal.run = some r ∧ r.cls = r0.cls ∧ r.order = r0.order
           ∧ r.phase = (if r.need.isEmpty && !r.needRows then .ready else .stepped))
      ∧ OnlyKeys [arrKey c e b] s.arrays t.arrays
      ∧ OnlyChanges [.arrays, .engines, .groups, .wide, .regs, .cores, .recorder, .nvm] s t)
  ∧ (∀ (s : State) k, (s.groups.any (fun p => p.2.ticking) = true → s.commitOff k = s)
    ∧ (s.groups.any (fun p => p.2.ticking) = false → s.commitOff k = s.commitDue k))
  ∧ (∀ (s : State) (c : CoreIx) (e : EngIx) b reads r, s.stepMay (arrKey c e b) .stepped 1476 = true →
    (s.arr (arrKey c e b)).cal.run = some r →
    ∃ (t : State) (q : CalRun), exec (.calSpareStep c e b reads) s = .next (t.commitOff (arrKey c e b))
      ∧ (t.arr (arrKey c e b)).cal.run = some q
      ∧ (∀ p ∈ r.candidates (s.arr (arrKey c e b)).cal,
        if sparePasses (s.arr (arrKey c e b)).cal p.2 s.resBound (spareSweep (s.arr (arrKey c e b)).cal p.2 reads)
        then p ∈ q.repairs else p.2 ∈ (t.arr (arrKey c e b)).cal.badSpares)
      ∧ t.wide.getD (engReg c.val e.val Reg.FIRES_LO) 0 = (s.wide.getD (engReg c.val e.val Reg.FIRES_LO) 0 + 56) % 2 ^ 64
      ∧ (t.arr (arrKey c e b)).cal.inForce = (s.arr (arrKey c e b)).cal.inForce
      ∧ OnlyKeys [arrKey c e b] s.arrays t.arrays
      ∧ OnlyChanges [.arrays, .engines, .groups, .wide, .regs, .cores, .recorder, .nvm] s t)
  ∧ (∀ (s : State) (c : CoreIx) (e : EngIx) b reads r, s.stepMay (arrKey c e b) .stepped 996 = true →
    (s.arr (arrKey c e b)).cal.run = some r → r.needRows = true →
    ∃ (t : State) (q : CalRun), exec (.calRowLocalisation c e b reads) s = .next (t.commitOff (arrKey c e b))
      ∧ (t.arr (arrKey c e b)).cal.run = some q
      ∧ q.needRows = false ∧ q.rowFound = r.rowFound ++ rowsLocated reads
      ∧ t.wide.getD (engReg c.val e.val Reg.FIRES_LO) 0 = (s.wide.getD (engReg c.val e.val Reg.FIRES_LO) 0 + 36) % 2 ^ 64
      ∧ OnlyKeys [arrKey c e b] s.arrays t.arrays
      ∧ OnlyChanges [.arrays, .engines, .groups, .wide, .regs, .cores, .recorder, .nvm] s t)
  ∧ (∀ (s : State) (c : CoreIx) (e : EngIx) b r, s.abandonDue (arrKey c e b) = true →
    (s.arr (arrKey c e b)).cal.run = some r → s.clocks.safe = false → s.thermal.tripped = false →
    (s.core c.val).fenced = false →
    ∃ t, exec (.calRunAbandon c e b) s = .next t
      ∧ (t.arr (arrKey c e b)).cal = { (s.arr (arrKey c e b)).cal with run := some (CalRun.queuedRun r.cls s.calOrder) }
      ∧ (t.reg (Blk.cal.at Reg.RUNS_ABANDONED)).toNat
        = min 0xFFFFFFFF ((s.reg (Blk.cal.at Reg.RUNS_ABANDONED)).toNat + 1)
      ∧ OnlyKeys [arrKey c e b] s.arrays t.arrays ∧ OnlyChanges [.arrays, .regs, .calOrder] s t)
  ∧ (∀ (s : State) (c : CoreIx) (e : EngIx) b r, s.abandonDue (arrKey c e b) = true →
    (s.arr (arrKey c e b)).cal.run = some r → s.clocks.safe = false → s.thermal.tripped = false →
    (s.core c.val).fenced = true →
    ∃ t, exec (.calRunAbandon c e b) s = .next t
      ∧ (t.arr (arrKey c e b)).cal = { (s.arr (arrKey c e b)).cal with run := none, awaits := some r.cls }
      ∧ (t.reg (Blk.cal.at Reg.RUNS_ABANDONED)).toNat
        = min 0xFFFFFFFF ((s.reg (Blk.cal.at Reg.RUNS_ABANDONED)).toNat + 1)
      ∧ OnlyKeys [arrKey c e b] s.arrays t.arrays ∧ OnlyChanges [.arrays, .regs] s t)
  ∧ (∀ (s : State) (c : CoreIx) (e : EngIx) b r, s.abandonDue (arrKey c e b) = true →
    (s.arr (arrKey c e b)).cal.run = some r → (s.clocks.safe = true ∨ s.thermal.tripped = true) →
    ∃ t, exec (.calRunAbandon c e b) s = .next t
      ∧ (t.arr (arrKey c e b)).cal = { (s.arr (arrKey c e b)).cal with run := none }
      ∧ (t.reg (Blk.cal.at Reg.RUNS_ABANDONED)).toNat
        = min 0xFFFFFFFF ((s.reg (Blk.cal.at Reg.RUNS_ABANDONED)).toNat + 1)
      ∧ OnlyKeys [arrKey c e b] s.arrays t.arrays ∧ OnlyChanges [.arrays, .regs] s t)
  ∧ (∀ (s : State) (c : CoreIx) (e : EngIx) b, s.abandonDue (arrKey c e b) = false →
    exec (.calRunAbandon c e b) s = .next s)
  ∧ (∀ (s : State) (c : CoreIx) (e : EngIx) b, s.calAuto = true → s.good c.val = true →
    (s.arr (arrKey c e b)).cal.lastCommit + s.calInterval ≤ s.opS → (s.arr (arrKey c e b)).cal.run = none →
    ∃ t, exec (.calIntervalRequest c e b) s = .next t
      ∧ (t.arr (arrKey c e b)).cal = { (s.arr (arrKey c e b)).cal with run := some (CalRun.queuedRun 5 s.calOrder) }
      ∧ t.calOrder = s.calOrder + 1 ∧ OnlyKeys [arrKey c e b] s.arrays t.arrays ∧ OnlyChanges [.arrays, .calOrder] s t)
  ∧ (∀ (s : State) (c : CoreIx) (e : EngIx) b, s.opS < (s.arr (arrKey c e b)).cal.lastCommit + s.calInterval →
    exec (.calIntervalRequest c e b) s = .next s)

/-- The test of a core that returns, probe packs and scrub (R334 to R336, R347 to R351): CORE_UNFENCE_TEST_DONE,
PROBE_PACK_FETCH_DONE, PROBE_SWEEP_START, PROBE_SEGMENT and SCRUB_GRANULE_READ. Points that the spec leaves open are
settled by log 84, log 85, log 86 and log 135. -/
def Obligations.UpkeepEvents : Prop :=
  (∀ (s : State) (c : CoreIx) failed reads, (s.core c.val).testing = false →
    exec (.coreUnfenceTestDone c failed reads) s = .next s)
  ∧ (∀ (s : State) (c : CoreIx) n reads, (s.core c.val).testing = true →
    ∃ t, exec (.coreUnfenceTestDone c (some n) reads) s = .next t ∧ (t.core c.val).testing = false
      ∧ (t.core c.val).causes = (s.core c.val).causes ||| 1 ∧ (t.core c.val).fenced = (s.core c.val).fenced
      ∧ OnlyKeys [c.val] s.cores t.cores ∧ OnlyChanges [.cores, .regs, .recorder, .nvm] s t)
  ∧ (∀ (s : State) (c : CoreIx) reads u, (s.core c.val).testing = true → s.startupCore c.val reads = (u, 0) →
    (u.core c.val).due = 0 →
    ∃ t, exec (.coreUnfenceTestDone c none reads) s = .next t ∧ (t.core c.val).testing = false
      ∧ (t.core c.val).fenced = false ∧ (t.core c.val).causes = 0 ∧ (t.core c.val).stopped = false)
  ∧ (∀ (s : State) pack, s.probe.loading = none → exec (.probePackFetchDone pack) s = .next s)
  ∧ (∀ (s : State) f, s.probe.loading = some f → s.probe.fetches < 4 →
    exec (.probePackFetchDone none) s = .next (({ s with probe := { s.probe with
      fetches := s.probe.fetches + 1 } } : State).send (.nvmeRead f.loc 4)))
  ∧ (∀ (s : State) f bs p, s.probe.loading = some f → s.checkPack bs = .ok p →
    ∃ t, exec (.probePackFetchDone (some bs)) s = .next t ∧ t.probe.loading = none
      ∧ (s.groups.any (fun q => q.2.ticking) = true → t.probe.next = some p ∧ t.probe.held = s.probe.held)
      ∧ (s.groups.any (fun q => q.2.ticking) = false → t.probe.held = some p ∧ t.probe.sweeping = false
        ∧ ∀ c, (t.core c).probeResult = 0))
  ∧ (∀ (s : State) f bs st, s.probe.loading = some f → s.checkPack bs = .error st →
    ∃ t, exec (.probePackFetchDone (some bs)) s = .next t ∧ t.probe.loading = none ∧ t.probe.held = s.probe.held
      ∧ t.probe.next = s.probe.next)
  ∧ (∀ (s : State) p, s.probe.held = some p → s.probe.sweeping = false →
    (s.probe.lastSweep = 0 ∨ s.probe.lastSweep + p.interval * 1000000000 ≤ s.time.ns) →
    ∃ t, exec .probeSweepStart s = .next t ∧ t.probe.sweeping = true ∧ t.probe.sweeps = s.probe.sweeps + 1
      ∧ t.probe.lastSweep = s.time.ns ∧ t.probe.ran = [] ∧ t.probe.failedCores = [] ∧ t.probe.held = s.probe.held
      ∧ OnlyChanges [.probe, .cores] s t)
  ∧ (∀ (s : State), s.probe.held = none → exec .probeSweepStart s = .next s)
  ∧ (∀ (s : State) (c : CoreIx) n results p x, s.probe.held = some p → p.segments[n]? = some x → s.probe.sweeping = true →
    s.probe.ran.contains c.val = false → s.probe.failedCores.contains c.val = false → s.probe.nextSeg.getD c.val 0 = n →
    s.probeMay c.val x.kind = true → s.probe.retry.get? c.val = none → x.passes results = true →
    n + 1 < p.segments.length →
    exec (.probeSegment c n results) s = .next { s.takeSegment c.val n x with probe := { s.probe with
      nextSeg := s.probe.nextSeg.put c.val (n + 1), retry := s.probe.retry.del c.val } })
  ∧ (∀ (s : State) c n (x : ProbeSeg), (x.kind ≠ 0 → s.takeSegment c n x = s)
    ∧ (x.kind = 0 → ∃ e, (s.probeEngine c = some e ∨ (s.probeEngine c = none ∧ e = 16 * c + n % 16))
      ∧ ((s.takeSegment c n x).arr (2 * e)).phase = .empty ∧ ((s.takeSegment c n x).arr (2 * e)).tile = none
      ∧ OnlyKeys [2 * e] s.arrays (s.takeSegment c n x).arrays
      ∧ OnlyChanges [.arrays, .engines, .groups, .regs, .wide] s (s.takeSegment c n x)))
  ∧ (∀ (s : State) (c : CoreIx) n results p x, s.probe.held = some p → p.segments[n]? = some x → s.probe.sweeping = true →
    s.probe.ran.contains c.val = false → s.probe.failedCores.contains c.val = false → s.probe.nextSeg.getD c.val 0 = n →
    s.probeMay c.val x.kind = true → s.probe.retry.get? c.val = none → x.passes results = true →
    n + 1 = p.segments.length →
    ∃ t, exec (.probeSegment c n results) s = .next t ∧ (t.core c.val).probeResult = 1 ∧ c.val ∈ t.probe.ran)
  ∧ (∀ (s : State) (c : CoreIx) n results p x, s.probe.held = some p → p.segments[n]? = some x → s.probe.sweeping = true →
    s.probe.ran.contains c.val = false → s.probe.failedCores.contains c.val = false → s.probe.nextSeg.getD c.val 0 = n →
    s.probeMay c.val x.kind = true → s.probe.retry.get? c.val = none → x.passes results = false →
    exec (.probeSegment c n results) s = .next { s.takeSegment c.val n x with probe := { s.probe with
      retry := s.probe.retry.put c.val (s.coreTick c.val) } })
  ∧ (∀ (s : State) (c : CoreIx) n results p x k, s.probe.held = some p → p.segments[n]? = some x →
    s.probe.sweeping = true → s.probe.ran.contains c.val = false → s.probe.failedCores.contains c.val = false →
    s.probe.nextSeg.getD c.val 0 = n → s.probeMay c.val x.kind = true → s.probe.retry.get? c.val = some k →
    (k ≠ s.coreTick c.val ∨ s.coreTick c.val = 0) → x.passes results = false →
    ∃ t, exec (.probeSegment c n results) s = .next t ∧ (t.core c.val).probeResult = 2 ∧ (t.core c.val).probeFirst = n
      ∧ c.val ∈ t.probe.failedCores
      ∧ ((t.core c.val).due.testBit 8 = true ∨ ((t.core c.val).fenced = true ∧ (t.core c.val).causes.testBit 8 = true)))
  ∧ (∀ (s : State) (k : StackIx) errs errs2 w holds v, (s.stack k.val).inService = true →
    s.readOnce (2500000000 * k.val + (s.stack k.val).scrubPos) errs = (some v, false) →
    ∃ t, exec (.scrubGranuleRead k errs errs2 w holds) s = .next t
      ∧ (t.stack k.val).scrubPos = (if (s.stack k.val).scrubPos + 1 = stackGranules then 0 else (s.stack k.val).scrubPos + 1)
      ∧ OnlyKeys [k.val] s.stackTbl t.stackTbl ∧ OnlyChanges [.stackTbl, .wide] s t)
  ∧ (∀ (s : State) (k : StackIx) errs errs2 w holds v, (s.stack k.val).inService = true →
    s.readOnce (2500000000 * k.val + (s.stack k.val).scrubPos) errs = (some v, true) →
    ∃ t, exec (.scrubGranuleRead k errs errs2 w holds) s = .next t
      ∧ ((s.stack k.val).lastFixed.contains (2500000000 * k.val + (s.stack k.val).scrubPos) = true →
        blockOf (2500000000 * k.val + (s.stack k.val).scrubPos) ∈ (t.stack k.val).toRetire
        ∨ blockOf (2500000000 * k.val + (s.stack k.val).scrubPos) ∈ (s.stack k.val).blocks)
      ∧ OnlyKeys [k.val] s.stackTbl t.stackTbl ∧ OnlyChanges [.stackTbl, .wide, .regs] s t)
  ∧ (∀ (s : State) (k : StackIx) errs errs2 w holds, (s.stack k.val).inService = true →
    (s.readOnce (2500000000 * k.val + (s.stack k.val).scrubPos) errs).1 = none →
    (s.readOnce (2500000000 * k.val + (s.stack k.val).scrubPos) errs2).1 = none →
    ∃ t, exec (.scrubGranuleRead k errs errs2 w holds) s = .next t
      ∧ 2500000000 * k.val + (s.stack k.val).scrubPos ∈ t.poison)
  ∧ (∀ (s : State) (k : StackIx) errs errs2 w holds, (s.stack k.val).inService = false →
    exec (.scrubGranuleRead k errs errs2 w holds) s = .next s)

/-! ### Heat and clocks (Chapters 11 and 14) -/

/-- Thermal states, sensors and the trip (R355 to R362, R367 to R372, R328): MONITOR_CONVERSION, STACK_SENSOR_READ,
THERMAL_TRIP, DROOP_EVENT, MONITOR_TRIGGER, MONITOR_SELF_CAL_DONE, THERMAL_TRIP_HOLD and HOLD_TEMP_UPDATE. Points that
the spec leaves open are settled by log 89, log 90 and log 101. -/
def Obligations.ThermalEvents : Prop :=
  (∀ old l, (levelOf old l = 2 ↔ ∃ x ∈ l, x.throttle ≤ x.t ∨ (old = 2 ∧ x.throttle - x.hyst ≤ x.t)))
  ∧ (∀ old l, levelOf old l = 0 →
    (∀ x ∈ l, x.t < x.throttle ∧ x.t < x.warn) ∧ (1 ≤ old → ∀ x ∈ l, x.t < x.warn - x.hyst))
  ∧ (∀ (s : State) (d : DieIx) (n : Fin 4) code value e i, s.counting = true → s.thermal.tripped = false →
    (s.therm d.val).calBusy = false → s.seqEntries d.val n.val = [(e, i)] →
    ∃ t r, exec (.monitorConversion d n code value) s = .next t
      ∧ (t.therm d.val).results.get? (16 * n.val + e) = some r ∧ r.value = value % 4096 ∧ r.code = code % 4096
      ∧ r.valid = (s.therm d.val).calValid ∧ r.pass = s.thermal.trigCount % 16
      ∧ r.passSince = min 7 ((s.therm d.val).passes.getD n.val 0) ∧ t.mem = s.mem ∧ t.contexts = s.contexts)
  ∧ (∀ (s : State) (d : DieIx) (n : Fin 4) code value, s.thermal.tripped = true →
    exec (.monitorConversion d n code value) s = .next s)
  ∧ (∀ (s : State) (k : StackIx) c, s.counting = true → s.thermal.tripped = false → (s.stack k.val).sensorFail = false →
    c < 105 → ∃ t, exec (.stackSensorRead k (some c)) s = .next t ∧ (t.stack k.val).temp = some (8 * c)
      ∧ (t.stack k.val).sensorFails = 0 ∧ t.thermal.tripped = false)
  ∧ (∀ (s : State) (k : StackIx) c, s.counting = true → s.thermal.tripped = false → (s.stack k.val).sensorFail = false →
    105 ≤ c → ∃ t, exec (.stackSensorRead k (some c)) s = .next t ∧ t.thermal.tripped = true ∧ t.pins.thermTrip = true)
  ∧ (∀ (s : State) (k : StackIx), s.counting = true → s.thermal.tripped = false → 2 ≤ (s.stack k.val).sensorFails →
    ∃ t, exec (.stackSensorRead k none) s = .next t ∧ (t.stack k.val).sensorFail = true)
  ∧ (∀ (s : State) (d : DieIx) (c : Fin 8), s.counting = true → s.thermal.tripped = false →
    ∃ t, exec (.thermalTrip d c) s = .next t ∧ t.thermal.tripped = true ∧ t.pins.thermTrip = true
      ∧ t.clocks.allGated = true ∧ (∀ p ∈ t.groups, p.2.running = false)
      ∧ (∀ k, k < 12 → (t.stack k).selfRefresh = true ∧ (t.stack k).inService = false)
      ∧ (t.reg 0x40008).getLsbD 2 = true ∧ t.mem = s.mem ∧ t.contexts = s.contexts)
  ∧ (∀ (s : State) (d : DieIx) (c : Fin 8), s.thermal.tripped = true → exec (.thermalTrip d c) s = .next s)
  ∧ (∀ (s : State) (d : DieIx) (c : Fin 8), s.thermal.tripped = false → s.pins.pwrgdCore = true → s.outOfReset = false →
    exec (.thermalTrip d c) s = .next { s with pins := { s.pins with thermTrip := true } })
  ∧ (∀ (s : State) (d : DieIx) v n cap, s.pipesRun d.val = true → 0 < n →
    v < (s.reg ((Blk.mon d).at Reg.PIPE_CTRL)).toNat % 4096 →
    ∃ t, exec (.droopEvent d v n cap) s = .next t ∧ (t.therm d.val).droop = (v, min n 0xFFFFF)
      ∧ (t.therm d.val).min1us = v ∧ (t.therm d.val).capArmed = false
      ∧ ((s.therm d.val).capArmed = true → (t.therm d.val).capture = cap.take 1024)
      ∧ ((s.therm d.val).capArmed = false → (t.therm d.val).capture = (s.therm d.val).capture)
      ∧ (t.reg ((Blk.mon d).at Reg.DROOP_EVENTS)).toNat
        = min 0xFFFFFFFF ((s.reg ((Blk.mon d).at Reg.DROOP_EVENTS)).toNat + 1)
      ∧ t.wide.get? ((Blk.mon d).at Reg.DROOP_TIME_LO) = some s.time.ns ∧ OnlyChanges [.thermal, .regs, .wide] s t)
  ∧ (∀ (s : State) (d : DieIx) v n cap, (s.reg ((Blk.mon d).at Reg.PIPE_CTRL)).toNat % 4096 ≤ v →
    exec (.droopEvent d v n cap) s = .next s)
  ∧ (∀ (s : State) snaps x, s.counting = true → s.trigDue = some x →
    (∀ l, s.thermal.trigLast = some l → l + 1000 ≤ x) →
    ∃ t, exec (.monitorTrigger snaps) s = .next t ∧ t.thermal.trigCount = (s.thermal.trigCount + 1) % 2 ^ 32
      ∧ t.thermal.trigLast = some x ∧ t.thermal.armed = none
      ∧ (∀ d, d < 4 → (t.therm d).pos = [] ∧ (t.therm d).passes = []) ∧ OnlyChanges [.thermal] s t)
  ∧ (∀ (s : State) snaps x l, s.counting = true → s.trigDue = some x → s.thermal.trigLast = some l → x < l + 1000 →
    exec (.monitorTrigger snaps) s = .next { s with thermal := { s.thermal with armed := none } })
  ∧ (∀ (s : State) (d : DieIx) f, (s.therm d.val).calBusy = true →
    ∃ t, exec (.monitorSelfCalDone d f) s = .next t ∧ (t.therm d.val).calBusy = false ∧ (t.therm d.val).calValid = true
      ∧ (∀ j, j < 6 → ∀ p, f[j]? = some p → (t.therm d.val).factors.get? j = some (p.1 % 65536, p.2 % 4096))
      ∧ OnlyChanges [.thermal] s t)
  ∧ (∀ (s : State) (d : DieIx) f, (s.therm d.val).calBusy = false → exec (.monitorSelfCalDone d f) s = .next s)
  ∧ (∀ (s : State) l, s.boot.hold = true → s.allSensors = some l → (∀ x ∈ l, x < 704) →
    ∃ t, exec .thermalTripHold s = .next t ∧ t.boot.hold = false ∧ t.boot.phase = 2 ∧ (t.reg 0x40008).getLsbD 2 = false
      ∧ OnlyChanges [.nvm, .boot, .regs] s t)
  ∧ (∀ (s : State) l x, s.allSensors = some l → x ∈ l → 704 ≤ x → exec .thermalTripHold s = .next s)
  ∧ (∀ (s : State), s.boot.hold = true → s.boot.holdTicks ≠ 599 →
    exec .holdTempUpdate s = .next { s with boot := { s.boot with
      holdTemp := fieldOfInt 10 s.hottestNow, holdTicks := s.boot.holdTicks + 1 } })
  ∧ (∀ (s : State), s.boot.hold = false → exec .holdTempUpdate s = .next s)

/-- Clock monitors and device time (R301 to R306, R326): CLOCK_MONITOR_WINDOW, RING_RETUNE, HREFCLK_LOSS_UNARMED_DIE,
TIME_SYNC_PULSE, PTP_ANNOUNCE, PTP_SYNC, PTP_ANNOUNCE_TIMEOUT and PTP_LOCK_WAIT. Points that the spec leaves open are
settled by log 45, log 91, log 96 and log 145. -/
def Obligations.ClockEvents : Prop :=
  (∀ (s : State) (w : ClockWindow), s.counting = true → w.ring ≠ 0 → (s.mon w.die.val).armed = true → w.lost = false →
    1532 ≤ w.count → w.count ≤ 1593 → w.unlocked = none →
    ∃ t, exec (.clockMonitorWindow w) s = .next t ∧ (t.mon w.die.val).last = w.count ∧ (t.mon w.die.val).armed = true
      ∧ t.clocks.safe = s.clocks.safe ∧ OnlyChanges [.clocks] s t)
  ∧ (∀ (s : State) (w : ClockWindow), s.counting = true → w.ring ≠ 0 → (s.mon w.die.val).armed = true →
    s.clocks.safe = false → (w.lost = true ∨ w.count < 1532 ∨ 1593 < w.count ∨ w.unlocked.isSome = true) →
    ∃ t, exec (.clockMonitorWindow w) s = .next t ∧ t.clocks.safe = true ∧ t.clocks.allGated = true
      ∧ (t.reg 0x40008).getLsbD 0 = true ∧ (t.reg 0x40008).getLsbD 1 = true
      ∧ (∀ k, k < 40 → (t.dom k).onSafe = true) ∧ (∀ p ∈ t.groups, p.2.running = false) ∧ t.mem = s.mem)
  ∧ (∀ (s : State) (w : ClockWindow), s.counting = true → w.ring = 0 →
    ∃ t, exec (.clockMonitorWindow w) s = .next t ∧ (t.mon w.die.val).ringFault = true
      ∧ ((s.mon w.die.val).ringFault = false → (t.mon w.die.val).armed = false) ∧ t.clocks.safe = s.clocks.safe)
  ∧ (∀ (s : State) (d : DieIx) up, s.counting = true → (s.mon d.val).armed = true → (s.mon d.val).lost = false →
    s.clocks.hrefFault = false →
    100 * (((if up then (s.mon d.val).window + 1 else (s.mon d.val).window - 1 : Nat) : Int) - (s.mon d.val).start).natAbs + 100
      ≤ 3 * (s.mon d.val).start →
    ∃ t, exec (.ringRetune d (some up)) s = .next t
      ∧ (t.mon d.val).window = (if up then (s.mon d.val).window + 1 else (s.mon d.val).window - 1)
      ∧ (t.mon d.val).ringFault = (s.mon d.val).ringFault ∧ OnlyChanges [.clocks] s t)
  ∧ (∀ (s : State) (d : DieIx), exec (.ringRetune d none) s = .next s)
  ∧ (∀ (s : State) (d : DieIx), s.counting = true → (s.mon d.val).ringFault = true →
    ∃ t, exec (.hrefclkLossUnarmedDie d) s = .next t ∧ (t.mon d.val).lost = true ∧ t.pins.asyncEvt = true
      ∧ (∀ j, j < 9 → (t.dom (9 * d.val + j)).mhz = 0 ∧ (t.dom (9 * d.val + j)).locked = false)
      ∧ OnlyChanges [.clocks, .pins] s t)
  ∧ (∀ (s : State) (d : DieIx), (s.mon d.val).ringFault = false → exec (.hrefclkLossUnarmedDie d) s = .next s)
  ∧ (∀ (s : State), s.portOn = true → exec .timeSyncPulse s = .next (s.send .timeSync))
  ∧ (∀ (s : State) a, s.portOpen = true → 3 ≤ s.port.disc → a.domain = s.cfg.ptpDomain →
    (s.time.master = none ∨ ∃ m, s.time.master = some m ∧ m.identity ≠ a.identity ∧ annBetter a m = true) →
    ∃ t, exec (.ptpAnnounce a) s = .next t ∧ t.time.master = some a ∧ t.time.ptp = 1 ∧ t.time.goodRun = 0
      ∧ t.time.ns = s.time.ns)
  ∧ (∀ (s : State) a m, s.time.master = some m → m.identity ≠ a.identity → annBetter a m = false →
    exec (.ptpAnnounce a) s = .next s)
  ∧ (∀ (s : State) a, a.domain ≠ s.cfg.ptpDomain → exec (.ptpAnnounce a) s = .next s)
  ∧ (∀ (s : State) off del adj, s.portOpen = true → s.time.master.isSome = true →
    ∃ t, exec (.ptpSync off del adj) s = .next t ∧ t.time.rateAdj = max (-rateLimit) (min rateLimit adj)
      ∧ t.time.ns = (if 1000 < off ∧ s.anyRuns = false then s.time.ns + off.toNat else s.time.ns)
      ∧ t.time.offset = off ∧ t.time.delay = del
      ∧ (off.natAbs < 100 → 15 ≤ s.time.goodRun → t.time.ptp = 2) ∧ (100 ≤ off.natAbs → t.time.ptp = s.time.ptp))
  ∧ (∀ (s : State) off del adj, s.time.master = none → exec (.ptpSync off del adj) s = .next s)
  ∧ (∀ (s : State), s.time.master.isSome = true → s.time.ptp = 2 →
    ∃ t, exec (.ptpAnnounceTimeout none) s = .next t ∧ t.time.master = none ∧ t.time.ptp = 3
      ∧ (t.reg 0x40008).getLsbD 7 = true ∧ t.time.ns = s.time.ns)
  ∧ (∀ (s : State), s.time.master = none → exec (.ptpAnnounceTimeout none) s = .next s)
  ∧ (∀ (s : State), s.boot.phase = 14 → (s.time.ptp = 2 ∨ s.boot.noMaster = true) →
    exec .ptpLockWait s = .next (s.endPhase 14))
  ∧ (∀ (s : State), s.boot.phase ≠ 14 → exec .ptpLockWait s = .next s)

/-! ### The port, sessions and storage (Chapters 10 and 11) -/

/-- The port and discovery (R262 to R266, R288, R289): LINK_TRAINING_ATTEMPT, LINK_DOWN, LLDP_SEND, LLDP_RECEIVED,
LLDP_TTL_EXPIRY, MKA_RETRY, ADDRESS_LOSS, DISCOVERY_STEP_BOUND, ANNOUNCE, ETH_FRAME_RECEIVED and ROCE_RATE_RECOVERY.
Points that the spec leaves open are settled by log 44, log 92, log 93, log 94 and log 97. -/
def Obligations.PortEvents : Prop :=
  (∀ (s : State) (l : Fin 256), s.portOn = true → s.port.linkUp = false → s.port.disc = 1 →
    ∃ t, exec (.linkTrainingAttempt l) s = .next t ∧ t.port.trainAttempts = s.port.trainAttempts + 1
      ∧ t.port.linkUp = decide (l.val = 255) ∧ t.port.fecLock = (if l.val = 255 then true else s.port.fecLock)
      ∧ (l.val ≠ 255 → t.port.disc = 1 ∧ OnlyChanges [.port, .boot] s t) ∧ (l.val = 255 → 2 ≤ t.port.disc))
  ∧ (∀ (s : State) l, s.port.linkUp = true → exec (.linkTrainingAttempt l) s = .next s)
  ∧ (∀ (s : State), s.ethUp = true → ∃ t, exec .linkDown s = .next t ∧ t.port.linkUp = false ∧ t.port.disc = 1
      ∧ t.port.macsecUp = false ∧ (t.reg 0x40008).getLsbD 6 = true ∧ t.sessions = s.sessions ∧ t.groups = s.groups
      ∧ OnlyChanges [.port, .regs, .recorder, .nvm] s t)
  ∧ (∀ (s : State), s.ethUp = false → exec .linkDown s = .next s ∧ exec .lldpSend s = .next s)
  ∧ (∀ (s : State), s.ethUp = true → exec .lldpSend s = .next (s.send (.lldp s.nvm.mac s.nvm.serial 120)))
  ∧ (∀ (s : State) c ttl, s.ethUp = true → 0 < ttl → ∃ t, exec (.lldpReceived c ttl) s = .next t
      ∧ t.port.neighbour = some c)
  ∧ (∀ (s : State), s.ethUp = true → s.port.neighbour.isSome = true → ∃ t, exec .lldpTtlExpiry s = .next t
      ∧ t.port.neighbour = none
      ∧ (t.reg (Blk.port.at Reg.LLDP_CHANGES)).toNat = min 0xFFFFFFFF ((s.reg (Blk.port.at Reg.LLDP_CHANGES)).toNat + 1)
      ∧ OnlyChanges [.port, .regs, .recorder, .nvm] s t)
  ∧ (∀ (s : State) ok, s.ethUp = true → s.cfg.macPolicy ≠ 0 → s.port.macsecUp = false →
    ∃ t, exec (.mkaRetry ok) s = .next t ∧ t.port.macsecUp = ok ∧ (∃ l, t.out = s.out ++ .mka :: l))
  ∧ (∀ (s : State), s.port.addr4 ≠ 0 → s.port.addr6 = 0 → 4 < s.port.disc →
    exec (.addressLoss false) s = .next { s with port := { s.port with addr4 := 0, disc := 4 } })
  ∧ (∀ (s : State), s.port.addr4 ≠ 0 → s.port.addr6 ≠ 0 →
    exec (.addressLoss false) s = .next { s with port := { s.port with addr4 := 0 } })
  ∧ (∀ (s : State) a, s.portOn = true → s.port.disc = 4 → s.cfg.ipv4 = .dynamic → a % 2 ^ 32 ≠ 0 →
    ∃ t, exec (.discoveryStepBound (some (false, a))) s = .next t ∧ t.port.addr4 = a % 2 ^ 32 ∧ 5 ≤ t.port.disc)
  ∧ (∀ (s : State), s.portOpen = true → 6 ≤ s.port.disc → s.port.addr4 ≠ 0 → s.port.addr6 = 0 →
    ∃ t, exec .announce s = .next t
      ∧ t.out = s.out ++ [.announce (s.announceFields (if s.boot.isDone then 1 else 0))]
      ∧ t.port.announced = true ∧ t.port.announces = (s.port.announces + 1) % 2 ^ 32 ∧ OnlyChanges [.port, .out, .wire, .wide] s t)
  ∧ (∀ (s : State), s.port.disc < 5 → exec .announce s = .next s)
  ∧ (∀ (s : State) f, s.ethUp = true → f.fcsOk = false →
    ∃ t, exec (.ethFrameReceived f) s = .next t
      ∧ t.wide.getD (Blk.port.at Reg.RX_FRAMES_LO) 0 = (s.wide.getD (Blk.port.at Reg.RX_FRAMES_LO) 0 + 1) % 2 ^ 64
      ∧ OnlyKeys [Blk.port.at Reg.RX_DROPS, Blk.port.at Reg.FEC_CORRECTED, Blk.port.at Reg.FEC_UNCORRECTED] s.regs t.regs
      ∧ OnlyChanges [.regs, .wide] s t)
  ∧ (∀ (s : State) f, s.ethUp = true → f.fcsOk = true → f.bytes ≤ 9216 → f.isProtected = true → s.port.macsecUp = true →
    f.icvOk = false →
    exec (.ethFrameReceived f) s = .next ((((s.bump (Blk.port.at Reg.FEC_CORRECTED) f.corrected).bump
      (Blk.port.at Reg.FEC_UNCORRECTED) f.lost).bumpWide (Blk.port.at Reg.RX_FRAMES_LO) 1).bumpLo
      (Blk.port.at Reg.MACSEC_ERRORS) 1))
  ∧ (∀ (s : State) f src sess signed tag x, s.ethUp = true → f.fcsOk = true → f.bytes ≤ 9216 → f.isProtected = false →
    s.cfg.macPolicy ≠ 2 → f.vlan = s.cfg.vlan → f.kind = .mct src signed tag → sess = headField signed 8 4 → sess ≠ 0 →
    headField signed 0 4 = 0x3154434D → s.session? sess = some x → (Crypto.hmac x.h2d signed).take 16 = tag →
    exec (.ethFrameReceived f) s = .next (((((s.bump (Blk.port.at Reg.FEC_CORRECTED) f.corrected).bump
      (Blk.port.at Reg.FEC_UNCORRECTED) f.lost).bumpWide (Blk.port.at Reg.RX_FRAMES_LO) 1).updSession sess
      (fun y => { y with lastRx := s.time.ns, peer := src })).acknowledge sess (headField signed 16 4)))
  ∧ (∀ (s : State) f, s.ethUp = true → f.fcsOk = true → f.bytes ≤ 9216 → f.isProtected = false →
    f.kind ≠ .lldp → f.kind ≠ .mka → (s.cfg.macPolicy = 2 ∨ f.vlan ≠ s.cfg.vlan) →
    exec (.ethFrameReceived f) s = .next ((((s.bump (Blk.port.at Reg.FEC_CORRECTED) f.corrected).bump
      (Blk.port.at Reg.FEC_UNCORRECTED) f.lost).bumpWide (Blk.port.at Reg.RX_FRAMES_LO) 1).bumpHi
      (Blk.port.at Reg.RX_DROPS) 1))
  ∧ (∀ (s : State) f, s.ethUp = false → exec (.ethFrameReceived f) s = .next s)
  ∧ (∀ (s : State) qp r, s.port.rates.get? qp = some r → r + 4096 < 65536 →
    ∃ t, exec (.roceRateRecovery qp) s = .next t ∧ t.port.rates.get? qp = some (r + 4096) ∧ OnlyChanges [.port] s t)
  ∧ (∀ (s : State) qp r, s.port.rates.get? qp = some r → 65536 ≤ r + 4096 →
    ∃ t, exec (.roceRateRecovery qp) s = .next t ∧ t.port.rates.get? qp = none ∧ OnlyChanges [.port] s t)

/-- The timers of sessions and of storage (R270, R271, R273, R274, R278, R286, R290): MCT_MESSAGE_DROPPED,
SESSION_OPEN_TIMEOUT, SESSION_INACTIVITY_TIMEOUT, DEVICE_MESSAGE_RESEND, TELEMETRY_REPORT, NVME_KEEP_ALIVE,
STORAGE_TARGET_LOST, STORAGE_RECONNECT and RBSY_SWITCH_LOW_END. Points that the spec leaves open are settled by log
95. -/
def Obligations.SessionTimers : Prop :=
  (∀ (s : State), s.portOpen = true → exec (.mctMessageDropped false) s = .next (s.bumpLo 0x40014 1)
    ∧ exec (.mctMessageDropped true) s = .next (s.bumpHi 0x40014 1))
  ∧ (∀ (s : State) n, ∃ t, exec (.sessionOpenTimeout n) s = .next t
      ∧ (∀ x, x ∈ t.sessions ↔ x ∈ s.sessions ∧ (x.id ≠ n ∨ x.isOpen = true)) ∧ OnlyChanges [.sessions] s t)
  ∧ (∀ (s : State) n x, s.session? n = some x → x.isOpen = true → x.lastRx + s.departAfter ≤ s.time.ns →
    ∃ t, exec (.sessionInactivityTimeout n) s = .next t ∧ (∀ y ∈ t.sessions, y.id ≠ n) ∧ (∀ y ∈ t.held, y.sess ≠ n)
      ∧ (∀ r ∈ t.reqs, r.sess = n → r.ending.isSome = true) ∧ (t.reg 0x40008).getLsbD 8 = true
      ∧ OnlyChanges [.sessions, .held, .reqs, .groups, .boot, .regs, .recorder, .nvm] s t)
  ∧ (∀ (s : State) n x, s.session? n = some x → s.time.ns < x.lastRx + s.departAfter →
    exec (.sessionInactivityTimeout n) s = .next s)
  ∧ (∀ (s : State), 100000000 ≤ s.departAfter)
  ∧ (∀ (s : State) n d x u, s.session? n = some x → x.unacked.find? (fun u => u.seq == d) = some u →
    ∃ t, exec (.deviceMessageResend n d) s = .next t ∧ t.out = s.out ++ [.device n d u.msg true]
      ∧ (s.portOpen = true → ∃ f, t.wire = s.wire ++ [f] ∧ f.dest = some x.peer)
      ∧ (∃ y v, t.session? n = some y ∧ y.unacked.find? (fun u => u.seq == d) = some v ∧ v.msg = u.msg
          ∧ v.interval = min 32000 (2 * u.interval))
      ∧ OnlyChanges [.sessions, .out, .wire, .regs, .wide] s t)
  ∧ (∀ (s : State) n x, s.session? n = some x → x.telPeriod ≠ 0 → x.isOpen = true → x.unacked.length < 256 →
    ∃ t, exec (.telemetryReport n) s = .next t
      ∧ t.out = s.out ++ [.device n x.dseq (.telemetry x.telMask (s.telemetry x.telMask)) false]
      ∧ (∃ y, t.session? n = some y ∧ y.dseq = x.dseq + 1) ∧ OnlyChanges [.sessions, .out, .wire, .wide] s t)
  ∧ (∀ (s : State) n x, s.session? n = some x → x.telPeriod = 0 → exec (.telemetryReport n) s = .next s)
  ∧ (∀ (s : State), s.portOpen = true → ∃ t, exec .nvmeKeepAlive s = .next t
      ∧ t.out = s.out ++ (maskBits 16 s.port.connected).map .nvmeKeepAlive ∧ OnlyChanges [.out, .wire, .wide] s t)
  ∧ (∀ (s : State) (k : Fin 16), s.port.connected.testBit k.val = true → ∃ t, exec (.storageTargetLost k.val) s = .next t
      ∧ t.port.connected.testBit k.val = false ∧ t.port.failed.testBit k.val = true
      ∧ (t.reg 0x40008).getLsbD 9 = true
      ∧ (∀ q ∈ t.spill.queue, q.writing = true → (s.ctx? q.ctx).map (fun c => c.backing.target) ≠ some k.val))
  ∧ (∀ (s : State) n, s.port.connected.testBit n = false → exec (.storageTargetLost n) s = .next s)
  ∧ (∀ (s : State) l, s.portOpen = true → 13 ≤ s.boot.phase → 6 ≤ s.port.disc →
    ∃ t, exec (.storageReconnect l) s = .next t
      ∧ (∀ i ∈ s.storageEntries, t.port.connected.testBit i
          = (s.port.connected.testBit i || (l.find? (fun p => p.1 == i)).isSome)))
  ∧ (∀ (s : State), exec .rbsySwitchLowEnd s = .next { s with switching := false })

/-! ### Start, reset and records (Chapters 12 and 15) -/

/-- Reset and start-up (R286, R311 to R317, R322, R325, R327, R330, R363, R366): RST_N_LOW, POWER_GOOD_LOW,
RESET_RELEASE, CONTROL_NETWORK_TRAINING, DIE_LINK_TRAINING, STACK_TRAINING, CORE_CENSUS, STARTUP_CALIBRATION and
IN_SERVICE_ANNOUNCE. Points that the spec leaves open are settled by log 53, log 54, log 98, log 99 and log 100. -/
def Obligations.StartEvents : Prop :=
  (∀ (s : State), s.pins.rstN = true → ∃ t, exec .rstNLow s = .next t ∧ t.pins.rstN = false
      ∧ t.pins.thermTrip = false ∧ t.regs = [] ∧ t.sessions = [] ∧ t.groups = [] ∧ t.contexts = [] ∧ t.mem = []
      ∧ t.boot = Boot.init ∧ t.resetCause = 2 + (if s.clocks.safe then 16 else 0) ∧ t.pending = s.pending
      ∧ (∃ n, t.nvm = { s.nvm with skipped := n }))
  ∧ (∀ (s : State), s.pins.rstN = false → exec .rstNLow s = .next s)
  ∧ (∀ (s : State), s.pins.pwrgdMem = true → ∃ t, exec (.powerGoodLow true) s = .next t ∧ t.pins.pwrgdMem = false
      ∧ t.resetCause = 1 ∧ t.boot = Boot.init ∧ t.regs = [] ∧ t.sessions = [] ∧ (∃ n, t.nvm = { s.nvm with skipped := n }))
  ∧ (∀ (s : State), s.pins.pwrgdCore = true → ∃ t, exec (.powerGoodLow false) s = .next t ∧ t.pins.pwrgdCore = false
      ∧ t.resetCause = 1 ∧ t.boot = Boot.init)
  ∧ (∀ (s : State) w, s.boot.released = false → s.clocks.safe = false → s.nvm.trips.find? slotUnconsumed = none →
    s.nvm.cfgOk = true → s.nvm.secretsOk = true → s.nvm.mapA = true →
    ∃ t, exec (.resetRelease true w) s = .next t ∧ t.pins.rstN = true ∧ t.boot.released = true ∧ t.boot.phase = 2
      ∧ t.nvm.bootCount = s.nvm.bootCount + 1 ∧ t.cfg = s.nvm.cfg ∧ t.time = Time.init ∧ t.clocks.safe = false
      ∧ (∀ d, d < 4 → (t.mon d).armed = true ∧ (t.mon d).ringFault = false ∧ (t.mon d).window = w.getD d 0))
  ∧ (∀ (s : State) b w, s.boot.released = false → s.clocks.safe = false →
    (b = false ∨ s.nvm.secretsOk = false ∨ (s.nvm.mapA = false ∧ s.nvm.mapB = false)) →
    ∃ t, exec (.resetRelease b w) s = .next t ∧ t.clocks.safe = true ∧ t.boot.phase = s.boot.phase)
  ∧ (∀ (s : State) b w, s.boot.released = true → exec (.resetRelease b w) s = .next s)
  ∧ (∀ (s : State) l, s.inPhase 2 = true → s.fabric.segDown = [] →
    ∃ t, exec (.controlNetworkTraining l) s = .next t ∧ t.boot.phase = 3 ∧ t.fabric.segTrained = true
      ∧ (∀ k, (t.fabric.segDown.get? k).isSome = decide (k ∈ l ∧ k < 36)) ∧ OnlyChanges [.fabric, .boot] s t)
  ∧ (∀ (s : State) l, s.inPhase 3 = true → (∀ x ∈ l, x.2.2 < 3) →
    ∃ t, exec (.dieLinkTraining l) s = .next t ∧ t.boot.phase = 4 ∧ t.fabric.linkUp = 255 ∧ t.fabric.linkTrained = 255
      ∧ OnlyChanges [.fabric, .boot] s t)
  ∧ (∀ (s : State), s.inPhase 4 = true → ∃ t, exec (.stackTraining []) s = .next t ∧ t.boot.phase = 5 ∧ t.mem = []
      ∧ t.poison = [] ∧ (∀ k, k < 12 → (t.stack k).trained = true ∧ (t.stack k).attempts = 1)
      ∧ OnlyChanges [.stackTbl, .mem, .poison, .boot] s t)
  ∧ (∀ (s : State) (k : StackIx) n, s.inPhase 4 = true → 3 ≤ n → ∃ t, exec (.stackTraining [(k, n)]) s = .next t
      ∧ t.boot.phase = 5 ∧ (t.stack k.val).failed = true ∧ (t.stack k.val).attempts = 3)
  ∧ (∀ (s : State), s.inPhase 5 = true → ∃ t, exec (.coreCensus []) s = .next t ∧ t.boot.phase = 6
      ∧ t.boot.goodValid = true ∧ t.port.disc = 1 ∧ t.cores = s.cores ∧ OnlyChanges [.boot, .port, .regs] s t)
  ∧ (∀ (s : State) (c : CoreIx) n, s.inPhase 5 = true → s.good c.val = true → (∀ p ∈ s.groups, p.2.ticking = false) →
    (s.core c.val).fenced = false →
    ∃ t, exec (.coreCensus [(c, n)]) s = .next t ∧ t.boot.phase = 6 ∧ (t.core c.val).fenced = true
      ∧ (t.core c.val).causes.testBit 0 = true)
  ∧ (∀ (s : State) reads, s.inPhase 12 = true → (∀ d, d < 4 → (s.therm d).state = 0) →
    ∃ t, exec (.startupCalibration reads) s = .next t ∧ 13 ≤ t.boot.phase ∧ t.startupDone = true
      ∧ (∀ d, d < 4 → t.loadIndex.get? d = some s.startLoad))
  ∧ (∀ (s : State) reads d, s.inPhase 12 = true → d < 4 → (s.therm d).state ≠ 0 →
    ∃ t, exec (.startupCalibration reads) s = .next t ∧ t.boot.phase = 12 ∧ OnlyChanges [.boot] s t)
  ∧ (∀ (s : State), s.inPhase 15 = true → s.boot.isDone = false → s.portOpen = true → s.switching = false →
    256 ≤ s.placesFree → ∃ t, exec .inServiceAnnounce s = .next t ∧ t.boot.isDone = true
      ∧ t.nvm = { s.nvm with floor := max s.nvm.floor s.boot.fwSec } ∧ t.port.announced = true ∧ t.port.disc = 7
      ∧ OnlyChanges [.boot, .nvm, .port, .out, .wire, .wide] s t)
  ∧ (∀ (s : State) p l, s.boot.phase ≠ p → s.inPhase p = false ∧ (p = 2 → exec (.controlNetworkTraining l) s = .next s))

/-- R314: every start adds 1 to the power-cycle count, even one that goes on to safe state or a thermal hold; event
records, BOOT_COUNT and the generation that an activation makes carry that count, so that two activations of different
starts, or of different numbers in one, make different generations. -/
def Obligations.PowerCycleCount : Prop :=
  (∀ (s : State) ok l, s.boot.released = false →
    ∃ t, exec (.resetRelease ok l) s = .next t ∧ t.nvm.bootCount = s.nvm.bootCount + 1)
  ∧ (∀ (s : State), s.view .boot 0x04 = some (word s.nvm.bootCount))
  ∧ (∀ (s : State) sev code unit bytes, s.recorder.staging.length < 256 →
    ∃ r, (s.record sev code unit bytes).recorder.staging = s.recorder.staging ++ [r] ∧ r.cycles = s.nvm.bootCount)
  ∧ (∀ (s : State) g x, (s.inst g).next = some x →
    ∃ y, ((s.activate g).inst g).active = some y ∧ y.id = s.nvm.bootCount * 2 ^ 32 + (s.activations + 1))
  ∧ (∀ (s s' : State) g g' x x', (s.inst g).next = some x → (s'.inst g').next = some x' → s.activations + 1 < 2 ^ 32 →
    s'.activations + 1 < 2 ^ 32 → (s.nvm.bootCount, s.activations) ≠ (s'.nvm.bootCount, s'.activations) →
    ∃ y y', ((s.activate g).inst g).active = some y ∧ ((s'.activate g').inst g').active = some y' ∧ y.id ≠ y'.id)

/-- What the block is right after reset (R9, R10, R304, R311 to R313): every register at its reset value, nothing
running, memory that lists nothing, no sessions, groups, contexts or requests, and the queue empty. What is per
package is log 1, and every good core is log 2. -/
def Obligations.ResetState : Prop :=
  (∀ a, State.reset.reg a = regReset a)
  ∧ (∀ b o, locate ((Blk.base b) + o) = some (b, o) → ∀ r, b.find o = some r → State.reset.reg (Blk.at b o) = r.reset)
  ∧ State.reset.pending = [] ∧ State.reset.sessions = [] ∧ State.reset.groups = [] ∧ State.reset.contexts = []
  ∧ State.reset.reqs = [] ∧ State.reset.held = [] ∧ State.reset.pins.rstN = false ∧ State.reset.counting = false
  ∧ memWf State.reset.mem = true ∧ (∀ a, memByte State.reset.mem a = 0) ∧ State.reset.time.ns = 0 ∧ State.reset.boot.phase = 1
  ∧ State.reset.boot.inRom = true ∧ State.reset.clocks.allGated = true ∧ State.reset.rbsy = false
  ∧ State.reset.evtLow = false ∧ State.reset.port.linkUp = false ∧ State.reset.resetCause = 1
  ∧ (∀ c k, (State.reset.core c).fenced = false ∧ (State.reset.arr k).phase = .empty)
  ∧ step State.reset = .next State.reset

/-- Signing and the event recorder (R380, R381, R391 to R396): BOTTOM_TREE_BUILD_DONE, OPERATING_SECONDS_STORE and
EVENT_RECORD_COMMIT; the staging queue holds at most 256 records, and a record takes the next number. Points that the
spec leaves open are settled by log 55. -/
def Obligations.RecordEvents : Prop :=
  (∀ (s : State), s.sec.building = true → ∃ t, exec .bottomTreeBuildDone s = .next t ∧ t.sec.building = false
      ∧ t.sec.built = true
      ∧ (s.sec.topLeaf < s.sec.topBlockEnd → t.sec.topLeaf = s.sec.topLeaf + 1 ∧ t.nvm = s.nvm)
      ∧ (s.sec.topBlockEnd ≤ s.sec.topLeaf → t.sec.topLeaf = s.nvm.signCopy.topEnd + 1
        ∧ t.sec.topBlockEnd = s.nvm.signCopy.topEnd + 1024)
      ∧ OnlyChanges [.sec, .nvm] s t)
  ∧ (∀ (s : State), s.sec.building = false → exec .bottomTreeBuildDone s = .next s)
  ∧ (∀ (s : State), s.counting = true →
    exec .operatingSecondsStore s = .next { s with nvm := { s.nvm with opStored := s.opS } })
  ∧ (∀ (s : State), s.recorder.staging = [] → exec .eventRecordCommit s = .next s)
  ∧ (∀ (s : State) r rest, s.recorder.staging = r :: rest →
    (s.nvm.records.map EvRec.size).sum + r.size ≤ recorderSlots →
    ∃ t, exec .eventRecordCommit s = .next t ∧ t.nvm.records = s.nvm.records ++ [r]
      ∧ (∃ l, t.recorder.staging = rest ++ l))
  ∧ (∀ (n m : Nvm) r k, (n.records.map (·.seq)).Nodup → Nvm.makeRoom r k n = some m → (m.records.map EvRec.size).sum + r.size ≤ recorderSlots
    ∧ (∀ x ∈ n.records, x ∉ m.records → r.severity ≤ x.severity))
  ∧ (∀ (s : State) sev code unit bytes, s.recorder.staging.length < 256 →
    ∃ r, (s.record sev code unit bytes).recorder.staging = s.recorder.staging ++ [r] ∧ r.seq = s.recorder.nextSeq
      ∧ r.severity = sev ∧ r.code = code ∧ r.unit = unit ∧ r.payload = bytes
      ∧ (s.record sev code unit bytes).recorder.nextSeq = s.recorder.nextSeq + payloadSlots bytes.length)
  ∧ (∀ (s : State) sev code unit bytes, 256 ≤ s.recorder.staging.length →
    (s.record sev code unit bytes).recorder.staging = s.recorder.staging
      ∧ (s.record sev code unit bytes).nvm.dropped = min 0xFFFFFFFF (s.nvm.dropped + 1))

/-! ### The error code and device memory (R331, R335) -/

/-- The error code corrects any one symbol of a granule and flags an error in any two or three, and device memory
reads what was last written, in the one canonical form of a memory. Points that the spec leaves open are settled by
log 15 and log 42. -/
def Obligations.EccAndMemory : Prop :=
  (∀ data i v, data < 2 ^ 256 → i < 36 → 0 < v → v < 256 → eccRead data [(i, v)] = (some data, true))
  ∧ (∀ data, eccRead data [] = (some data, false))
  ∧ (∀ data i j v w, i < j → j < 36 → 0 < v → v < 256 → 0 < w → w < 256 → eccRead data [(i, v), (j, w)] = (none, false))
  ∧ (∀ data i j k u v w, i < j → j < k → k < 36 → 0 < u → u < 256 → 0 < v → v < 256 → 0 < w → w < 256 →
    eccRead data [(i, u), (j, v), (k, w)] = (none, false))
  ∧ (∀ m a b, memWf m = true → memWf (memPut m a b) = true ∧ memByte (memPut m a b) a = b)
  ∧ (∀ m a b k, k ≠ a → memByte (memPut m a b) k = memByte m k)
  ∧ (∀ m n, memWf m = true → memWf n = true → (∀ a, memByte m a = memByte n a) → m = n)
  ∧ (∀ (s : State) g v, memWf s.mem = true → (s.putGranule g v).granule g = v % 2 ^ 256
    ∧ (s.putGranule g v).poison.contains g = false ∧ memWf (s.putGranule g v).mem = true)
  ∧ (∀ (s : State) g h v, h ≠ g → (s.putGranule g v).granule h = s.granule h)

/-! ### Invariants -/

/-- Device memory keeps its canonical form, no command lowers the security floor or the power-cycle count, none
changes the identity, and none touches the queue (R313, R314, R322, R376): for every state, reached or not. -/
def Obligations.StepKeeps : Prop :=
  ∀ (s t : State), step s = .next t →
    (memWf s.mem = true → memWf t.mem = true)
    ∧ s.nvm.floor ≤ t.nvm.floor ∧ s.nvm.bootCount ≤ t.nvm.bootCount
    ∧ t.nvm.serial = s.nvm.serial ∧ t.nvm.mac = s.nvm.mac ∧ t.nvm.goodMap = s.nvm.goodMap
    ∧ t.nvm.idPub = s.nvm.idPub ∧ t.nvm.certDate = s.nvm.certDate ∧ t.nvm.certKey = s.nvm.certKey
    ∧ t.nvm.certSig = s.nvm.certSig
    ∧ t.pending = s.pending.tail
end

