-- ==== Sys2Proof/Laws/Tbl.lean ====
section
/-!
SUPPORT. A table reads what was last put at a key, and other keys are left alone; no order of the keys is needed.
-/

namespace Sys2Proof

@[simp] theorem Tbl.get?_nil {α : Type} (j : Nat) : Tbl.get? ([] : Tbl α) j = none := rfl

@[simp] theorem Tbl.get?_put_self {α : Type} (t : Tbl α) (k : Nat) (v : α) : (t.put k v).get? k = some v := by
  induction t with
  | nil => simp [Tbl.put, Tbl.get?]
  | cons p rest ih =>
    obtain ⟨a, w⟩ := p
    simp only [Tbl.put]
    split
    · simp [Tbl.get?]
    · split
      · simp [Tbl.get?]
      · simp [Tbl.get?, *]

theorem Tbl.get?_put_ne {α : Type} (t : Tbl α) (k j : Nat) (v : α) (h : j ≠ k) : (t.put k v).get? j = t.get? j := by
  induction t with
  | nil => simp [Tbl.put, Tbl.get?, h.symm]
  | cons p rest ih =>
    obtain ⟨a, w⟩ := p
    simp only [Tbl.put]
    split
    · simp [Tbl.get?, h.symm]
    · split
      · subst_vars
        simp [Tbl.get?, h.symm]
      · simp [Tbl.get?, ih]

@[simp] theorem Tbl.getD_put_self {α : Type} (t : Tbl α) (k : Nat) (v d : α) : (t.put k v).getD k d = v := by
  simp [Tbl.getD]

theorem Tbl.getD_put_ne {α : Type} (t : Tbl α) {k j : Nat} (v d : α) (h : j ≠ k) : (t.put k v).getD j d = t.getD j d := by
  simp [Tbl.getD, Tbl.get?_put_ne t k j v h]

@[simp] theorem Tbl.get?_del_self {α : Type} (t : Tbl α) (k : Nat) : (t.del k).get? k = none := by
  induction t with
  | nil => rfl
  | cons p rest ih =>
    obtain ⟨a, w⟩ := p
    by_cases h : a = k
    · simpa [Tbl.del, h] using ih
    · simpa [Tbl.del, h, Tbl.get?] using ih

theorem Tbl.get?_del_ne {α : Type} (t : Tbl α) (k j : Nat) (h : j ≠ k) : (t.del k).get? j = t.get? j := by
  induction t with
  | nil => rfl
  | cons p rest ih =>
    obtain ⟨a, w⟩ := p
    by_cases ha : a = k
    · subst ha
      simpa [Tbl.del, Tbl.get?, h.symm] using ih
    · simpa [Tbl.del, ha, Tbl.get?] using congrArg (fun x => if a = j then some w else x) ih

end Sys2Proof
end

