-- ==== Sys2Proof/Laws/State.lean ====
section
/-!
SUPPORT. What each update of the state leaves as it was, field by field, and what it makes of the field it
changes.
-/

namespace Sys2Proof.Machine

open Sys2Proof

/-! ### setReg -/

@[simp] theorem State.setReg_pending (s : State) (a : Nat) (v : Word) : (s.setReg a v).pending = s.pending := rfl
@[simp] theorem State.setReg_pins (s : State) (a : Nat) (v : Word) : (s.setReg a v).pins = s.pins := rfl
@[simp] theorem State.setReg_nvm (s : State) (a : Nat) (v : Word) : (s.setReg a v).nvm = s.nvm := rfl
@[simp] theorem State.setReg_cfg (s : State) (a : Nat) (v : Word) : (s.setReg a v).cfg = s.cfg := rfl
@[simp] theorem State.setReg_wide (s : State) (a : Nat) (v : Word) : (s.setReg a v).wide = s.wide := rfl
@[simp] theorem State.setReg_deferred (s : State) (a : Nat) (v : Word) : (s.setReg a v).deferred = s.deferred := rfl
@[simp] theorem State.setReg_boot (s : State) (a : Nat) (v : Word) : (s.setReg a v).boot = s.boot := rfl
@[simp] theorem State.setReg_clocks (s : State) (a : Nat) (v : Word) : (s.setReg a v).clocks = s.clocks := rfl
@[simp] theorem State.setReg_time (s : State) (a : Nat) (v : Word) : (s.setReg a v).time = s.time := rfl
@[simp] theorem State.setReg_port (s : State) (a : Nat) (v : Word) : (s.setReg a v).port = s.port := rfl
@[simp] theorem State.setReg_sessions (s : State) (a : Nat) (v : Word) : (s.setReg a v).sessions = s.sessions := rfl
@[simp] theorem State.setReg_nonces (s : State) (a : Nat) (v : Word) : (s.setReg a v).nonces = s.nonces := rfl
@[simp] theorem State.setReg_held (s : State) (a : Nat) (v : Word) : (s.setReg a v).held = s.held := rfl
@[simp] theorem State.setReg_groups (s : State) (a : Nat) (v : Word) : (s.setReg a v).groups = s.groups := rfl
@[simp] theorem State.setReg_insts (s : State) (a : Nat) (v : Word) : (s.setReg a v).insts = s.insts := rfl
@[simp] theorem State.setReg_activations (s : State) (a : Nat) (v : Word) : (s.setReg a v).activations = s.activations := rfl
@[simp] theorem State.setReg_contexts (s : State) (a : Nat) (v : Word) : (s.setReg a v).contexts = s.contexts := rfl
@[simp] theorem State.setReg_reqs (s : State) (a : Nat) (v : Word) : (s.setReg a v).reqs = s.reqs := rfl
@[simp] theorem State.setReg_ended (s : State) (a : Nat) (v : Word) : (s.setReg a v).ended = s.ended := rfl
@[simp] theorem State.setReg_accepted (s : State) (a : Nat) (v : Word) : (s.setReg a v).accepted = s.accepted := rfl
@[simp] theorem State.setReg_spill (s : State) (a : Nat) (v : Word) : (s.setReg a v).spill = s.spill := rfl
@[simp] theorem State.setReg_mem (s : State) (a : Nat) (v : Word) : (s.setReg a v).mem = s.mem := rfl
@[simp] theorem State.setReg_poison (s : State) (a : Nat) (v : Word) : (s.setReg a v).poison = s.poison := rfl
@[simp] theorem State.setReg_stacks (s : State) (a : Nat) (v : Word) : (s.setReg a v).stackTbl = s.stackTbl := rfl
@[simp] theorem State.setReg_cores (s : State) (a : Nat) (v : Word) : (s.setReg a v).cores = s.cores := rfl
@[simp] theorem State.setReg_engines (s : State) (a : Nat) (v : Word) : (s.setReg a v).engines = s.engines := rfl
@[simp] theorem State.setReg_arrays (s : State) (a : Nat) (v : Word) : (s.setReg a v).arrays = s.arrays := rfl
@[simp] theorem State.setReg_fabric (s : State) (a : Nat) (v : Word) : (s.setReg a v).fabric = s.fabric := rfl
@[simp] theorem State.setReg_usher (s : State) (a : Nat) (v : Word) : (s.setReg a v).usher = s.usher := rfl
@[simp] theorem State.setReg_basin (s : State) (a : Nat) (v : Word) : (s.setReg a v).basin = s.basin := rfl
@[simp] theorem State.setReg_ctxView (s : State) (a : Nat) (v : Word) : (s.setReg a v).ctxView = s.ctxView := rfl
@[simp] theorem State.setReg_calOrder (s : State) (a : Nat) (v : Word) : (s.setReg a v).calOrder = s.calOrder := rfl
@[simp] theorem State.setReg_loadIndex (s : State) (a : Nat) (v : Word) : (s.setReg a v).loadIndex = s.loadIndex := rfl
@[simp] theorem State.setReg_startupDone (s : State) (a : Nat) (v : Word) : (s.setReg a v).startupDone = s.startupDone := rfl
@[simp] theorem State.setReg_thermal (s : State) (a : Nat) (v : Word) : (s.setReg a v).thermal = s.thermal := rfl
@[simp] theorem State.setReg_probe (s : State) (a : Nat) (v : Word) : (s.setReg a v).probe = s.probe := rfl
@[simp] theorem State.setReg_sec (s : State) (a : Nat) (v : Word) : (s.setReg a v).sec = s.sec := rfl
@[simp] theorem State.setReg_recorder (s : State) (a : Nat) (v : Word) : (s.setReg a v).recorder = s.recorder := rfl
@[simp] theorem State.setReg_out (s : State) (a : Nat) (v : Word) : (s.setReg a v).out = s.out := rfl
@[simp] theorem State.setReg_wire (s : State) (a : Nat) (v : Word) : (s.setReg a v).wire = s.wire := rfl
@[simp] theorem State.setReg_fresh (s : State) (a : Nat) (v : Word) : (s.setReg a v).fresh = s.fresh := rfl
@[simp] theorem State.setReg_switching (s : State) (a : Nat) (v : Word) : (s.setReg a v).switching = s.switching := rfl
@[simp] theorem State.setReg_resetCause (s : State) (a : Nat) (v : Word) : (s.setReg a v).resetCause = s.resetCause := rfl

/-! ### bump -/

@[simp] theorem State.bump_pending (s : State) (a n : Nat) : (s.bump a n).pending = s.pending := rfl
@[simp] theorem State.bump_pins (s : State) (a n : Nat) : (s.bump a n).pins = s.pins := rfl
@[simp] theorem State.bump_nvm (s : State) (a n : Nat) : (s.bump a n).nvm = s.nvm := rfl
@[simp] theorem State.bump_cfg (s : State) (a n : Nat) : (s.bump a n).cfg = s.cfg := rfl
@[simp] theorem State.bump_wide (s : State) (a n : Nat) : (s.bump a n).wide = s.wide := rfl
@[simp] theorem State.bump_deferred (s : State) (a n : Nat) : (s.bump a n).deferred = s.deferred := rfl
@[simp] theorem State.bump_boot (s : State) (a n : Nat) : (s.bump a n).boot = s.boot := rfl
@[simp] theorem State.bump_clocks (s : State) (a n : Nat) : (s.bump a n).clocks = s.clocks := rfl
@[simp] theorem State.bump_time (s : State) (a n : Nat) : (s.bump a n).time = s.time := rfl
@[simp] theorem State.bump_port (s : State) (a n : Nat) : (s.bump a n).port = s.port := rfl
@[simp] theorem State.bump_sessions (s : State) (a n : Nat) : (s.bump a n).sessions = s.sessions := rfl
@[simp] theorem State.bump_nonces (s : State) (a n : Nat) : (s.bump a n).nonces = s.nonces := rfl
@[simp] theorem State.bump_held (s : State) (a n : Nat) : (s.bump a n).held = s.held := rfl
@[simp] theorem State.bump_groups (s : State) (a n : Nat) : (s.bump a n).groups = s.groups := rfl
@[simp] theorem State.bump_insts (s : State) (a n : Nat) : (s.bump a n).insts = s.insts := rfl
@[simp] theorem State.bump_activations (s : State) (a n : Nat) : (s.bump a n).activations = s.activations := rfl
@[simp] theorem State.bump_contexts (s : State) (a n : Nat) : (s.bump a n).contexts = s.contexts := rfl
@[simp] theorem State.bump_reqs (s : State) (a n : Nat) : (s.bump a n).reqs = s.reqs := rfl
@[simp] theorem State.bump_ended (s : State) (a n : Nat) : (s.bump a n).ended = s.ended := rfl
@[simp] theorem State.bump_accepted (s : State) (a n : Nat) : (s.bump a n).accepted = s.accepted := rfl
@[simp] theorem State.bump_spill (s : State) (a n : Nat) : (s.bump a n).spill = s.spill := rfl
@[simp] theorem State.bump_mem (s : State) (a n : Nat) : (s.bump a n).mem = s.mem := rfl
@[simp] theorem State.bump_poison (s : State) (a n : Nat) : (s.bump a n).poison = s.poison := rfl
@[simp] theorem State.bump_stacks (s : State) (a n : Nat) : (s.bump a n).stackTbl = s.stackTbl := rfl
@[simp] theorem State.bump_cores (s : State) (a n : Nat) : (s.bump a n).cores = s.cores := rfl
@[simp] theorem State.bump_engines (s : State) (a n : Nat) : (s.bump a n).engines = s.engines := rfl
@[simp] theorem State.bump_arrays (s : State) (a n : Nat) : (s.bump a n).arrays = s.arrays := rfl
@[simp] theorem State.bump_fabric (s : State) (a n : Nat) : (s.bump a n).fabric = s.fabric := rfl
@[simp] theorem State.bump_usher (s : State) (a n : Nat) : (s.bump a n).usher = s.usher := rfl
@[simp] theorem State.bump_basin (s : State) (a n : Nat) : (s.bump a n).basin = s.basin := rfl
@[simp] theorem State.bump_ctxView (s : State) (a n : Nat) : (s.bump a n).ctxView = s.ctxView := rfl
@[simp] theorem State.bump_calOrder (s : State) (a n : Nat) : (s.bump a n).calOrder = s.calOrder := rfl
@[simp] theorem State.bump_loadIndex (s : State) (a n : Nat) : (s.bump a n).loadIndex = s.loadIndex := rfl
@[simp] theorem State.bump_startupDone (s : State) (a n : Nat) : (s.bump a n).startupDone = s.startupDone := rfl
@[simp] theorem State.bump_thermal (s : State) (a n : Nat) : (s.bump a n).thermal = s.thermal := rfl
@[simp] theorem State.bump_probe (s : State) (a n : Nat) : (s.bump a n).probe = s.probe := rfl
@[simp] theorem State.bump_sec (s : State) (a n : Nat) : (s.bump a n).sec = s.sec := rfl
@[simp] theorem State.bump_recorder (s : State) (a n : Nat) : (s.bump a n).recorder = s.recorder := rfl
@[simp] theorem State.bump_out (s : State) (a n : Nat) : (s.bump a n).out = s.out := rfl
@[simp] theorem State.bump_wire (s : State) (a n : Nat) : (s.bump a n).wire = s.wire := rfl
@[simp] theorem State.bump_fresh (s : State) (a n : Nat) : (s.bump a n).fresh = s.fresh := rfl
@[simp] theorem State.bump_switching (s : State) (a n : Nat) : (s.bump a n).switching = s.switching := rfl
@[simp] theorem State.bump_resetCause (s : State) (a n : Nat) : (s.bump a n).resetCause = s.resetCause := rfl

/-! ### bumpLo -/

@[simp] theorem State.bumpLo_pending (s : State) (a n : Nat) : (s.bumpLo a n).pending = s.pending := rfl
@[simp] theorem State.bumpLo_pins (s : State) (a n : Nat) : (s.bumpLo a n).pins = s.pins := rfl
@[simp] theorem State.bumpLo_nvm (s : State) (a n : Nat) : (s.bumpLo a n).nvm = s.nvm := rfl
@[simp] theorem State.bumpLo_cfg (s : State) (a n : Nat) : (s.bumpLo a n).cfg = s.cfg := rfl
@[simp] theorem State.bumpLo_wide (s : State) (a n : Nat) : (s.bumpLo a n).wide = s.wide := rfl
@[simp] theorem State.bumpLo_deferred (s : State) (a n : Nat) : (s.bumpLo a n).deferred = s.deferred := rfl
@[simp] theorem State.bumpLo_boot (s : State) (a n : Nat) : (s.bumpLo a n).boot = s.boot := rfl
@[simp] theorem State.bumpLo_clocks (s : State) (a n : Nat) : (s.bumpLo a n).clocks = s.clocks := rfl
@[simp] theorem State.bumpLo_time (s : State) (a n : Nat) : (s.bumpLo a n).time = s.time := rfl
@[simp] theorem State.bumpLo_port (s : State) (a n : Nat) : (s.bumpLo a n).port = s.port := rfl
@[simp] theorem State.bumpLo_sessions (s : State) (a n : Nat) : (s.bumpLo a n).sessions = s.sessions := rfl
@[simp] theorem State.bumpLo_nonces (s : State) (a n : Nat) : (s.bumpLo a n).nonces = s.nonces := rfl
@[simp] theorem State.bumpLo_held (s : State) (a n : Nat) : (s.bumpLo a n).held = s.held := rfl
@[simp] theorem State.bumpLo_groups (s : State) (a n : Nat) : (s.bumpLo a n).groups = s.groups := rfl
@[simp] theorem State.bumpLo_insts (s : State) (a n : Nat) : (s.bumpLo a n).insts = s.insts := rfl
@[simp] theorem State.bumpLo_activations (s : State) (a n : Nat) : (s.bumpLo a n).activations = s.activations := rfl
@[simp] theorem State.bumpLo_contexts (s : State) (a n : Nat) : (s.bumpLo a n).contexts = s.contexts := rfl
@[simp] theorem State.bumpLo_reqs (s : State) (a n : Nat) : (s.bumpLo a n).reqs = s.reqs := rfl
@[simp] theorem State.bumpLo_ended (s : State) (a n : Nat) : (s.bumpLo a n).ended = s.ended := rfl
@[simp] theorem State.bumpLo_accepted (s : State) (a n : Nat) : (s.bumpLo a n).accepted = s.accepted := rfl
@[simp] theorem State.bumpLo_spill (s : State) (a n : Nat) : (s.bumpLo a n).spill = s.spill := rfl
@[simp] theorem State.bumpLo_mem (s : State) (a n : Nat) : (s.bumpLo a n).mem = s.mem := rfl
@[simp] theorem State.bumpLo_poison (s : State) (a n : Nat) : (s.bumpLo a n).poison = s.poison := rfl
@[simp] theorem State.bumpLo_stacks (s : State) (a n : Nat) : (s.bumpLo a n).stackTbl = s.stackTbl := rfl
@[simp] theorem State.bumpLo_cores (s : State) (a n : Nat) : (s.bumpLo a n).cores = s.cores := rfl
@[simp] theorem State.bumpLo_engines (s : State) (a n : Nat) : (s.bumpLo a n).engines = s.engines := rfl
@[simp] theorem State.bumpLo_arrays (s : State) (a n : Nat) : (s.bumpLo a n).arrays = s.arrays := rfl
@[simp] theorem State.bumpLo_fabric (s : State) (a n : Nat) : (s.bumpLo a n).fabric = s.fabric := rfl
@[simp] theorem State.bumpLo_usher (s : State) (a n : Nat) : (s.bumpLo a n).usher = s.usher := rfl
@[simp] theorem State.bumpLo_basin (s : State) (a n : Nat) : (s.bumpLo a n).basin = s.basin := rfl
@[simp] theorem State.bumpLo_ctxView (s : State) (a n : Nat) : (s.bumpLo a n).ctxView = s.ctxView := rfl
@[simp] theorem State.bumpLo_calOrder (s : State) (a n : Nat) : (s.bumpLo a n).calOrder = s.calOrder := rfl
@[simp] theorem State.bumpLo_loadIndex (s : State) (a n : Nat) : (s.bumpLo a n).loadIndex = s.loadIndex := rfl
@[simp] theorem State.bumpLo_startupDone (s : State) (a n : Nat) : (s.bumpLo a n).startupDone = s.startupDone := rfl
@[simp] theorem State.bumpLo_thermal (s : State) (a n : Nat) : (s.bumpLo a n).thermal = s.thermal := rfl
@[simp] theorem State.bumpLo_probe (s : State) (a n : Nat) : (s.bumpLo a n).probe = s.probe := rfl
@[simp] theorem State.bumpLo_sec (s : State) (a n : Nat) : (s.bumpLo a n).sec = s.sec := rfl
@[simp] theorem State.bumpLo_recorder (s : State) (a n : Nat) : (s.bumpLo a n).recorder = s.recorder := rfl
@[simp] theorem State.bumpLo_out (s : State) (a n : Nat) : (s.bumpLo a n).out = s.out := rfl
@[simp] theorem State.bumpLo_wire (s : State) (a n : Nat) : (s.bumpLo a n).wire = s.wire := rfl
@[simp] theorem State.bumpLo_fresh (s : State) (a n : Nat) : (s.bumpLo a n).fresh = s.fresh := rfl
@[simp] theorem State.bumpLo_switching (s : State) (a n : Nat) : (s.bumpLo a n).switching = s.switching := rfl
@[simp] theorem State.bumpLo_resetCause (s : State) (a n : Nat) : (s.bumpLo a n).resetCause = s.resetCause := rfl

/-! ### bumpHi -/

@[simp] theorem State.bumpHi_pending (s : State) (a n : Nat) : (s.bumpHi a n).pending = s.pending := rfl
@[simp] theorem State.bumpHi_pins (s : State) (a n : Nat) : (s.bumpHi a n).pins = s.pins := rfl
@[simp] theorem State.bumpHi_nvm (s : State) (a n : Nat) : (s.bumpHi a n).nvm = s.nvm := rfl
@[simp] theorem State.bumpHi_cfg (s : State) (a n : Nat) : (s.bumpHi a n).cfg = s.cfg := rfl
@[simp] theorem State.bumpHi_wide (s : State) (a n : Nat) : (s.bumpHi a n).wide = s.wide := rfl
@[simp] theorem State.bumpHi_deferred (s : State) (a n : Nat) : (s.bumpHi a n).deferred = s.deferred := rfl
@[simp] theorem State.bumpHi_boot (s : State) (a n : Nat) : (s.bumpHi a n).boot = s.boot := rfl
@[simp] theorem State.bumpHi_clocks (s : State) (a n : Nat) : (s.bumpHi a n).clocks = s.clocks := rfl
@[simp] theorem State.bumpHi_time (s : State) (a n : Nat) : (s.bumpHi a n).time = s.time := rfl
@[simp] theorem State.bumpHi_port (s : State) (a n : Nat) : (s.bumpHi a n).port = s.port := rfl
@[simp] theorem State.bumpHi_sessions (s : State) (a n : Nat) : (s.bumpHi a n).sessions = s.sessions := rfl
@[simp] theorem State.bumpHi_nonces (s : State) (a n : Nat) : (s.bumpHi a n).nonces = s.nonces := rfl
@[simp] theorem State.bumpHi_held (s : State) (a n : Nat) : (s.bumpHi a n).held = s.held := rfl
@[simp] theorem State.bumpHi_groups (s : State) (a n : Nat) : (s.bumpHi a n).groups = s.groups := rfl
@[simp] theorem State.bumpHi_insts (s : State) (a n : Nat) : (s.bumpHi a n).insts = s.insts := rfl
@[simp] theorem State.bumpHi_activations (s : State) (a n : Nat) : (s.bumpHi a n).activations = s.activations := rfl
@[simp] theorem State.bumpHi_contexts (s : State) (a n : Nat) : (s.bumpHi a n).contexts = s.contexts := rfl
@[simp] theorem State.bumpHi_reqs (s : State) (a n : Nat) : (s.bumpHi a n).reqs = s.reqs := rfl
@[simp] theorem State.bumpHi_ended (s : State) (a n : Nat) : (s.bumpHi a n).ended = s.ended := rfl
@[simp] theorem State.bumpHi_accepted (s : State) (a n : Nat) : (s.bumpHi a n).accepted = s.accepted := rfl
@[simp] theorem State.bumpHi_spill (s : State) (a n : Nat) : (s.bumpHi a n).spill = s.spill := rfl
@[simp] theorem State.bumpHi_mem (s : State) (a n : Nat) : (s.bumpHi a n).mem = s.mem := rfl
@[simp] theorem State.bumpHi_poison (s : State) (a n : Nat) : (s.bumpHi a n).poison = s.poison := rfl
@[simp] theorem State.bumpHi_stacks (s : State) (a n : Nat) : (s.bumpHi a n).stackTbl = s.stackTbl := rfl
@[simp] theorem State.bumpHi_cores (s : State) (a n : Nat) : (s.bumpHi a n).cores = s.cores := rfl
@[simp] theorem State.bumpHi_engines (s : State) (a n : Nat) : (s.bumpHi a n).engines = s.engines := rfl
@[simp] theorem State.bumpHi_arrays (s : State) (a n : Nat) : (s.bumpHi a n).arrays = s.arrays := rfl
@[simp] theorem State.bumpHi_fabric (s : State) (a n : Nat) : (s.bumpHi a n).fabric = s.fabric := rfl
@[simp] theorem State.bumpHi_usher (s : State) (a n : Nat) : (s.bumpHi a n).usher = s.usher := rfl
@[simp] theorem State.bumpHi_basin (s : State) (a n : Nat) : (s.bumpHi a n).basin = s.basin := rfl
@[simp] theorem State.bumpHi_ctxView (s : State) (a n : Nat) : (s.bumpHi a n).ctxView = s.ctxView := rfl
@[simp] theorem State.bumpHi_calOrder (s : State) (a n : Nat) : (s.bumpHi a n).calOrder = s.calOrder := rfl
@[simp] theorem State.bumpHi_loadIndex (s : State) (a n : Nat) : (s.bumpHi a n).loadIndex = s.loadIndex := rfl
@[simp] theorem State.bumpHi_startupDone (s : State) (a n : Nat) : (s.bumpHi a n).startupDone = s.startupDone := rfl
@[simp] theorem State.bumpHi_thermal (s : State) (a n : Nat) : (s.bumpHi a n).thermal = s.thermal := rfl
@[simp] theorem State.bumpHi_probe (s : State) (a n : Nat) : (s.bumpHi a n).probe = s.probe := rfl
@[simp] theorem State.bumpHi_sec (s : State) (a n : Nat) : (s.bumpHi a n).sec = s.sec := rfl
@[simp] theorem State.bumpHi_recorder (s : State) (a n : Nat) : (s.bumpHi a n).recorder = s.recorder := rfl
@[simp] theorem State.bumpHi_out (s : State) (a n : Nat) : (s.bumpHi a n).out = s.out := rfl
@[simp] theorem State.bumpHi_wire (s : State) (a n : Nat) : (s.bumpHi a n).wire = s.wire := rfl
@[simp] theorem State.bumpHi_fresh (s : State) (a n : Nat) : (s.bumpHi a n).fresh = s.fresh := rfl
@[simp] theorem State.bumpHi_switching (s : State) (a n : Nat) : (s.bumpHi a n).switching = s.switching := rfl
@[simp] theorem State.bumpHi_resetCause (s : State) (a n : Nat) : (s.bumpHi a n).resetCause = s.resetCause := rfl

/-! ### bumpWide -/

@[simp] theorem State.bumpWide_pending (s : State) (a n : Nat) : (s.bumpWide a n).pending = s.pending := rfl
@[simp] theorem State.bumpWide_pins (s : State) (a n : Nat) : (s.bumpWide a n).pins = s.pins := rfl
@[simp] theorem State.bumpWide_nvm (s : State) (a n : Nat) : (s.bumpWide a n).nvm = s.nvm := rfl
@[simp] theorem State.bumpWide_cfg (s : State) (a n : Nat) : (s.bumpWide a n).cfg = s.cfg := rfl
@[simp] theorem State.bumpWide_regs (s : State) (a n : Nat) : (s.bumpWide a n).regs = s.regs := rfl
@[simp] theorem State.bumpWide_deferred (s : State) (a n : Nat) : (s.bumpWide a n).deferred = s.deferred := rfl
@[simp] theorem State.bumpWide_boot (s : State) (a n : Nat) : (s.bumpWide a n).boot = s.boot := rfl
@[simp] theorem State.bumpWide_clocks (s : State) (a n : Nat) : (s.bumpWide a n).clocks = s.clocks := rfl
@[simp] theorem State.bumpWide_time (s : State) (a n : Nat) : (s.bumpWide a n).time = s.time := rfl
@[simp] theorem State.bumpWide_port (s : State) (a n : Nat) : (s.bumpWide a n).port = s.port := rfl
@[simp] theorem State.bumpWide_sessions (s : State) (a n : Nat) : (s.bumpWide a n).sessions = s.sessions := rfl
@[simp] theorem State.bumpWide_nonces (s : State) (a n : Nat) : (s.bumpWide a n).nonces = s.nonces := rfl
@[simp] theorem State.bumpWide_held (s : State) (a n : Nat) : (s.bumpWide a n).held = s.held := rfl
@[simp] theorem State.bumpWide_groups (s : State) (a n : Nat) : (s.bumpWide a n).groups = s.groups := rfl
@[simp] theorem State.bumpWide_insts (s : State) (a n : Nat) : (s.bumpWide a n).insts = s.insts := rfl
@[simp] theorem State.bumpWide_activations (s : State) (a n : Nat) : (s.bumpWide a n).activations = s.activations := rfl
@[simp] theorem State.bumpWide_contexts (s : State) (a n : Nat) : (s.bumpWide a n).contexts = s.contexts := rfl
@[simp] theorem State.bumpWide_reqs (s : State) (a n : Nat) : (s.bumpWide a n).reqs = s.reqs := rfl
@[simp] theorem State.bumpWide_ended (s : State) (a n : Nat) : (s.bumpWide a n).ended = s.ended := rfl
@[simp] theorem State.bumpWide_accepted (s : State) (a n : Nat) : (s.bumpWide a n).accepted = s.accepted := rfl
@[simp] theorem State.bumpWide_spill (s : State) (a n : Nat) : (s.bumpWide a n).spill = s.spill := rfl
@[simp] theorem State.bumpWide_mem (s : State) (a n : Nat) : (s.bumpWide a n).mem = s.mem := rfl
@[simp] theorem State.bumpWide_poison (s : State) (a n : Nat) : (s.bumpWide a n).poison = s.poison := rfl
@[simp] theorem State.bumpWide_stacks (s : State) (a n : Nat) : (s.bumpWide a n).stackTbl = s.stackTbl := rfl
@[simp] theorem State.bumpWide_cores (s : State) (a n : Nat) : (s.bumpWide a n).cores = s.cores := rfl
@[simp] theorem State.bumpWide_engines (s : State) (a n : Nat) : (s.bumpWide a n).engines = s.engines := rfl
@[simp] theorem State.bumpWide_arrays (s : State) (a n : Nat) : (s.bumpWide a n).arrays = s.arrays := rfl
@[simp] theorem State.bumpWide_fabric (s : State) (a n : Nat) : (s.bumpWide a n).fabric = s.fabric := rfl
@[simp] theorem State.bumpWide_usher (s : State) (a n : Nat) : (s.bumpWide a n).usher = s.usher := rfl
@[simp] theorem State.bumpWide_basin (s : State) (a n : Nat) : (s.bumpWide a n).basin = s.basin := rfl
@[simp] theorem State.bumpWide_ctxView (s : State) (a n : Nat) : (s.bumpWide a n).ctxView = s.ctxView := rfl
@[simp] theorem State.bumpWide_calOrder (s : State) (a n : Nat) : (s.bumpWide a n).calOrder = s.calOrder := rfl
@[simp] theorem State.bumpWide_loadIndex (s : State) (a n : Nat) : (s.bumpWide a n).loadIndex = s.loadIndex := rfl
@[simp] theorem State.bumpWide_startupDone (s : State) (a n : Nat) : (s.bumpWide a n).startupDone = s.startupDone := rfl
@[simp] theorem State.bumpWide_thermal (s : State) (a n : Nat) : (s.bumpWide a n).thermal = s.thermal := rfl
@[simp] theorem State.bumpWide_probe (s : State) (a n : Nat) : (s.bumpWide a n).probe = s.probe := rfl
@[simp] theorem State.bumpWide_sec (s : State) (a n : Nat) : (s.bumpWide a n).sec = s.sec := rfl
@[simp] theorem State.bumpWide_recorder (s : State) (a n : Nat) : (s.bumpWide a n).recorder = s.recorder := rfl
@[simp] theorem State.bumpWide_out (s : State) (a n : Nat) : (s.bumpWide a n).out = s.out := rfl
@[simp] theorem State.bumpWide_wire (s : State) (a n : Nat) : (s.bumpWide a n).wire = s.wire := rfl
@[simp] theorem State.bumpWide_fresh (s : State) (a n : Nat) : (s.bumpWide a n).fresh = s.fresh := rfl
@[simp] theorem State.bumpWide_switching (s : State) (a n : Nat) : (s.bumpWide a n).switching = s.switching := rfl
@[simp] theorem State.bumpWide_resetCause (s : State) (a n : Nat) : (s.bumpWide a n).resetCause = s.resetCause := rfl

/-! ### setCause -/

@[simp] theorem State.setCause_pending (s : State) (b : Nat) : (s.setCause b).pending = s.pending := rfl
@[simp] theorem State.setCause_pins (s : State) (b : Nat) : (s.setCause b).pins = s.pins := rfl
@[simp] theorem State.setCause_nvm (s : State) (b : Nat) : (s.setCause b).nvm = s.nvm := rfl
@[simp] theorem State.setCause_cfg (s : State) (b : Nat) : (s.setCause b).cfg = s.cfg := rfl
@[simp] theorem State.setCause_wide (s : State) (b : Nat) : (s.setCause b).wide = s.wide := rfl
@[simp] theorem State.setCause_deferred (s : State) (b : Nat) : (s.setCause b).deferred = s.deferred := rfl
@[simp] theorem State.setCause_boot (s : State) (b : Nat) : (s.setCause b).boot = s.boot := rfl
@[simp] theorem State.setCause_clocks (s : State) (b : Nat) : (s.setCause b).clocks = s.clocks := rfl
@[simp] theorem State.setCause_time (s : State) (b : Nat) : (s.setCause b).time = s.time := rfl
@[simp] theorem State.setCause_port (s : State) (b : Nat) : (s.setCause b).port = s.port := rfl
@[simp] theorem State.setCause_sessions (s : State) (b : Nat) : (s.setCause b).sessions = s.sessions := rfl
@[simp] theorem State.setCause_nonces (s : State) (b : Nat) : (s.setCause b).nonces = s.nonces := rfl
@[simp] theorem State.setCause_held (s : State) (b : Nat) : (s.setCause b).held = s.held := rfl
@[simp] theorem State.setCause_groups (s : State) (b : Nat) : (s.setCause b).groups = s.groups := rfl
@[simp] theorem State.setCause_insts (s : State) (b : Nat) : (s.setCause b).insts = s.insts := rfl
@[simp] theorem State.setCause_activations (s : State) (b : Nat) : (s.setCause b).activations = s.activations := rfl
@[simp] theorem State.setCause_contexts (s : State) (b : Nat) : (s.setCause b).contexts = s.contexts := rfl
@[simp] theorem State.setCause_reqs (s : State) (b : Nat) : (s.setCause b).reqs = s.reqs := rfl
@[simp] theorem State.setCause_ended (s : State) (b : Nat) : (s.setCause b).ended = s.ended := rfl
@[simp] theorem State.setCause_accepted (s : State) (b : Nat) : (s.setCause b).accepted = s.accepted := rfl
@[simp] theorem State.setCause_spill (s : State) (b : Nat) : (s.setCause b).spill = s.spill := rfl
@[simp] theorem State.setCause_mem (s : State) (b : Nat) : (s.setCause b).mem = s.mem := rfl
@[simp] theorem State.setCause_poison (s : State) (b : Nat) : (s.setCause b).poison = s.poison := rfl
@[simp] theorem State.setCause_stacks (s : State) (b : Nat) : (s.setCause b).stackTbl = s.stackTbl := rfl
@[simp] theorem State.setCause_cores (s : State) (b : Nat) : (s.setCause b).cores = s.cores := rfl
@[simp] theorem State.setCause_engines (s : State) (b : Nat) : (s.setCause b).engines = s.engines := rfl
@[simp] theorem State.setCause_arrays (s : State) (b : Nat) : (s.setCause b).arrays = s.arrays := rfl
@[simp] theorem State.setCause_fabric (s : State) (b : Nat) : (s.setCause b).fabric = s.fabric := rfl
@[simp] theorem State.setCause_usher (s : State) (b : Nat) : (s.setCause b).usher = s.usher := rfl
@[simp] theorem State.setCause_basin (s : State) (b : Nat) : (s.setCause b).basin = s.basin := rfl
@[simp] theorem State.setCause_ctxView (s : State) (b : Nat) : (s.setCause b).ctxView = s.ctxView := rfl
@[simp] theorem State.setCause_calOrder (s : State) (b : Nat) : (s.setCause b).calOrder = s.calOrder := rfl
@[simp] theorem State.setCause_loadIndex (s : State) (b : Nat) : (s.setCause b).loadIndex = s.loadIndex := rfl
@[simp] theorem State.setCause_startupDone (s : State) (b : Nat) : (s.setCause b).startupDone = s.startupDone := rfl
@[simp] theorem State.setCause_thermal (s : State) (b : Nat) : (s.setCause b).thermal = s.thermal := rfl
@[simp] theorem State.setCause_probe (s : State) (b : Nat) : (s.setCause b).probe = s.probe := rfl
@[simp] theorem State.setCause_sec (s : State) (b : Nat) : (s.setCause b).sec = s.sec := rfl
@[simp] theorem State.setCause_recorder (s : State) (b : Nat) : (s.setCause b).recorder = s.recorder := rfl
@[simp] theorem State.setCause_out (s : State) (b : Nat) : (s.setCause b).out = s.out := rfl
@[simp] theorem State.setCause_wire (s : State) (b : Nat) : (s.setCause b).wire = s.wire := rfl
@[simp] theorem State.setCause_fresh (s : State) (b : Nat) : (s.setCause b).fresh = s.fresh := rfl
@[simp] theorem State.setCause_switching (s : State) (b : Nat) : (s.setCause b).switching = s.switching := rfl
@[simp] theorem State.setCause_resetCause (s : State) (b : Nat) : (s.setCause b).resetCause = s.resetCause := rfl

/-! ### updCore -/

@[simp] theorem State.updCore_pending (s : State) (c : Nat) (f : CoreState → CoreState) : (s.updCore c f).pending = s.pending := rfl
@[simp] theorem State.updCore_pins (s : State) (c : Nat) (f : CoreState → CoreState) : (s.updCore c f).pins = s.pins := rfl
@[simp] theorem State.updCore_nvm (s : State) (c : Nat) (f : CoreState → CoreState) : (s.updCore c f).nvm = s.nvm := rfl
@[simp] theorem State.updCore_cfg (s : State) (c : Nat) (f : CoreState → CoreState) : (s.updCore c f).cfg = s.cfg := rfl
@[simp] theorem State.updCore_regs (s : State) (c : Nat) (f : CoreState → CoreState) : (s.updCore c f).regs = s.regs := rfl
@[simp] theorem State.updCore_wide (s : State) (c : Nat) (f : CoreState → CoreState) : (s.updCore c f).wide = s.wide := rfl
@[simp] theorem State.updCore_deferred (s : State) (c : Nat) (f : CoreState → CoreState) : (s.updCore c f).deferred = s.deferred := rfl
@[simp] theorem State.updCore_boot (s : State) (c : Nat) (f : CoreState → CoreState) : (s.updCore c f).boot = s.boot := rfl
@[simp] theorem State.updCore_clocks (s : State) (c : Nat) (f : CoreState → CoreState) : (s.updCore c f).clocks = s.clocks := rfl
@[simp] theorem State.updCore_time (s : State) (c : Nat) (f : CoreState → CoreState) : (s.updCore c f).time = s.time := rfl
@[simp] theorem State.updCore_port (s : State) (c : Nat) (f : CoreState → CoreState) : (s.updCore c f).port = s.port := rfl
@[simp] theorem State.updCore_sessions (s : State) (c : Nat) (f : CoreState → CoreState) : (s.updCore c f).sessions = s.sessions := rfl
@[simp] theorem State.updCore_nonces (s : State) (c : Nat) (f : CoreState → CoreState) : (s.updCore c f).nonces = s.nonces := rfl
@[simp] theorem State.updCore_held (s : State) (c : Nat) (f : CoreState → CoreState) : (s.updCore c f).held = s.held := rfl
@[simp] theorem State.updCore_groups (s : State) (c : Nat) (f : CoreState → CoreState) : (s.updCore c f).groups = s.groups := rfl
@[simp] theorem State.updCore_insts (s : State) (c : Nat) (f : CoreState → CoreState) : (s.updCore c f).insts = s.insts := rfl
@[simp] theorem State.updCore_activations (s : State) (c : Nat) (f : CoreState → CoreState) : (s.updCore c f).activations = s.activations := rfl
@[simp] theorem State.updCore_contexts (s : State) (c : Nat) (f : CoreState → CoreState) : (s.updCore c f).contexts = s.contexts := rfl
@[simp] theorem State.updCore_reqs (s : State) (c : Nat) (f : CoreState → CoreState) : (s.updCore c f).reqs = s.reqs := rfl
@[simp] theorem State.updCore_ended (s : State) (c : Nat) (f : CoreState → CoreState) : (s.updCore c f).ended = s.ended := rfl
@[simp] theorem State.updCore_accepted (s : State) (c : Nat) (f : CoreState → CoreState) : (s.updCore c f).accepted = s.accepted := rfl
@[simp] theorem State.updCore_spill (s : State) (c : Nat) (f : CoreState → CoreState) : (s.updCore c f).spill = s.spill := rfl
@[simp] theorem State.updCore_mem (s : State) (c : Nat) (f : CoreState → CoreState) : (s.updCore c f).mem = s.mem := rfl
@[simp] theorem State.updCore_poison (s : State) (c : Nat) (f : CoreState → CoreState) : (s.updCore c f).poison = s.poison := rfl
@[simp] theorem State.updCore_stacks (s : State) (c : Nat) (f : CoreState → CoreState) : (s.updCore c f).stackTbl = s.stackTbl := rfl
@[simp] theorem State.updCore_engines (s : State) (c : Nat) (f : CoreState → CoreState) : (s.updCore c f).engines = s.engines := rfl
@[simp] theorem State.updCore_arrays (s : State) (c : Nat) (f : CoreState → CoreState) : (s.updCore c f).arrays = s.arrays := rfl
@[simp] theorem State.updCore_fabric (s : State) (c : Nat) (f : CoreState → CoreState) : (s.updCore c f).fabric = s.fabric := rfl
@[simp] theorem State.updCore_usher (s : State) (c : Nat) (f : CoreState → CoreState) : (s.updCore c f).usher = s.usher := rfl
@[simp] theorem State.updCore_basin (s : State) (c : Nat) (f : CoreState → CoreState) : (s.updCore c f).basin = s.basin := rfl
@[simp] theorem State.updCore_ctxView (s : State) (c : Nat) (f : CoreState → CoreState) : (s.updCore c f).ctxView = s.ctxView := rfl
@[simp] theorem State.updCore_calOrder (s : State) (c : Nat) (f : CoreState → CoreState) : (s.updCore c f).calOrder = s.calOrder := rfl
@[simp] theorem State.updCore_loadIndex (s : State) (c : Nat) (f : CoreState → CoreState) : (s.updCore c f).loadIndex = s.loadIndex := rfl
@[simp] theorem State.updCore_startupDone (s : State) (c : Nat) (f : CoreState → CoreState) : (s.updCore c f).startupDone = s.startupDone := rfl
@[simp] theorem State.updCore_thermal (s : State) (c : Nat) (f : CoreState → CoreState) : (s.updCore c f).thermal = s.thermal := rfl
@[simp] theorem State.updCore_probe (s : State) (c : Nat) (f : CoreState → CoreState) : (s.updCore c f).probe = s.probe := rfl
@[simp] theorem State.updCore_sec (s : State) (c : Nat) (f : CoreState → CoreState) : (s.updCore c f).sec = s.sec := rfl
@[simp] theorem State.updCore_recorder (s : State) (c : Nat) (f : CoreState → CoreState) : (s.updCore c f).recorder = s.recorder := rfl
@[simp] theorem State.updCore_out (s : State) (c : Nat) (f : CoreState → CoreState) : (s.updCore c f).out = s.out := rfl
@[simp] theorem State.updCore_wire (s : State) (c : Nat) (f : CoreState → CoreState) : (s.updCore c f).wire = s.wire := rfl
@[simp] theorem State.updCore_fresh (s : State) (c : Nat) (f : CoreState → CoreState) : (s.updCore c f).fresh = s.fresh := rfl
@[simp] theorem State.updCore_switching (s : State) (c : Nat) (f : CoreState → CoreState) : (s.updCore c f).switching = s.switching := rfl
@[simp] theorem State.updCore_resetCause (s : State) (c : Nat) (f : CoreState → CoreState) : (s.updCore c f).resetCause = s.resetCause := rfl

/-! ### updEng -/

@[simp] theorem State.updEng_pending (s : State) (k : Nat) (f : EngState → EngState) : (s.updEng k f).pending = s.pending := rfl
@[simp] theorem State.updEng_pins (s : State) (k : Nat) (f : EngState → EngState) : (s.updEng k f).pins = s.pins := rfl
@[simp] theorem State.updEng_nvm (s : State) (k : Nat) (f : EngState → EngState) : (s.updEng k f).nvm = s.nvm := rfl
@[simp] theorem State.updEng_cfg (s : State) (k : Nat) (f : EngState → EngState) : (s.updEng k f).cfg = s.cfg := rfl
@[simp] theorem State.updEng_regs (s : State) (k : Nat) (f : EngState → EngState) : (s.updEng k f).regs = s.regs := rfl
@[simp] theorem State.updEng_wide (s : State) (k : Nat) (f : EngState → EngState) : (s.updEng k f).wide = s.wide := rfl
@[simp] theorem State.updEng_deferred (s : State) (k : Nat) (f : EngState → EngState) : (s.updEng k f).deferred = s.deferred := rfl
@[simp] theorem State.updEng_boot (s : State) (k : Nat) (f : EngState → EngState) : (s.updEng k f).boot = s.boot := rfl
@[simp] theorem State.updEng_clocks (s : State) (k : Nat) (f : EngState → EngState) : (s.updEng k f).clocks = s.clocks := rfl
@[simp] theorem State.updEng_time (s : State) (k : Nat) (f : EngState → EngState) : (s.updEng k f).time = s.time := rfl
@[simp] theorem State.updEng_port (s : State) (k : Nat) (f : EngState → EngState) : (s.updEng k f).port = s.port := rfl
@[simp] theorem State.updEng_sessions (s : State) (k : Nat) (f : EngState → EngState) : (s.updEng k f).sessions = s.sessions := rfl
@[simp] theorem State.updEng_nonces (s : State) (k : Nat) (f : EngState → EngState) : (s.updEng k f).nonces = s.nonces := rfl
@[simp] theorem State.updEng_held (s : State) (k : Nat) (f : EngState → EngState) : (s.updEng k f).held = s.held := rfl
@[simp] theorem State.updEng_groups (s : State) (k : Nat) (f : EngState → EngState) : (s.updEng k f).groups = s.groups := rfl
@[simp] theorem State.updEng_insts (s : State) (k : Nat) (f : EngState → EngState) : (s.updEng k f).insts = s.insts := rfl
@[simp] theorem State.updEng_activations (s : State) (k : Nat) (f : EngState → EngState) : (s.updEng k f).activations = s.activations := rfl
@[simp] theorem State.updEng_contexts (s : State) (k : Nat) (f : EngState → EngState) : (s.updEng k f).contexts = s.contexts := rfl
@[simp] theorem State.updEng_reqs (s : State) (k : Nat) (f : EngState → EngState) : (s.updEng k f).reqs = s.reqs := rfl
@[simp] theorem State.updEng_ended (s : State) (k : Nat) (f : EngState → EngState) : (s.updEng k f).ended = s.ended := rfl
@[simp] theorem State.updEng_accepted (s : State) (k : Nat) (f : EngState → EngState) : (s.updEng k f).accepted = s.accepted := rfl
@[simp] theorem State.updEng_spill (s : State) (k : Nat) (f : EngState → EngState) : (s.updEng k f).spill = s.spill := rfl
@[simp] theorem State.updEng_mem (s : State) (k : Nat) (f : EngState → EngState) : (s.updEng k f).mem = s.mem := rfl
@[simp] theorem State.updEng_poison (s : State) (k : Nat) (f : EngState → EngState) : (s.updEng k f).poison = s.poison := rfl
@[simp] theorem State.updEng_stacks (s : State) (k : Nat) (f : EngState → EngState) : (s.updEng k f).stackTbl = s.stackTbl := rfl
@[simp] theorem State.updEng_cores (s : State) (k : Nat) (f : EngState → EngState) : (s.updEng k f).cores = s.cores := rfl
@[simp] theorem State.updEng_arrays (s : State) (k : Nat) (f : EngState → EngState) : (s.updEng k f).arrays = s.arrays := rfl
@[simp] theorem State.updEng_fabric (s : State) (k : Nat) (f : EngState → EngState) : (s.updEng k f).fabric = s.fabric := rfl
@[simp] theorem State.updEng_usher (s : State) (k : Nat) (f : EngState → EngState) : (s.updEng k f).usher = s.usher := rfl
@[simp] theorem State.updEng_basin (s : State) (k : Nat) (f : EngState → EngState) : (s.updEng k f).basin = s.basin := rfl
@[simp] theorem State.updEng_ctxView (s : State) (k : Nat) (f : EngState → EngState) : (s.updEng k f).ctxView = s.ctxView := rfl
@[simp] theorem State.updEng_calOrder (s : State) (k : Nat) (f : EngState → EngState) : (s.updEng k f).calOrder = s.calOrder := rfl
@[simp] theorem State.updEng_loadIndex (s : State) (k : Nat) (f : EngState → EngState) : (s.updEng k f).loadIndex = s.loadIndex := rfl
@[simp] theorem State.updEng_startupDone (s : State) (k : Nat) (f : EngState → EngState) : (s.updEng k f).startupDone = s.startupDone := rfl
@[simp] theorem State.updEng_thermal (s : State) (k : Nat) (f : EngState → EngState) : (s.updEng k f).thermal = s.thermal := rfl
@[simp] theorem State.updEng_probe (s : State) (k : Nat) (f : EngState → EngState) : (s.updEng k f).probe = s.probe := rfl
@[simp] theorem State.updEng_sec (s : State) (k : Nat) (f : EngState → EngState) : (s.updEng k f).sec = s.sec := rfl
@[simp] theorem State.updEng_recorder (s : State) (k : Nat) (f : EngState → EngState) : (s.updEng k f).recorder = s.recorder := rfl
@[simp] theorem State.updEng_out (s : State) (k : Nat) (f : EngState → EngState) : (s.updEng k f).out = s.out := rfl
@[simp] theorem State.updEng_wire (s : State) (k : Nat) (f : EngState → EngState) : (s.updEng k f).wire = s.wire := rfl
@[simp] theorem State.updEng_fresh (s : State) (k : Nat) (f : EngState → EngState) : (s.updEng k f).fresh = s.fresh := rfl
@[simp] theorem State.updEng_switching (s : State) (k : Nat) (f : EngState → EngState) : (s.updEng k f).switching = s.switching := rfl
@[simp] theorem State.updEng_resetCause (s : State) (k : Nat) (f : EngState → EngState) : (s.updEng k f).resetCause = s.resetCause := rfl

/-! ### updArr -/

@[simp] theorem State.updArr_pending (s : State) (k : Nat) (f : ArrayState → ArrayState) : (s.updArr k f).pending = s.pending := rfl
@[simp] theorem State.updArr_pins (s : State) (k : Nat) (f : ArrayState → ArrayState) : (s.updArr k f).pins = s.pins := rfl
@[simp] theorem State.updArr_nvm (s : State) (k : Nat) (f : ArrayState → ArrayState) : (s.updArr k f).nvm = s.nvm := rfl
@[simp] theorem State.updArr_cfg (s : State) (k : Nat) (f : ArrayState → ArrayState) : (s.updArr k f).cfg = s.cfg := rfl
@[simp] theorem State.updArr_regs (s : State) (k : Nat) (f : ArrayState → ArrayState) : (s.updArr k f).regs = s.regs := rfl
@[simp] theorem State.updArr_wide (s : State) (k : Nat) (f : ArrayState → ArrayState) : (s.updArr k f).wide = s.wide := rfl
@[simp] theorem State.updArr_deferred (s : State) (k : Nat) (f : ArrayState → ArrayState) : (s.updArr k f).deferred = s.deferred := rfl
@[simp] theorem State.updArr_boot (s : State) (k : Nat) (f : ArrayState → ArrayState) : (s.updArr k f).boot = s.boot := rfl
@[simp] theorem State.updArr_clocks (s : State) (k : Nat) (f : ArrayState → ArrayState) : (s.updArr k f).clocks = s.clocks := rfl
@[simp] theorem State.updArr_time (s : State) (k : Nat) (f : ArrayState → ArrayState) : (s.updArr k f).time = s.time := rfl
@[simp] theorem State.updArr_port (s : State) (k : Nat) (f : ArrayState → ArrayState) : (s.updArr k f).port = s.port := rfl
@[simp] theorem State.updArr_sessions (s : State) (k : Nat) (f : ArrayState → ArrayState) : (s.updArr k f).sessions = s.sessions := rfl
@[simp] theorem State.updArr_nonces (s : State) (k : Nat) (f : ArrayState → ArrayState) : (s.updArr k f).nonces = s.nonces := rfl
@[simp] theorem State.updArr_held (s : State) (k : Nat) (f : ArrayState → ArrayState) : (s.updArr k f).held = s.held := rfl
@[simp] theorem State.updArr_groups (s : State) (k : Nat) (f : ArrayState → ArrayState) : (s.updArr k f).groups = s.groups := rfl
@[simp] theorem State.updArr_insts (s : State) (k : Nat) (f : ArrayState → ArrayState) : (s.updArr k f).insts = s.insts := rfl
@[simp] theorem State.updArr_activations (s : State) (k : Nat) (f : ArrayState → ArrayState) : (s.updArr k f).activations = s.activations := rfl
@[simp] theorem State.updArr_contexts (s : State) (k : Nat) (f : ArrayState → ArrayState) : (s.updArr k f).contexts = s.contexts := rfl
@[simp] theorem State.updArr_reqs (s : State) (k : Nat) (f : ArrayState → ArrayState) : (s.updArr k f).reqs = s.reqs := rfl
@[simp] theorem State.updArr_ended (s : State) (k : Nat) (f : ArrayState → ArrayState) : (s.updArr k f).ended = s.ended := rfl
@[simp] theorem State.updArr_accepted (s : State) (k : Nat) (f : ArrayState → ArrayState) : (s.updArr k f).accepted = s.accepted := rfl
@[simp] theorem State.updArr_spill (s : State) (k : Nat) (f : ArrayState → ArrayState) : (s.updArr k f).spill = s.spill := rfl
@[simp] theorem State.updArr_mem (s : State) (k : Nat) (f : ArrayState → ArrayState) : (s.updArr k f).mem = s.mem := rfl
@[simp] theorem State.updArr_poison (s : State) (k : Nat) (f : ArrayState → ArrayState) : (s.updArr k f).poison = s.poison := rfl
@[simp] theorem State.updArr_stacks (s : State) (k : Nat) (f : ArrayState → ArrayState) : (s.updArr k f).stackTbl = s.stackTbl := rfl
@[simp] theorem State.updArr_cores (s : State) (k : Nat) (f : ArrayState → ArrayState) : (s.updArr k f).cores = s.cores := rfl
@[simp] theorem State.updArr_engines (s : State) (k : Nat) (f : ArrayState → ArrayState) : (s.updArr k f).engines = s.engines := rfl
@[simp] theorem State.updArr_fabric (s : State) (k : Nat) (f : ArrayState → ArrayState) : (s.updArr k f).fabric = s.fabric := rfl
@[simp] theorem State.updArr_usher (s : State) (k : Nat) (f : ArrayState → ArrayState) : (s.updArr k f).usher = s.usher := rfl
@[simp] theorem State.updArr_basin (s : State) (k : Nat) (f : ArrayState → ArrayState) : (s.updArr k f).basin = s.basin := rfl
@[simp] theorem State.updArr_ctxView (s : State) (k : Nat) (f : ArrayState → ArrayState) : (s.updArr k f).ctxView = s.ctxView := rfl
@[simp] theorem State.updArr_calOrder (s : State) (k : Nat) (f : ArrayState → ArrayState) : (s.updArr k f).calOrder = s.calOrder := rfl
@[simp] theorem State.updArr_loadIndex (s : State) (k : Nat) (f : ArrayState → ArrayState) : (s.updArr k f).loadIndex = s.loadIndex := rfl
@[simp] theorem State.updArr_startupDone (s : State) (k : Nat) (f : ArrayState → ArrayState) : (s.updArr k f).startupDone = s.startupDone := rfl
@[simp] theorem State.updArr_thermal (s : State) (k : Nat) (f : ArrayState → ArrayState) : (s.updArr k f).thermal = s.thermal := rfl
@[simp] theorem State.updArr_probe (s : State) (k : Nat) (f : ArrayState → ArrayState) : (s.updArr k f).probe = s.probe := rfl
@[simp] theorem State.updArr_sec (s : State) (k : Nat) (f : ArrayState → ArrayState) : (s.updArr k f).sec = s.sec := rfl
@[simp] theorem State.updArr_recorder (s : State) (k : Nat) (f : ArrayState → ArrayState) : (s.updArr k f).recorder = s.recorder := rfl
@[simp] theorem State.updArr_out (s : State) (k : Nat) (f : ArrayState → ArrayState) : (s.updArr k f).out = s.out := rfl
@[simp] theorem State.updArr_wire (s : State) (k : Nat) (f : ArrayState → ArrayState) : (s.updArr k f).wire = s.wire := rfl
@[simp] theorem State.updArr_fresh (s : State) (k : Nat) (f : ArrayState → ArrayState) : (s.updArr k f).fresh = s.fresh := rfl
@[simp] theorem State.updArr_switching (s : State) (k : Nat) (f : ArrayState → ArrayState) : (s.updArr k f).switching = s.switching := rfl
@[simp] theorem State.updArr_resetCause (s : State) (k : Nat) (f : ArrayState → ArrayState) : (s.updArr k f).resetCause = s.resetCause := rfl

/-! ### updGrp -/

@[simp] theorem State.updGrp_pending (s : State) (g : Nat) (f : Group → Group) : (s.updGrp g f).pending = s.pending := rfl
@[simp] theorem State.updGrp_pins (s : State) (g : Nat) (f : Group → Group) : (s.updGrp g f).pins = s.pins := rfl
@[simp] theorem State.updGrp_nvm (s : State) (g : Nat) (f : Group → Group) : (s.updGrp g f).nvm = s.nvm := rfl
@[simp] theorem State.updGrp_cfg (s : State) (g : Nat) (f : Group → Group) : (s.updGrp g f).cfg = s.cfg := rfl
@[simp] theorem State.updGrp_regs (s : State) (g : Nat) (f : Group → Group) : (s.updGrp g f).regs = s.regs := rfl
@[simp] theorem State.updGrp_wide (s : State) (g : Nat) (f : Group → Group) : (s.updGrp g f).wide = s.wide := rfl
@[simp] theorem State.updGrp_deferred (s : State) (g : Nat) (f : Group → Group) : (s.updGrp g f).deferred = s.deferred := rfl
@[simp] theorem State.updGrp_boot (s : State) (g : Nat) (f : Group → Group) : (s.updGrp g f).boot = s.boot := rfl
@[simp] theorem State.updGrp_clocks (s : State) (g : Nat) (f : Group → Group) : (s.updGrp g f).clocks = s.clocks := rfl
@[simp] theorem State.updGrp_time (s : State) (g : Nat) (f : Group → Group) : (s.updGrp g f).time = s.time := rfl
@[simp] theorem State.updGrp_port (s : State) (g : Nat) (f : Group → Group) : (s.updGrp g f).port = s.port := rfl
@[simp] theorem State.updGrp_sessions (s : State) (g : Nat) (f : Group → Group) : (s.updGrp g f).sessions = s.sessions := rfl
@[simp] theorem State.updGrp_nonces (s : State) (g : Nat) (f : Group → Group) : (s.updGrp g f).nonces = s.nonces := rfl
@[simp] theorem State.updGrp_held (s : State) (g : Nat) (f : Group → Group) : (s.updGrp g f).held = s.held := rfl
@[simp] theorem State.updGrp_insts (s : State) (g : Nat) (f : Group → Group) : (s.updGrp g f).insts = s.insts := rfl
@[simp] theorem State.updGrp_activations (s : State) (g : Nat) (f : Group → Group) : (s.updGrp g f).activations = s.activations := rfl
@[simp] theorem State.updGrp_contexts (s : State) (g : Nat) (f : Group → Group) : (s.updGrp g f).contexts = s.contexts := rfl
@[simp] theorem State.updGrp_reqs (s : State) (g : Nat) (f : Group → Group) : (s.updGrp g f).reqs = s.reqs := rfl
@[simp] theorem State.updGrp_ended (s : State) (g : Nat) (f : Group → Group) : (s.updGrp g f).ended = s.ended := rfl
@[simp] theorem State.updGrp_accepted (s : State) (g : Nat) (f : Group → Group) : (s.updGrp g f).accepted = s.accepted := rfl
@[simp] theorem State.updGrp_spill (s : State) (g : Nat) (f : Group → Group) : (s.updGrp g f).spill = s.spill := rfl
@[simp] theorem State.updGrp_mem (s : State) (g : Nat) (f : Group → Group) : (s.updGrp g f).mem = s.mem := rfl
@[simp] theorem State.updGrp_poison (s : State) (g : Nat) (f : Group → Group) : (s.updGrp g f).poison = s.poison := rfl
@[simp] theorem State.updGrp_stacks (s : State) (g : Nat) (f : Group → Group) : (s.updGrp g f).stackTbl = s.stackTbl := rfl
@[simp] theorem State.updGrp_cores (s : State) (g : Nat) (f : Group → Group) : (s.updGrp g f).cores = s.cores := rfl
@[simp] theorem State.updGrp_engines (s : State) (g : Nat) (f : Group → Group) : (s.updGrp g f).engines = s.engines := rfl
@[simp] theorem State.updGrp_arrays (s : State) (g : Nat) (f : Group → Group) : (s.updGrp g f).arrays = s.arrays := rfl
@[simp] theorem State.updGrp_fabric (s : State) (g : Nat) (f : Group → Group) : (s.updGrp g f).fabric = s.fabric := rfl
@[simp] theorem State.updGrp_usher (s : State) (g : Nat) (f : Group → Group) : (s.updGrp g f).usher = s.usher := rfl
@[simp] theorem State.updGrp_basin (s : State) (g : Nat) (f : Group → Group) : (s.updGrp g f).basin = s.basin := rfl
@[simp] theorem State.updGrp_ctxView (s : State) (g : Nat) (f : Group → Group) : (s.updGrp g f).ctxView = s.ctxView := rfl
@[simp] theorem State.updGrp_calOrder (s : State) (g : Nat) (f : Group → Group) : (s.updGrp g f).calOrder = s.calOrder := rfl
@[simp] theorem State.updGrp_loadIndex (s : State) (g : Nat) (f : Group → Group) : (s.updGrp g f).loadIndex = s.loadIndex := rfl
@[simp] theorem State.updGrp_startupDone (s : State) (g : Nat) (f : Group → Group) : (s.updGrp g f).startupDone = s.startupDone := rfl
@[simp] theorem State.updGrp_thermal (s : State) (g : Nat) (f : Group → Group) : (s.updGrp g f).thermal = s.thermal := rfl
@[simp] theorem State.updGrp_probe (s : State) (g : Nat) (f : Group → Group) : (s.updGrp g f).probe = s.probe := rfl
@[simp] theorem State.updGrp_sec (s : State) (g : Nat) (f : Group → Group) : (s.updGrp g f).sec = s.sec := rfl
@[simp] theorem State.updGrp_recorder (s : State) (g : Nat) (f : Group → Group) : (s.updGrp g f).recorder = s.recorder := rfl
@[simp] theorem State.updGrp_out (s : State) (g : Nat) (f : Group → Group) : (s.updGrp g f).out = s.out := rfl
@[simp] theorem State.updGrp_wire (s : State) (g : Nat) (f : Group → Group) : (s.updGrp g f).wire = s.wire := rfl
@[simp] theorem State.updGrp_fresh (s : State) (g : Nat) (f : Group → Group) : (s.updGrp g f).fresh = s.fresh := rfl
@[simp] theorem State.updGrp_switching (s : State) (g : Nat) (f : Group → Group) : (s.updGrp g f).switching = s.switching := rfl
@[simp] theorem State.updGrp_resetCause (s : State) (g : Nat) (f : Group → Group) : (s.updGrp g f).resetCause = s.resetCause := rfl

/-! ### updInst -/

@[simp] theorem State.updInst_pending (s : State) (g : Nat) (f : Inst → Inst) : (s.updInst g f).pending = s.pending := rfl
@[simp] theorem State.updInst_pins (s : State) (g : Nat) (f : Inst → Inst) : (s.updInst g f).pins = s.pins := rfl
@[simp] theorem State.updInst_nvm (s : State) (g : Nat) (f : Inst → Inst) : (s.updInst g f).nvm = s.nvm := rfl
@[simp] theorem State.updInst_cfg (s : State) (g : Nat) (f : Inst → Inst) : (s.updInst g f).cfg = s.cfg := rfl
@[simp] theorem State.updInst_regs (s : State) (g : Nat) (f : Inst → Inst) : (s.updInst g f).regs = s.regs := rfl
@[simp] theorem State.updInst_wide (s : State) (g : Nat) (f : Inst → Inst) : (s.updInst g f).wide = s.wide := rfl
@[simp] theorem State.updInst_deferred (s : State) (g : Nat) (f : Inst → Inst) : (s.updInst g f).deferred = s.deferred := rfl
@[simp] theorem State.updInst_boot (s : State) (g : Nat) (f : Inst → Inst) : (s.updInst g f).boot = s.boot := rfl
@[simp] theorem State.updInst_clocks (s : State) (g : Nat) (f : Inst → Inst) : (s.updInst g f).clocks = s.clocks := rfl
@[simp] theorem State.updInst_time (s : State) (g : Nat) (f : Inst → Inst) : (s.updInst g f).time = s.time := rfl
@[simp] theorem State.updInst_port (s : State) (g : Nat) (f : Inst → Inst) : (s.updInst g f).port = s.port := rfl
@[simp] theorem State.updInst_sessions (s : State) (g : Nat) (f : Inst → Inst) : (s.updInst g f).sessions = s.sessions := rfl
@[simp] theorem State.updInst_nonces (s : State) (g : Nat) (f : Inst → Inst) : (s.updInst g f).nonces = s.nonces := rfl
@[simp] theorem State.updInst_held (s : State) (g : Nat) (f : Inst → Inst) : (s.updInst g f).held = s.held := rfl
@[simp] theorem State.updInst_groups (s : State) (g : Nat) (f : Inst → Inst) : (s.updInst g f).groups = s.groups := rfl
@[simp] theorem State.updInst_activations (s : State) (g : Nat) (f : Inst → Inst) : (s.updInst g f).activations = s.activations := rfl
@[simp] theorem State.updInst_contexts (s : State) (g : Nat) (f : Inst → Inst) : (s.updInst g f).contexts = s.contexts := rfl
@[simp] theorem State.updInst_reqs (s : State) (g : Nat) (f : Inst → Inst) : (s.updInst g f).reqs = s.reqs := rfl
@[simp] theorem State.updInst_ended (s : State) (g : Nat) (f : Inst → Inst) : (s.updInst g f).ended = s.ended := rfl
@[simp] theorem State.updInst_accepted (s : State) (g : Nat) (f : Inst → Inst) : (s.updInst g f).accepted = s.accepted := rfl
@[simp] theorem State.updInst_spill (s : State) (g : Nat) (f : Inst → Inst) : (s.updInst g f).spill = s.spill := rfl
@[simp] theorem State.updInst_mem (s : State) (g : Nat) (f : Inst → Inst) : (s.updInst g f).mem = s.mem := rfl
@[simp] theorem State.updInst_poison (s : State) (g : Nat) (f : Inst → Inst) : (s.updInst g f).poison = s.poison := rfl
@[simp] theorem State.updInst_stacks (s : State) (g : Nat) (f : Inst → Inst) : (s.updInst g f).stackTbl = s.stackTbl := rfl
@[simp] theorem State.updInst_cores (s : State) (g : Nat) (f : Inst → Inst) : (s.updInst g f).cores = s.cores := rfl
@[simp] theorem State.updInst_engines (s : State) (g : Nat) (f : Inst → Inst) : (s.updInst g f).engines = s.engines := rfl
@[simp] theorem State.updInst_arrays (s : State) (g : Nat) (f : Inst → Inst) : (s.updInst g f).arrays = s.arrays := rfl
@[simp] theorem State.updInst_fabric (s : State) (g : Nat) (f : Inst → Inst) : (s.updInst g f).fabric = s.fabric := rfl
@[simp] theorem State.updInst_usher (s : State) (g : Nat) (f : Inst → Inst) : (s.updInst g f).usher = s.usher := rfl
@[simp] theorem State.updInst_basin (s : State) (g : Nat) (f : Inst → Inst) : (s.updInst g f).basin = s.basin := rfl
@[simp] theorem State.updInst_ctxView (s : State) (g : Nat) (f : Inst → Inst) : (s.updInst g f).ctxView = s.ctxView := rfl
@[simp] theorem State.updInst_calOrder (s : State) (g : Nat) (f : Inst → Inst) : (s.updInst g f).calOrder = s.calOrder := rfl
@[simp] theorem State.updInst_loadIndex (s : State) (g : Nat) (f : Inst → Inst) : (s.updInst g f).loadIndex = s.loadIndex := rfl
@[simp] theorem State.updInst_startupDone (s : State) (g : Nat) (f : Inst → Inst) : (s.updInst g f).startupDone = s.startupDone := rfl
@[simp] theorem State.updInst_thermal (s : State) (g : Nat) (f : Inst → Inst) : (s.updInst g f).thermal = s.thermal := rfl
@[simp] theorem State.updInst_probe (s : State) (g : Nat) (f : Inst → Inst) : (s.updInst g f).probe = s.probe := rfl
@[simp] theorem State.updInst_sec (s : State) (g : Nat) (f : Inst → Inst) : (s.updInst g f).sec = s.sec := rfl
@[simp] theorem State.updInst_recorder (s : State) (g : Nat) (f : Inst → Inst) : (s.updInst g f).recorder = s.recorder := rfl
@[simp] theorem State.updInst_out (s : State) (g : Nat) (f : Inst → Inst) : (s.updInst g f).out = s.out := rfl
@[simp] theorem State.updInst_wire (s : State) (g : Nat) (f : Inst → Inst) : (s.updInst g f).wire = s.wire := rfl
@[simp] theorem State.updInst_fresh (s : State) (g : Nat) (f : Inst → Inst) : (s.updInst g f).fresh = s.fresh := rfl
@[simp] theorem State.updInst_switching (s : State) (g : Nat) (f : Inst → Inst) : (s.updInst g f).switching = s.switching := rfl
@[simp] theorem State.updInst_resetCause (s : State) (g : Nat) (f : Inst → Inst) : (s.updInst g f).resetCause = s.resetCause := rfl

/-! ### updStack -/

@[simp] theorem State.updStack_pending (s : State) (k : Nat) (f : StackState → StackState) : (s.updStack k f).pending = s.pending := rfl
@[simp] theorem State.updStack_pins (s : State) (k : Nat) (f : StackState → StackState) : (s.updStack k f).pins = s.pins := rfl
@[simp] theorem State.updStack_nvm (s : State) (k : Nat) (f : StackState → StackState) : (s.updStack k f).nvm = s.nvm := rfl
@[simp] theorem State.updStack_cfg (s : State) (k : Nat) (f : StackState → StackState) : (s.updStack k f).cfg = s.cfg := rfl
@[simp] theorem State.updStack_regs (s : State) (k : Nat) (f : StackState → StackState) : (s.updStack k f).regs = s.regs := rfl
@[simp] theorem State.updStack_wide (s : State) (k : Nat) (f : StackState → StackState) : (s.updStack k f).wide = s.wide := rfl
@[simp] theorem State.updStack_deferred (s : State) (k : Nat) (f : StackState → StackState) : (s.updStack k f).deferred = s.deferred := rfl
@[simp] theorem State.updStack_boot (s : State) (k : Nat) (f : StackState → StackState) : (s.updStack k f).boot = s.boot := rfl
@[simp] theorem State.updStack_clocks (s : State) (k : Nat) (f : StackState → StackState) : (s.updStack k f).clocks = s.clocks := rfl
@[simp] theorem State.updStack_time (s : State) (k : Nat) (f : StackState → StackState) : (s.updStack k f).time = s.time := rfl
@[simp] theorem State.updStack_port (s : State) (k : Nat) (f : StackState → StackState) : (s.updStack k f).port = s.port := rfl
@[simp] theorem State.updStack_sessions (s : State) (k : Nat) (f : StackState → StackState) : (s.updStack k f).sessions = s.sessions := rfl
@[simp] theorem State.updStack_nonces (s : State) (k : Nat) (f : StackState → StackState) : (s.updStack k f).nonces = s.nonces := rfl
@[simp] theorem State.updStack_held (s : State) (k : Nat) (f : StackState → StackState) : (s.updStack k f).held = s.held := rfl
@[simp] theorem State.updStack_groups (s : State) (k : Nat) (f : StackState → StackState) : (s.updStack k f).groups = s.groups := rfl
@[simp] theorem State.updStack_insts (s : State) (k : Nat) (f : StackState → StackState) : (s.updStack k f).insts = s.insts := rfl
@[simp] theorem State.updStack_activations (s : State) (k : Nat) (f : StackState → StackState) : (s.updStack k f).activations = s.activations := rfl
@[simp] theorem State.updStack_contexts (s : State) (k : Nat) (f : StackState → StackState) : (s.updStack k f).contexts = s.contexts := rfl
@[simp] theorem State.updStack_reqs (s : State) (k : Nat) (f : StackState → StackState) : (s.updStack k f).reqs = s.reqs := rfl
@[simp] theorem State.updStack_ended (s : State) (k : Nat) (f : StackState → StackState) : (s.updStack k f).ended = s.ended := rfl
@[simp] theorem State.updStack_accepted (s : State) (k : Nat) (f : StackState → StackState) : (s.updStack k f).accepted = s.accepted := rfl
@[simp] theorem State.updStack_spill (s : State) (k : Nat) (f : StackState → StackState) : (s.updStack k f).spill = s.spill := rfl
@[simp] theorem State.updStack_mem (s : State) (k : Nat) (f : StackState → StackState) : (s.updStack k f).mem = s.mem := rfl
@[simp] theorem State.updStack_poison (s : State) (k : Nat) (f : StackState → StackState) : (s.updStack k f).poison = s.poison := rfl
@[simp] theorem State.updStack_cores (s : State) (k : Nat) (f : StackState → StackState) : (s.updStack k f).cores = s.cores := rfl
@[simp] theorem State.updStack_engines (s : State) (k : Nat) (f : StackState → StackState) : (s.updStack k f).engines = s.engines := rfl
@[simp] theorem State.updStack_arrays (s : State) (k : Nat) (f : StackState → StackState) : (s.updStack k f).arrays = s.arrays := rfl
@[simp] theorem State.updStack_fabric (s : State) (k : Nat) (f : StackState → StackState) : (s.updStack k f).fabric = s.fabric := rfl
@[simp] theorem State.updStack_usher (s : State) (k : Nat) (f : StackState → StackState) : (s.updStack k f).usher = s.usher := rfl
@[simp] theorem State.updStack_basin (s : State) (k : Nat) (f : StackState → StackState) : (s.updStack k f).basin = s.basin := rfl
@[simp] theorem State.updStack_ctxView (s : State) (k : Nat) (f : StackState → StackState) : (s.updStack k f).ctxView = s.ctxView := rfl
@[simp] theorem State.updStack_calOrder (s : State) (k : Nat) (f : StackState → StackState) : (s.updStack k f).calOrder = s.calOrder := rfl
@[simp] theorem State.updStack_loadIndex (s : State) (k : Nat) (f : StackState → StackState) : (s.updStack k f).loadIndex = s.loadIndex := rfl
@[simp] theorem State.updStack_startupDone (s : State) (k : Nat) (f : StackState → StackState) : (s.updStack k f).startupDone = s.startupDone := rfl
@[simp] theorem State.updStack_thermal (s : State) (k : Nat) (f : StackState → StackState) : (s.updStack k f).thermal = s.thermal := rfl
@[simp] theorem State.updStack_probe (s : State) (k : Nat) (f : StackState → StackState) : (s.updStack k f).probe = s.probe := rfl
@[simp] theorem State.updStack_sec (s : State) (k : Nat) (f : StackState → StackState) : (s.updStack k f).sec = s.sec := rfl
@[simp] theorem State.updStack_recorder (s : State) (k : Nat) (f : StackState → StackState) : (s.updStack k f).recorder = s.recorder := rfl
@[simp] theorem State.updStack_out (s : State) (k : Nat) (f : StackState → StackState) : (s.updStack k f).out = s.out := rfl
@[simp] theorem State.updStack_wire (s : State) (k : Nat) (f : StackState → StackState) : (s.updStack k f).wire = s.wire := rfl
@[simp] theorem State.updStack_fresh (s : State) (k : Nat) (f : StackState → StackState) : (s.updStack k f).fresh = s.fresh := rfl
@[simp] theorem State.updStack_switching (s : State) (k : Nat) (f : StackState → StackState) : (s.updStack k f).switching = s.switching := rfl
@[simp] theorem State.updStack_resetCause (s : State) (k : Nat) (f : StackState → StackState) : (s.updStack k f).resetCause = s.resetCause := rfl

/-! ### updTherm -/

@[simp] theorem State.updTherm_pending (s : State) (d : Nat) (f : DieTherm → DieTherm) : (s.updTherm d f).pending = s.pending := rfl
@[simp] theorem State.updTherm_pins (s : State) (d : Nat) (f : DieTherm → DieTherm) : (s.updTherm d f).pins = s.pins := rfl
@[simp] theorem State.updTherm_nvm (s : State) (d : Nat) (f : DieTherm → DieTherm) : (s.updTherm d f).nvm = s.nvm := rfl
@[simp] theorem State.updTherm_cfg (s : State) (d : Nat) (f : DieTherm → DieTherm) : (s.updTherm d f).cfg = s.cfg := rfl
@[simp] theorem State.updTherm_regs (s : State) (d : Nat) (f : DieTherm → DieTherm) : (s.updTherm d f).regs = s.regs := rfl
@[simp] theorem State.updTherm_wide (s : State) (d : Nat) (f : DieTherm → DieTherm) : (s.updTherm d f).wide = s.wide := rfl
@[simp] theorem State.updTherm_deferred (s : State) (d : Nat) (f : DieTherm → DieTherm) : (s.updTherm d f).deferred = s.deferred := rfl
@[simp] theorem State.updTherm_boot (s : State) (d : Nat) (f : DieTherm → DieTherm) : (s.updTherm d f).boot = s.boot := rfl
@[simp] theorem State.updTherm_clocks (s : State) (d : Nat) (f : DieTherm → DieTherm) : (s.updTherm d f).clocks = s.clocks := rfl
@[simp] theorem State.updTherm_time (s : State) (d : Nat) (f : DieTherm → DieTherm) : (s.updTherm d f).time = s.time := rfl
@[simp] theorem State.updTherm_port (s : State) (d : Nat) (f : DieTherm → DieTherm) : (s.updTherm d f).port = s.port := rfl
@[simp] theorem State.updTherm_sessions (s : State) (d : Nat) (f : DieTherm → DieTherm) : (s.updTherm d f).sessions = s.sessions := rfl
@[simp] theorem State.updTherm_nonces (s : State) (d : Nat) (f : DieTherm → DieTherm) : (s.updTherm d f).nonces = s.nonces := rfl
@[simp] theorem State.updTherm_held (s : State) (d : Nat) (f : DieTherm → DieTherm) : (s.updTherm d f).held = s.held := rfl
@[simp] theorem State.updTherm_groups (s : State) (d : Nat) (f : DieTherm → DieTherm) : (s.updTherm d f).groups = s.groups := rfl
@[simp] theorem State.updTherm_insts (s : State) (d : Nat) (f : DieTherm → DieTherm) : (s.updTherm d f).insts = s.insts := rfl
@[simp] theorem State.updTherm_activations (s : State) (d : Nat) (f : DieTherm → DieTherm) : (s.updTherm d f).activations = s.activations := rfl
@[simp] theorem State.updTherm_contexts (s : State) (d : Nat) (f : DieTherm → DieTherm) : (s.updTherm d f).contexts = s.contexts := rfl
@[simp] theorem State.updTherm_reqs (s : State) (d : Nat) (f : DieTherm → DieTherm) : (s.updTherm d f).reqs = s.reqs := rfl
@[simp] theorem State.updTherm_ended (s : State) (d : Nat) (f : DieTherm → DieTherm) : (s.updTherm d f).ended = s.ended := rfl
@[simp] theorem State.updTherm_accepted (s : State) (d : Nat) (f : DieTherm → DieTherm) : (s.updTherm d f).accepted = s.accepted := rfl
@[simp] theorem State.updTherm_spill (s : State) (d : Nat) (f : DieTherm → DieTherm) : (s.updTherm d f).spill = s.spill := rfl
@[simp] theorem State.updTherm_mem (s : State) (d : Nat) (f : DieTherm → DieTherm) : (s.updTherm d f).mem = s.mem := rfl
@[simp] theorem State.updTherm_poison (s : State) (d : Nat) (f : DieTherm → DieTherm) : (s.updTherm d f).poison = s.poison := rfl
@[simp] theorem State.updTherm_stacks (s : State) (d : Nat) (f : DieTherm → DieTherm) : (s.updTherm d f).stackTbl = s.stackTbl := rfl
@[simp] theorem State.updTherm_cores (s : State) (d : Nat) (f : DieTherm → DieTherm) : (s.updTherm d f).cores = s.cores := rfl
@[simp] theorem State.updTherm_engines (s : State) (d : Nat) (f : DieTherm → DieTherm) : (s.updTherm d f).engines = s.engines := rfl
@[simp] theorem State.updTherm_arrays (s : State) (d : Nat) (f : DieTherm → DieTherm) : (s.updTherm d f).arrays = s.arrays := rfl
@[simp] theorem State.updTherm_fabric (s : State) (d : Nat) (f : DieTherm → DieTherm) : (s.updTherm d f).fabric = s.fabric := rfl
@[simp] theorem State.updTherm_usher (s : State) (d : Nat) (f : DieTherm → DieTherm) : (s.updTherm d f).usher = s.usher := rfl
@[simp] theorem State.updTherm_basin (s : State) (d : Nat) (f : DieTherm → DieTherm) : (s.updTherm d f).basin = s.basin := rfl
@[simp] theorem State.updTherm_ctxView (s : State) (d : Nat) (f : DieTherm → DieTherm) : (s.updTherm d f).ctxView = s.ctxView := rfl
@[simp] theorem State.updTherm_calOrder (s : State) (d : Nat) (f : DieTherm → DieTherm) : (s.updTherm d f).calOrder = s.calOrder := rfl
@[simp] theorem State.updTherm_loadIndex (s : State) (d : Nat) (f : DieTherm → DieTherm) : (s.updTherm d f).loadIndex = s.loadIndex := rfl
@[simp] theorem State.updTherm_startupDone (s : State) (d : Nat) (f : DieTherm → DieTherm) : (s.updTherm d f).startupDone = s.startupDone := rfl
@[simp] theorem State.updTherm_probe (s : State) (d : Nat) (f : DieTherm → DieTherm) : (s.updTherm d f).probe = s.probe := rfl
@[simp] theorem State.updTherm_sec (s : State) (d : Nat) (f : DieTherm → DieTherm) : (s.updTherm d f).sec = s.sec := rfl
@[simp] theorem State.updTherm_recorder (s : State) (d : Nat) (f : DieTherm → DieTherm) : (s.updTherm d f).recorder = s.recorder := rfl
@[simp] theorem State.updTherm_out (s : State) (d : Nat) (f : DieTherm → DieTherm) : (s.updTherm d f).out = s.out := rfl
@[simp] theorem State.updTherm_wire (s : State) (d : Nat) (f : DieTherm → DieTherm) : (s.updTherm d f).wire = s.wire := rfl
@[simp] theorem State.updTherm_fresh (s : State) (d : Nat) (f : DieTherm → DieTherm) : (s.updTherm d f).fresh = s.fresh := rfl
@[simp] theorem State.updTherm_switching (s : State) (d : Nat) (f : DieTherm → DieTherm) : (s.updTherm d f).switching = s.switching := rfl
@[simp] theorem State.updTherm_resetCause (s : State) (d : Nat) (f : DieTherm → DieTherm) : (s.updTherm d f).resetCause = s.resetCause := rfl

/-! ### updDom -/

@[simp] theorem State.updDom_pending (s : State) (k : Nat) (f : Dom → Dom) : (s.updDom k f).pending = s.pending := rfl
@[simp] theorem State.updDom_pins (s : State) (k : Nat) (f : Dom → Dom) : (s.updDom k f).pins = s.pins := rfl
@[simp] theorem State.updDom_nvm (s : State) (k : Nat) (f : Dom → Dom) : (s.updDom k f).nvm = s.nvm := rfl
@[simp] theorem State.updDom_cfg (s : State) (k : Nat) (f : Dom → Dom) : (s.updDom k f).cfg = s.cfg := rfl
@[simp] theorem State.updDom_regs (s : State) (k : Nat) (f : Dom → Dom) : (s.updDom k f).regs = s.regs := rfl
@[simp] theorem State.updDom_wide (s : State) (k : Nat) (f : Dom → Dom) : (s.updDom k f).wide = s.wide := rfl
@[simp] theorem State.updDom_deferred (s : State) (k : Nat) (f : Dom → Dom) : (s.updDom k f).deferred = s.deferred := rfl
@[simp] theorem State.updDom_boot (s : State) (k : Nat) (f : Dom → Dom) : (s.updDom k f).boot = s.boot := rfl
@[simp] theorem State.updDom_time (s : State) (k : Nat) (f : Dom → Dom) : (s.updDom k f).time = s.time := rfl
@[simp] theorem State.updDom_port (s : State) (k : Nat) (f : Dom → Dom) : (s.updDom k f).port = s.port := rfl
@[simp] theorem State.updDom_sessions (s : State) (k : Nat) (f : Dom → Dom) : (s.updDom k f).sessions = s.sessions := rfl
@[simp] theorem State.updDom_nonces (s : State) (k : Nat) (f : Dom → Dom) : (s.updDom k f).nonces = s.nonces := rfl
@[simp] theorem State.updDom_held (s : State) (k : Nat) (f : Dom → Dom) : (s.updDom k f).held = s.held := rfl
@[simp] theorem State.updDom_groups (s : State) (k : Nat) (f : Dom → Dom) : (s.updDom k f).groups = s.groups := rfl
@[simp] theorem State.updDom_insts (s : State) (k : Nat) (f : Dom → Dom) : (s.updDom k f).insts = s.insts := rfl
@[simp] theorem State.updDom_activations (s : State) (k : Nat) (f : Dom → Dom) : (s.updDom k f).activations = s.activations := rfl
@[simp] theorem State.updDom_contexts (s : State) (k : Nat) (f : Dom → Dom) : (s.updDom k f).contexts = s.contexts := rfl
@[simp] theorem State.updDom_reqs (s : State) (k : Nat) (f : Dom → Dom) : (s.updDom k f).reqs = s.reqs := rfl
@[simp] theorem State.updDom_ended (s : State) (k : Nat) (f : Dom → Dom) : (s.updDom k f).ended = s.ended := rfl
@[simp] theorem State.updDom_accepted (s : State) (k : Nat) (f : Dom → Dom) : (s.updDom k f).accepted = s.accepted := rfl
@[simp] theorem State.updDom_spill (s : State) (k : Nat) (f : Dom → Dom) : (s.updDom k f).spill = s.spill := rfl
@[simp] theorem State.updDom_mem (s : State) (k : Nat) (f : Dom → Dom) : (s.updDom k f).mem = s.mem := rfl
@[simp] theorem State.updDom_poison (s : State) (k : Nat) (f : Dom → Dom) : (s.updDom k f).poison = s.poison := rfl
@[simp] theorem State.updDom_stacks (s : State) (k : Nat) (f : Dom → Dom) : (s.updDom k f).stackTbl = s.stackTbl := rfl
@[simp] theorem State.updDom_cores (s : State) (k : Nat) (f : Dom → Dom) : (s.updDom k f).cores = s.cores := rfl
@[simp] theorem State.updDom_engines (s : State) (k : Nat) (f : Dom → Dom) : (s.updDom k f).engines = s.engines := rfl
@[simp] theorem State.updDom_arrays (s : State) (k : Nat) (f : Dom → Dom) : (s.updDom k f).arrays = s.arrays := rfl
@[simp] theorem State.updDom_fabric (s : State) (k : Nat) (f : Dom → Dom) : (s.updDom k f).fabric = s.fabric := rfl
@[simp] theorem State.updDom_usher (s : State) (k : Nat) (f : Dom → Dom) : (s.updDom k f).usher = s.usher := rfl
@[simp] theorem State.updDom_basin (s : State) (k : Nat) (f : Dom → Dom) : (s.updDom k f).basin = s.basin := rfl
@[simp] theorem State.updDom_ctxView (s : State) (k : Nat) (f : Dom → Dom) : (s.updDom k f).ctxView = s.ctxView := rfl
@[simp] theorem State.updDom_calOrder (s : State) (k : Nat) (f : Dom → Dom) : (s.updDom k f).calOrder = s.calOrder := rfl
@[simp] theorem State.updDom_loadIndex (s : State) (k : Nat) (f : Dom → Dom) : (s.updDom k f).loadIndex = s.loadIndex := rfl
@[simp] theorem State.updDom_startupDone (s : State) (k : Nat) (f : Dom → Dom) : (s.updDom k f).startupDone = s.startupDone := rfl
@[simp] theorem State.updDom_thermal (s : State) (k : Nat) (f : Dom → Dom) : (s.updDom k f).thermal = s.thermal := rfl
@[simp] theorem State.updDom_probe (s : State) (k : Nat) (f : Dom → Dom) : (s.updDom k f).probe = s.probe := rfl
@[simp] theorem State.updDom_sec (s : State) (k : Nat) (f : Dom → Dom) : (s.updDom k f).sec = s.sec := rfl
@[simp] theorem State.updDom_recorder (s : State) (k : Nat) (f : Dom → Dom) : (s.updDom k f).recorder = s.recorder := rfl
@[simp] theorem State.updDom_out (s : State) (k : Nat) (f : Dom → Dom) : (s.updDom k f).out = s.out := rfl
@[simp] theorem State.updDom_wire (s : State) (k : Nat) (f : Dom → Dom) : (s.updDom k f).wire = s.wire := rfl
@[simp] theorem State.updDom_fresh (s : State) (k : Nat) (f : Dom → Dom) : (s.updDom k f).fresh = s.fresh := rfl
@[simp] theorem State.updDom_switching (s : State) (k : Nat) (f : Dom → Dom) : (s.updDom k f).switching = s.switching := rfl
@[simp] theorem State.updDom_resetCause (s : State) (k : Nat) (f : Dom → Dom) : (s.updDom k f).resetCause = s.resetCause := rfl

/-! ### updMon -/

@[simp] theorem State.updMon_pending (s : State) (d : Nat) (f : DieMon → DieMon) : (s.updMon d f).pending = s.pending := rfl
@[simp] theorem State.updMon_pins (s : State) (d : Nat) (f : DieMon → DieMon) : (s.updMon d f).pins = s.pins := rfl
@[simp] theorem State.updMon_nvm (s : State) (d : Nat) (f : DieMon → DieMon) : (s.updMon d f).nvm = s.nvm := rfl
@[simp] theorem State.updMon_cfg (s : State) (d : Nat) (f : DieMon → DieMon) : (s.updMon d f).cfg = s.cfg := rfl
@[simp] theorem State.updMon_regs (s : State) (d : Nat) (f : DieMon → DieMon) : (s.updMon d f).regs = s.regs := rfl
@[simp] theorem State.updMon_wide (s : State) (d : Nat) (f : DieMon → DieMon) : (s.updMon d f).wide = s.wide := rfl
@[simp] theorem State.updMon_deferred (s : State) (d : Nat) (f : DieMon → DieMon) : (s.updMon d f).deferred = s.deferred := rfl
@[simp] theorem State.updMon_boot (s : State) (d : Nat) (f : DieMon → DieMon) : (s.updMon d f).boot = s.boot := rfl
@[simp] theorem State.updMon_time (s : State) (d : Nat) (f : DieMon → DieMon) : (s.updMon d f).time = s.time := rfl
@[simp] theorem State.updMon_port (s : State) (d : Nat) (f : DieMon → DieMon) : (s.updMon d f).port = s.port := rfl
@[simp] theorem State.updMon_sessions (s : State) (d : Nat) (f : DieMon → DieMon) : (s.updMon d f).sessions = s.sessions := rfl
@[simp] theorem State.updMon_nonces (s : State) (d : Nat) (f : DieMon → DieMon) : (s.updMon d f).nonces = s.nonces := rfl
@[simp] theorem State.updMon_held (s : State) (d : Nat) (f : DieMon → DieMon) : (s.updMon d f).held = s.held := rfl
@[simp] theorem State.updMon_groups (s : State) (d : Nat) (f : DieMon → DieMon) : (s.updMon d f).groups = s.groups := rfl
@[simp] theorem State.updMon_insts (s : State) (d : Nat) (f : DieMon → DieMon) : (s.updMon d f).insts = s.insts := rfl
@[simp] theorem State.updMon_activations (s : State) (d : Nat) (f : DieMon → DieMon) : (s.updMon d f).activations = s.activations := rfl
@[simp] theorem State.updMon_contexts (s : State) (d : Nat) (f : DieMon → DieMon) : (s.updMon d f).contexts = s.contexts := rfl
@[simp] theorem State.updMon_reqs (s : State) (d : Nat) (f : DieMon → DieMon) : (s.updMon d f).reqs = s.reqs := rfl
@[simp] theorem State.updMon_ended (s : State) (d : Nat) (f : DieMon → DieMon) : (s.updMon d f).ended = s.ended := rfl
@[simp] theorem State.updMon_accepted (s : State) (d : Nat) (f : DieMon → DieMon) : (s.updMon d f).accepted = s.accepted := rfl
@[simp] theorem State.updMon_spill (s : State) (d : Nat) (f : DieMon → DieMon) : (s.updMon d f).spill = s.spill := rfl
@[simp] theorem State.updMon_mem (s : State) (d : Nat) (f : DieMon → DieMon) : (s.updMon d f).mem = s.mem := rfl
@[simp] theorem State.updMon_poison (s : State) (d : Nat) (f : DieMon → DieMon) : (s.updMon d f).poison = s.poison := rfl
@[simp] theorem State.updMon_stacks (s : State) (d : Nat) (f : DieMon → DieMon) : (s.updMon d f).stackTbl = s.stackTbl := rfl
@[simp] theorem State.updMon_cores (s : State) (d : Nat) (f : DieMon → DieMon) : (s.updMon d f).cores = s.cores := rfl
@[simp] theorem State.updMon_engines (s : State) (d : Nat) (f : DieMon → DieMon) : (s.updMon d f).engines = s.engines := rfl
@[simp] theorem State.updMon_arrays (s : State) (d : Nat) (f : DieMon → DieMon) : (s.updMon d f).arrays = s.arrays := rfl
@[simp] theorem State.updMon_fabric (s : State) (d : Nat) (f : DieMon → DieMon) : (s.updMon d f).fabric = s.fabric := rfl
@[simp] theorem State.updMon_usher (s : State) (d : Nat) (f : DieMon → DieMon) : (s.updMon d f).usher = s.usher := rfl
@[simp] theorem State.updMon_basin (s : State) (d : Nat) (f : DieMon → DieMon) : (s.updMon d f).basin = s.basin := rfl
@[simp] theorem State.updMon_ctxView (s : State) (d : Nat) (f : DieMon → DieMon) : (s.updMon d f).ctxView = s.ctxView := rfl
@[simp] theorem State.updMon_calOrder (s : State) (d : Nat) (f : DieMon → DieMon) : (s.updMon d f).calOrder = s.calOrder := rfl
@[simp] theorem State.updMon_loadIndex (s : State) (d : Nat) (f : DieMon → DieMon) : (s.updMon d f).loadIndex = s.loadIndex := rfl
@[simp] theorem State.updMon_startupDone (s : State) (d : Nat) (f : DieMon → DieMon) : (s.updMon d f).startupDone = s.startupDone := rfl
@[simp] theorem State.updMon_thermal (s : State) (d : Nat) (f : DieMon → DieMon) : (s.updMon d f).thermal = s.thermal := rfl
@[simp] theorem State.updMon_probe (s : State) (d : Nat) (f : DieMon → DieMon) : (s.updMon d f).probe = s.probe := rfl
@[simp] theorem State.updMon_sec (s : State) (d : Nat) (f : DieMon → DieMon) : (s.updMon d f).sec = s.sec := rfl
@[simp] theorem State.updMon_recorder (s : State) (d : Nat) (f : DieMon → DieMon) : (s.updMon d f).recorder = s.recorder := rfl
@[simp] theorem State.updMon_out (s : State) (d : Nat) (f : DieMon → DieMon) : (s.updMon d f).out = s.out := rfl
@[simp] theorem State.updMon_wire (s : State) (d : Nat) (f : DieMon → DieMon) : (s.updMon d f).wire = s.wire := rfl
@[simp] theorem State.updMon_fresh (s : State) (d : Nat) (f : DieMon → DieMon) : (s.updMon d f).fresh = s.fresh := rfl
@[simp] theorem State.updMon_switching (s : State) (d : Nat) (f : DieMon → DieMon) : (s.updMon d f).switching = s.switching := rfl
@[simp] theorem State.updMon_resetCause (s : State) (d : Nat) (f : DieMon → DieMon) : (s.updMon d f).resetCause = s.resetCause := rfl

/-! ### updSession -/

@[simp] theorem State.updSession_pending (s : State) (n : Nat) (f : Session → Session) : (s.updSession n f).pending = s.pending := rfl
@[simp] theorem State.updSession_pins (s : State) (n : Nat) (f : Session → Session) : (s.updSession n f).pins = s.pins := rfl
@[simp] theorem State.updSession_nvm (s : State) (n : Nat) (f : Session → Session) : (s.updSession n f).nvm = s.nvm := rfl
@[simp] theorem State.updSession_cfg (s : State) (n : Nat) (f : Session → Session) : (s.updSession n f).cfg = s.cfg := rfl
@[simp] theorem State.updSession_regs (s : State) (n : Nat) (f : Session → Session) : (s.updSession n f).regs = s.regs := rfl
@[simp] theorem State.updSession_wide (s : State) (n : Nat) (f : Session → Session) : (s.updSession n f).wide = s.wide := rfl
@[simp] theorem State.updSession_deferred (s : State) (n : Nat) (f : Session → Session) : (s.updSession n f).deferred = s.deferred := rfl
@[simp] theorem State.updSession_boot (s : State) (n : Nat) (f : Session → Session) : (s.updSession n f).boot = s.boot := rfl
@[simp] theorem State.updSession_clocks (s : State) (n : Nat) (f : Session → Session) : (s.updSession n f).clocks = s.clocks := rfl
@[simp] theorem State.updSession_time (s : State) (n : Nat) (f : Session → Session) : (s.updSession n f).time = s.time := rfl
@[simp] theorem State.updSession_port (s : State) (n : Nat) (f : Session → Session) : (s.updSession n f).port = s.port := rfl
@[simp] theorem State.updSession_nonces (s : State) (n : Nat) (f : Session → Session) : (s.updSession n f).nonces = s.nonces := rfl
@[simp] theorem State.updSession_held (s : State) (n : Nat) (f : Session → Session) : (s.updSession n f).held = s.held := rfl
@[simp] theorem State.updSession_groups (s : State) (n : Nat) (f : Session → Session) : (s.updSession n f).groups = s.groups := rfl
@[simp] theorem State.updSession_insts (s : State) (n : Nat) (f : Session → Session) : (s.updSession n f).insts = s.insts := rfl
@[simp] theorem State.updSession_activations (s : State) (n : Nat) (f : Session → Session) : (s.updSession n f).activations = s.activations := rfl
@[simp] theorem State.updSession_contexts (s : State) (n : Nat) (f : Session → Session) : (s.updSession n f).contexts = s.contexts := rfl
@[simp] theorem State.updSession_reqs (s : State) (n : Nat) (f : Session → Session) : (s.updSession n f).reqs = s.reqs := rfl
@[simp] theorem State.updSession_ended (s : State) (n : Nat) (f : Session → Session) : (s.updSession n f).ended = s.ended := rfl
@[simp] theorem State.updSession_accepted (s : State) (n : Nat) (f : Session → Session) : (s.updSession n f).accepted = s.accepted := rfl
@[simp] theorem State.updSession_spill (s : State) (n : Nat) (f : Session → Session) : (s.updSession n f).spill = s.spill := rfl
@[simp] theorem State.updSession_mem (s : State) (n : Nat) (f : Session → Session) : (s.updSession n f).mem = s.mem := rfl
@[simp] theorem State.updSession_poison (s : State) (n : Nat) (f : Session → Session) : (s.updSession n f).poison = s.poison := rfl
@[simp] theorem State.updSession_stacks (s : State) (n : Nat) (f : Session → Session) : (s.updSession n f).stackTbl = s.stackTbl := rfl
@[simp] theorem State.updSession_cores (s : State) (n : Nat) (f : Session → Session) : (s.updSession n f).cores = s.cores := rfl
@[simp] theorem State.updSession_engines (s : State) (n : Nat) (f : Session → Session) : (s.updSession n f).engines = s.engines := rfl
@[simp] theorem State.updSession_arrays (s : State) (n : Nat) (f : Session → Session) : (s.updSession n f).arrays = s.arrays := rfl
@[simp] theorem State.updSession_fabric (s : State) (n : Nat) (f : Session → Session) : (s.updSession n f).fabric = s.fabric := rfl
@[simp] theorem State.updSession_usher (s : State) (n : Nat) (f : Session → Session) : (s.updSession n f).usher = s.usher := rfl
@[simp] theorem State.updSession_basin (s : State) (n : Nat) (f : Session → Session) : (s.updSession n f).basin = s.basin := rfl
@[simp] theorem State.updSession_ctxView (s : State) (n : Nat) (f : Session → Session) : (s.updSession n f).ctxView = s.ctxView := rfl
@[simp] theorem State.updSession_calOrder (s : State) (n : Nat) (f : Session → Session) : (s.updSession n f).calOrder = s.calOrder := rfl
@[simp] theorem State.updSession_loadIndex (s : State) (n : Nat) (f : Session → Session) : (s.updSession n f).loadIndex = s.loadIndex := rfl
@[simp] theorem State.updSession_startupDone (s : State) (n : Nat) (f : Session → Session) : (s.updSession n f).startupDone = s.startupDone := rfl
@[simp] theorem State.updSession_thermal (s : State) (n : Nat) (f : Session → Session) : (s.updSession n f).thermal = s.thermal := rfl
@[simp] theorem State.updSession_probe (s : State) (n : Nat) (f : Session → Session) : (s.updSession n f).probe = s.probe := rfl
@[simp] theorem State.updSession_sec (s : State) (n : Nat) (f : Session → Session) : (s.updSession n f).sec = s.sec := rfl
@[simp] theorem State.updSession_recorder (s : State) (n : Nat) (f : Session → Session) : (s.updSession n f).recorder = s.recorder := rfl
@[simp] theorem State.updSession_out (s : State) (n : Nat) (f : Session → Session) : (s.updSession n f).out = s.out := rfl
@[simp] theorem State.updSession_wire (s : State) (n : Nat) (f : Session → Session) : (s.updSession n f).wire = s.wire := rfl
@[simp] theorem State.updSession_fresh (s : State) (n : Nat) (f : Session → Session) : (s.updSession n f).fresh = s.fresh := rfl
@[simp] theorem State.updSession_switching (s : State) (n : Nat) (f : Session → Session) : (s.updSession n f).switching = s.switching := rfl
@[simp] theorem State.updSession_resetCause (s : State) (n : Nat) (f : Session → Session) : (s.updSession n f).resetCause = s.resetCause := rfl

/-! ### Reading back -/

@[simp] theorem State.reg_setReg_self (s : State) (a : Nat) (v : Word) : (s.setReg a v).reg a = v := by
  simp [State.reg, State.setReg]

theorem State.reg_setReg_ne (s : State) {a b : Nat} (v : Word) (h : b ≠ a) : (s.setReg a v).reg b = s.reg b := by
  simp [State.reg, State.setReg, Tbl.getD_put_ne _ _ _ h]

theorem State.reg_bump_ne (s : State) {a b : Nat} (n : Nat) (h : b ≠ a) : (s.bump a n).reg b = s.reg b :=
  s.reg_setReg_ne _ h

/-- A 32-bit counter counts and stays at its largest value. -/
theorem State.reg_bump_self (s : State) (a n : Nat) :
    ((s.bump a n).reg a).toNat = min 0xFFFFFFFF ((s.reg a).toNat + n) := by
  simp only [State.bump, State.reg_setReg_self, BitVec.toNat_ofNat]
  omega

theorem State.wide_bumpWide_self (s : State) (a n : Nat) :
    (s.bumpWide a n).wide.getD a 0 = (s.wide.getD a 0 + n) % 2 ^ 64 := by
  simp [State.bumpWide]


@[simp] theorem State.core_updCore_self (s : State) (k : Nat) (f : CoreState → CoreState) : (s.updCore k f).core k = f (s.core k) := by
  simp [State.core, State.updCore, Tbl.upd]

theorem State.core_updCore_ne (s : State) {k j : Nat} (f : CoreState → CoreState) (h : j ≠ k) : (s.updCore k f).core j = s.core j := by
  simp [State.core, State.updCore, Tbl.upd, Tbl.getD_put_ne _ _ _ h]

@[simp] theorem State.eng_updEng_self (s : State) (k : Nat) (f : EngState → EngState) : (s.updEng k f).eng k = f (s.eng k) := by
  simp [State.eng, State.updEng, Tbl.upd]

theorem State.eng_updEng_ne (s : State) {k j : Nat} (f : EngState → EngState) (h : j ≠ k) : (s.updEng k f).eng j = s.eng j := by
  simp [State.eng, State.updEng, Tbl.upd, Tbl.getD_put_ne _ _ _ h]

@[simp] theorem State.arr_updArr_self (s : State) (k : Nat) (f : ArrayState → ArrayState) : (s.updArr k f).arr k = f (s.arr k) := by
  simp [State.arr, State.updArr, Tbl.upd]

theorem State.arr_updArr_ne (s : State) {k j : Nat} (f : ArrayState → ArrayState) (h : j ≠ k) : (s.updArr k f).arr j = s.arr j := by
  simp [State.arr, State.updArr, Tbl.upd, Tbl.getD_put_ne _ _ _ h]

@[simp] theorem State.grp_updGrp_self (s : State) (k : Nat) (f : Group → Group) : (s.updGrp k f).grp k = f (s.grp k) := by
  simp [State.grp, State.updGrp, Tbl.upd]

theorem State.grp_updGrp_ne (s : State) {k j : Nat} (f : Group → Group) (h : j ≠ k) : (s.updGrp k f).grp j = s.grp j := by
  simp [State.grp, State.updGrp, Tbl.upd, Tbl.getD_put_ne _ _ _ h]

@[simp] theorem State.inst_updInst_self (s : State) (k : Nat) (f : Inst → Inst) : (s.updInst k f).inst k = f (s.inst k) := by
  simp [State.inst, State.updInst, Tbl.upd]

theorem State.inst_updInst_ne (s : State) {k j : Nat} (f : Inst → Inst) (h : j ≠ k) : (s.updInst k f).inst j = s.inst j := by
  simp [State.inst, State.updInst, Tbl.upd, Tbl.getD_put_ne _ _ _ h]

@[simp] theorem State.stack_updStack_self (s : State) (k : Nat) (f : StackState → StackState) : (s.updStack k f).stack k = f (s.stack k) := by
  simp [State.stack, State.updStack, Tbl.upd]

theorem State.stack_updStack_ne (s : State) {k j : Nat} (f : StackState → StackState) (h : j ≠ k) : (s.updStack k f).stack j = s.stack j := by
  simp [State.stack, State.updStack, Tbl.upd, Tbl.getD_put_ne _ _ _ h]

@[simp] theorem State.core_setReg (s : State) (a : Nat) (v : Word) (i : Nat) :
    (s.setReg a v).core i = s.core i := rfl

@[simp] theorem State.core_bump (s : State) (a n : Nat) (i : Nat) :
    (s.bump a n).core i = s.core i := rfl

@[simp] theorem State.core_bumpWide (s : State) (a n : Nat) (i : Nat) :
    (s.bumpWide a n).core i = s.core i := rfl

@[simp] theorem State.core_updEng (s : State) (j : Nat) (f : EngState → EngState) (i : Nat) :
    (s.updEng j f).core i = s.core i := rfl

@[simp] theorem State.core_updArr (s : State) (j : Nat) (f : ArrayState → ArrayState) (i : Nat) :
    (s.updArr j f).core i = s.core i := rfl

@[simp] theorem State.core_updGrp (s : State) (j : Nat) (f : Group → Group) (i : Nat) :
    (s.updGrp j f).core i = s.core i := rfl

@[simp] theorem State.core_updStack (s : State) (j : Nat) (f : StackState → StackState) (i : Nat) :
    (s.updStack j f).core i = s.core i := rfl

@[simp] theorem State.core_updSession (s : State) (j : Nat) (f : Session → Session) (i : Nat) :
    (s.updSession j f).core i = s.core i := rfl

@[simp] theorem State.grp_setReg (s : State) (a : Nat) (v : Word) (i : Nat) :
    (s.setReg a v).grp i = s.grp i := rfl

@[simp] theorem State.grp_bump (s : State) (a n : Nat) (i : Nat) :
    (s.bump a n).grp i = s.grp i := rfl

@[simp] theorem State.grp_bumpWide (s : State) (a n : Nat) (i : Nat) :
    (s.bumpWide a n).grp i = s.grp i := rfl

@[simp] theorem State.grp_updEng (s : State) (j : Nat) (f : EngState → EngState) (i : Nat) :
    (s.updEng j f).grp i = s.grp i := rfl

@[simp] theorem State.grp_updArr (s : State) (j : Nat) (f : ArrayState → ArrayState) (i : Nat) :
    (s.updArr j f).grp i = s.grp i := rfl

@[simp] theorem State.grp_updCore (s : State) (j : Nat) (f : CoreState → CoreState) (i : Nat) :
    (s.updCore j f).grp i = s.grp i := rfl

@[simp] theorem State.grp_updStack (s : State) (j : Nat) (f : StackState → StackState) (i : Nat) :
    (s.updStack j f).grp i = s.grp i := rfl

@[simp] theorem State.grp_updSession (s : State) (j : Nat) (f : Session → Session) (i : Nat) :
    (s.updSession j f).grp i = s.grp i := rfl

@[simp] theorem State.arr_setReg (s : State) (a : Nat) (v : Word) (i : Nat) :
    (s.setReg a v).arr i = s.arr i := rfl

@[simp] theorem State.arr_bump (s : State) (a n : Nat) (i : Nat) :
    (s.bump a n).arr i = s.arr i := rfl

@[simp] theorem State.arr_bumpWide (s : State) (a n : Nat) (i : Nat) :
    (s.bumpWide a n).arr i = s.arr i := rfl

@[simp] theorem State.arr_updEng (s : State) (j : Nat) (f : EngState → EngState) (i : Nat) :
    (s.updEng j f).arr i = s.arr i := rfl

@[simp] theorem State.arr_updGrp (s : State) (j : Nat) (f : Group → Group) (i : Nat) :
    (s.updGrp j f).arr i = s.arr i := rfl

@[simp] theorem State.arr_updCore (s : State) (j : Nat) (f : CoreState → CoreState) (i : Nat) :
    (s.updCore j f).arr i = s.arr i := rfl

@[simp] theorem State.arr_updStack (s : State) (j : Nat) (f : StackState → StackState) (i : Nat) :
    (s.updStack j f).arr i = s.arr i := rfl

@[simp] theorem State.eng_setReg (s : State) (a : Nat) (v : Word) (i : Nat) :
    (s.setReg a v).eng i = s.eng i := rfl

@[simp] theorem State.eng_bump (s : State) (a n : Nat) (i : Nat) :
    (s.bump a n).eng i = s.eng i := rfl

@[simp] theorem State.eng_bumpWide (s : State) (a n : Nat) (i : Nat) :
    (s.bumpWide a n).eng i = s.eng i := rfl

@[simp] theorem State.eng_updArr (s : State) (j : Nat) (f : ArrayState → ArrayState) (i : Nat) :
    (s.updArr j f).eng i = s.eng i := rfl

@[simp] theorem State.eng_updGrp (s : State) (j : Nat) (f : Group → Group) (i : Nat) :
    (s.updGrp j f).eng i = s.eng i := rfl

@[simp] theorem State.eng_updCore (s : State) (j : Nat) (f : CoreState → CoreState) (i : Nat) :
    (s.updCore j f).eng i = s.eng i := rfl

@[simp] theorem State.eng_updStack (s : State) (j : Nat) (f : StackState → StackState) (i : Nat) :
    (s.updStack j f).eng i = s.eng i := rfl

@[simp] theorem State.stack_setReg (s : State) (a : Nat) (v : Word) (i : Nat) :
    (s.setReg a v).stack i = s.stack i := rfl

@[simp] theorem State.stack_bump (s : State) (a n : Nat) (i : Nat) :
    (s.bump a n).stack i = s.stack i := rfl

@[simp] theorem State.stack_bumpWide (s : State) (a n : Nat) (i : Nat) :
    (s.bumpWide a n).stack i = s.stack i := rfl

@[simp] theorem State.stack_updArr (s : State) (j : Nat) (f : ArrayState → ArrayState) (i : Nat) :
    (s.updArr j f).stack i = s.stack i := rfl

@[simp] theorem State.stack_updGrp (s : State) (j : Nat) (f : Group → Group) (i : Nat) :
    (s.updGrp j f).stack i = s.stack i := rfl

@[simp] theorem State.stack_updCore (s : State) (j : Nat) (f : CoreState → CoreState) (i : Nat) :
    (s.updCore j f).stack i = s.stack i := rfl

@[simp] theorem State.stack_updEng (s : State) (j : Nat) (f : EngState → EngState) (i : Nat) :
    (s.updEng j f).stack i = s.stack i := rfl

@[simp] theorem State.reg_bumpWide (s : State) (a n : Nat) (i : Nat) :
    (s.bumpWide a n).reg i = s.reg i := rfl

@[simp] theorem State.reg_updArr (s : State) (j : Nat) (f : ArrayState → ArrayState) (i : Nat) :
    (s.updArr j f).reg i = s.reg i := rfl

@[simp] theorem State.reg_updGrp (s : State) (j : Nat) (f : Group → Group) (i : Nat) :
    (s.updGrp j f).reg i = s.reg i := rfl

@[simp] theorem State.reg_updCore (s : State) (j : Nat) (f : CoreState → CoreState) (i : Nat) :
    (s.updCore j f).reg i = s.reg i := rfl

@[simp] theorem State.reg_updEng (s : State) (j : Nat) (f : EngState → EngState) (i : Nat) :
    (s.updEng j f).reg i = s.reg i := rfl

@[simp] theorem State.reg_updStack (s : State) (j : Nat) (f : StackState → StackState) (i : Nat) :
    (s.updStack j f).reg i = s.reg i := rfl

@[simp] theorem State.reg_updSession (s : State) (j : Nat) (f : Session → Session) (i : Nat) :
    (s.updSession j f).reg i = s.reg i := rfl

end Sys2Proof.Machine
end

