-- ==== Sys2Proof/Laws/Frame.lean ====
section
/-!
SUPPORT. What the shared operations can change at most, and how such bounds are put together.
-/

namespace Sys2Proof.Machine

open Sys2Proof

/-! ### Putting bounds together -/

theorem OnlyChanges.refl (ps : List Part) (s : State) : OnlyChanges ps s s := by
  intro p _
  cases p <;> rfl

theorem OnlyChanges.mono {ps qs : List Part} {s t : State} (h : OnlyChanges ps s t) (hs : ∀ p ∈ ps, p ∈ qs) :
    OnlyChanges qs s t := fun p hp => h p (fun hq => hp (hs p hq))

theorem OnlyChanges.trans {ps : List Part} {s t u : State} (h : OnlyChanges ps s t) (k : OnlyChanges ps t u) :
    OnlyChanges ps s u := by
  intro p hp
  have a := h p hp
  have b := k p hp
  cases p <;> exact Eq.trans b a

/-- A bound is carried over one more operation with a bound of its own. -/
theorem OnlyChanges.then {ps qs : List Part} {s t u : State} (h : OnlyChanges ps s t) (k : OnlyChanges qs t u)
    (hs : ∀ p ∈ qs, p ∈ ps) : OnlyChanges ps s u := h.trans (k.mono hs)

/-- A fold whose every step keeps a bound keeps it. -/
theorem OnlyChanges.fold {α : Type} {ps : List Part} (f : State → α → State) (h : ∀ s x, OnlyChanges ps s (f s x))
    (l : List α) (s : State) : OnlyChanges ps s (l.foldl f s) := by
  induction l generalizing s with
  | nil => exact .refl ps s
  | cons x rest ih => exact (h s x).trans (ih (f s x))

theorem OnlyKeys.put {α : Type} (t : Tbl α) (k : Nat) (v : α) : OnlyKeys [k] t (t.put k v) := fun j h =>
  Tbl.get?_put_ne t k j v (fun e => h (by simp [e]))

theorem OnlyKeys.upd {α : Type} (t : Tbl α) (k : Nat) (d : α) (f : α → α) : OnlyKeys [k] t (t.upd k d f) :=
  OnlyKeys.put t k _

theorem OnlyKeys.trans {α : Type} {ks : List Nat} {a b c : Tbl α} (h : OnlyKeys ks a b) (k : OnlyKeys ks b c) :
    OnlyKeys ks a c := fun j hj => (k j hj).trans (h j hj)

/-! ### The shared operations -/

theorem State.setReg_only (s : State) (a : Nat) (v : Word) : OnlyChanges [.regs] s (s.setReg a v) := by
  intro p h
  cases p <;> first | rfl | exact absurd (by simp) h

theorem State.bump_only (s : State) (a n : Nat) : OnlyChanges [.regs] s (s.bump a n) := s.setReg_only _ _
theorem State.bumpLo_only (s : State) (a n : Nat) : OnlyChanges [.regs] s (s.bumpLo a n) := s.setReg_only _ _
theorem State.bumpHi_only (s : State) (a n : Nat) : OnlyChanges [.regs] s (s.bumpHi a n) := s.setReg_only _ _
theorem State.setCause_only (s : State) (b : Nat) : OnlyChanges [.regs] s (s.setCause b) := s.setReg_only _ _

theorem State.bumpWide_only (s : State) (a n : Nat) : OnlyChanges [.wide] s (s.bumpWide a n) := by
  intro p h
  cases p <;> first | rfl | exact absurd (by simp) h

theorem State.updCore_only (s : State) (c : Nat) (f : CoreState → CoreState) :
    OnlyChanges [.cores] s (s.updCore c f) := by
  intro p h
  cases p <;> first | rfl | exact absurd (by simp) h

theorem State.updEng_only (s : State) (k : Nat) (f : EngState → EngState) : OnlyChanges [.engines] s (s.updEng k f) := by
  intro p h
  cases p <;> first | rfl | exact absurd (by simp) h

theorem State.updArr_only (s : State) (k : Nat) (f : ArrayState → ArrayState) :
    OnlyChanges [.arrays] s (s.updArr k f) := by
  intro p h
  cases p <;> first | rfl | exact absurd (by simp) h

theorem State.updGrp_only (s : State) (g : Nat) (f : Group → Group) : OnlyChanges [.groups] s (s.updGrp g f) := by
  intro p h
  cases p <;> first | rfl | exact absurd (by simp) h

theorem State.updStack_only (s : State) (k : Nat) (f : StackState → StackState) :
    OnlyChanges [.stackTbl] s (s.updStack k f) := by
  intro p h
  cases p <;> first | rfl | exact absurd (by simp) h

theorem State.updSession_only (s : State) (n : Nat) (f : Session → Session) :
    OnlyChanges [.sessions] s (s.updSession n f) := by
  intro p h
  cases p <;> first | rfl | exact absurd (by simp) h

/-- What is sent is added to the record of what was sent, and a message of the port is counted. -/
@[simp] theorem State.sendTo_out (s : State) (m : OutMsg) (d : Option Nat) (o : Nat) : (s.sendTo m d o).out = s.out ++ [m] := by
  unfold State.sendTo
  dsimp only
  split <;> rfl

@[simp] theorem State.send_out (s : State) (m : OutMsg) : (s.send m).out = s.out ++ [m] := s.sendTo_out m none 0

/-- A frame leaves only for a message of the port that the port takes now. -/
theorem State.sendTo_wire (s : State) (m : OutMsg) (d : Option Nat) (o : Nat) :
    (s.sendTo m d o).wire = if m.onPort && s.portTakes m then s.wire ++ [s.portFrame m d o] else s.wire := by
  unfold State.sendTo
  dsimp only
  split <;> rfl

theorem State.sendTo_only (s : State) (m : OutMsg) (d : Option Nat) (o : Nat) :
    OnlyChanges [.out, .wire, .wide] s (s.sendTo m d o) := by
  intro p h
  unfold State.sendTo
  dsimp only
  cases p <;> first | (split <;> rfl) | exact absurd (by simp) h

theorem State.send_only (s : State) (m : OutMsg) : OnlyChanges [.out, .wire, .wide] s (s.send m) := s.sendTo_only m none 0

theorem State.reply_only (s : State) (sess seq : Nat) (st : Status) (d tag : Nat) (body : List Nat) :
    OnlyChanges [.sessions, .out, .wire, .wide] s (s.reply sess seq st d tag body) := by
  unfold State.reply
  split
  · exact .refl _ _
  · exact ((State.updSession_only _ _ _).mono (by simp)).then (State.sendTo_only _ _ _ _) (by simp)

/-- An event record goes to the recorder, or raises the count of those dropped; its cause and the latest error are
registers. -/
theorem State.record_only (s : State) (sev code unit : Nat) (bytes : List Byte) :
    OnlyChanges [.recorder, .nvm, .regs] s (s.record sev code unit bytes) := by
  unfold State.record
  extract_lets r next n q s1 s2
  have h1 : OnlyChanges [.recorder, .nvm, .regs] s s1 := by
    simp only [s1]
    split <;> intro p h <;> cases p <;> first | rfl | exact absurd (by simp) h
  have h2 : OnlyChanges [.recorder, .nvm, .regs] s s2 := by
    simp only [s2]
    (repeat' split) <;> first
      | exact h1.then (State.setCause_only _ _) (by simp)
      | exact h1
  split
  · exact (h2.then (State.setReg_only _ _ _) (by simp)).then (State.setReg_only _ _ _) (by simp)
  · exact h2

theorem State.note_only (s : State) (sev : Nat) (what : String) (unit : Nat) (bytes : List Byte) :
    OnlyChanges [.recorder, .nvm, .regs] s (s.note sev what unit bytes) := s.record_only _ _ _ _

theorem State.error_only (s : State) (sev code unit : Nat) (g l : Option Nat) (detail : Nat) :
    OnlyChanges [.recorder, .nvm, .regs] s (s.error sev code unit g l detail) := s.record_only _ _ _ _

theorem State.fence_only (s : State) (c cause : Nat) : OnlyChanges [.cores] s (s.fence c cause) := s.updCore_only _ _

theorem State.countError_only (s : State) (c kind limit cause : Nat) :
    OnlyChanges [.cores] s (s.countError c kind limit cause) := by
  unfold State.countError
  simp only
  split
  · exact (s.updCore_only _ _).trans (State.fence_only _ _ _)
  · exact s.updCore_only _ _

theorem State.charge_only (s : State) (c n : Nat) : OnlyChanges [.cores, .groups, .regs] s (s.charge c n) := by
  unfold State.charge
  split
  · exact .refl _ _
  · rename_i g _
    have h : OnlyChanges [.cores, .groups, .regs] s (((s.updGrp g (fun x => { x with charged := x.charged + n })).updCore c
        (fun k => { k with credit := k.credit - n })).bump ((Blk.cor (coreIx c)).at Reg.REPLAY_CLOCKS) n) :=
      (((s.updGrp_only _ _).mono (by simp)).then (State.updCore_only _ _ _) (by simp)).then (State.bump_only _ _ _) (by simp)
    simp only
    split
    · refine h.trans ?_
      unfold State.askTopup
      split
      · exact .refl _ _
      · exact ((State.updGrp_only _ _ _).mono (by simp)).then (State.updCore_only _ _ _) (by simp)
    · exact h

theorem State.degrade_only (s : State) (l : List Nat) : OnlyChanges [.reqs] s (s.degrade l) := by
  intro p h
  unfold State.degrade
  split <;> cases p <;> first | rfl | exact absurd (by simp) h

theorem State.countReads_only (s : State) (l : List Nat) : OnlyChanges [.wide] s (s.countReads l) :=
  .fold _ (fun _ _ => State.bumpWide_only _ _ _) l s

theorem State.countFixed_only (s : State) (g : Nat) : OnlyChanges [.regs] s (s.countFixed g) :=
  (s.bump_only _ _).trans (State.bump_only _ _ _)

theorem State.updTile_only (s : State) (c t : Nat) (f : CasTile → CasTile) : OnlyChanges [.cores] s (s.updTile c t f) :=
  s.updCore_only _ _

theorem State.deliverFire_only (s : State) (op : FireOp) (t : Tile) (x : Shot) (counts : List Int) :
    OnlyChanges [.cores, .regs] s (s.deliverFire op t x counts) := by
  unfold State.deliverFire
  simp only
  split
  · exact (s.updCore_only _ _).mono (by simp)
  · refine ((s.bump_only _ _).mono (by simp)).trans (.fold _ (fun u m => ?_) _ _)
    split
    · exact ((State.updTile_only _ _ _ _).mono (by simp)).then (State.bump_only _ _ _) (by simp)
    · exact (State.updTile_only _ _ _ _).mono (by simp)

end Sys2Proof.Machine
end

