-- ==== Sys2Proof/Laws/Carousel.lean ====
section
/-!
SUPPORT. What issuing a record changes, and what an operation of the plan does before and in its turn (R140).
-/

namespace Sys2Proof.Machine

open Sys2Proof

/-- Issuing a record changes the Carousel state of its core alone. -/
theorem State.issue_only (s : State) (c cls part : Nat) : OnlyChanges [.cores] s (s.issue c cls part) := by
  unfold State.issue
  split
  · exact .refl _ _
  · exact State.updCore_only _ _ _

theorem State.issue_keys (s : State) (c cls part : Nat) : OnlyKeys [c] s.cores (s.issue c cls part).cores := by
  unfold State.issue
  split
  · exact fun _ _ => rfl
  · simp only [State.updCore]
    exact OnlyKeys.upd _ _ _ _

@[simp] theorem State.issue_groups (s : State) (c cls part : Nat) : (s.issue c cls part).groups = s.groups := by
  unfold State.issue
  split <;> rfl

@[simp] theorem State.issue_mem (s : State) (c cls part : Nat) : (s.issue c cls part).mem = s.mem := by
  unfold State.issue
  split <;> rfl

@[simp] theorem State.issue_arr (s : State) (c cls part k : Nat) : (s.issue c cls part).arr k = s.arr k := by
  unfold State.issue
  split <;> rfl

@[simp] theorem State.issue_eng (s : State) (c cls part k : Nat) : (s.issue c cls part).eng k = s.eng k := by
  unfold State.issue
  split <;> rfl

/-- An operation acts in its turn, as its record issues. -/
theorem State.planOp_in_turn (s : State) (c cls part : Nat) (act : State → State) (h : s.mayIssue c cls part = true) :
    s.planOp c cls part act = act (s.issue c cls part) := by
  simp [State.planOp, h]

/-- Before its turn it changes nothing. -/
theorem State.planOp_out_of_turn (s : State) (c cls part : Nat) (act : State → State) (h : s.mayIssue c cls part = false) :
    s.planOp c cls part act = s := by
  simp [State.planOp, h]

/-- No record issues on a core whose units do not act. -/
theorem State.mayIssue_runs (s : State) (c cls part : Nat) (h : s.mayIssue c cls part = true) : s.unitRuns c = true := by
  simp only [State.mayIssue, Bool.and_eq_true] at h
  exact h.1

end Sys2Proof.Machine
end

