-- ==== Sys2Proof/Laws/Host.lean ====
section
/-!
SUPPORT. What the receipt of a host command comes to.
-/

namespace Sys2Proof.Machine

open Sys2Proof

/-- What considering a command comes to once it has passed its checks. -/
def State.processed (s : State) (h : Hdr) (i : Instr) (boundary : Bool) : State :=
  if boundary then s.considerBoundary i h else (runHost s i).send h 0

theorem hostReceive_of_admitted {s : State} {h : Hdr} {i : Instr} {o : OpInfo} (ho : opInfo i = some o)
    (ha : Admitted s h i) : hostReceive h i s = (s.heard h).processed h i o.boundary := by
  obtain ⟨hu, o', x, y, ho', hh, hx, hq, he, hy, hp⟩ := ha
  rw [ho] at ho'
  obtain rfl := Option.some.inj ho'
  subst hh
  have hy' : ((s.received o.h).updSession o.h.sess (fun x => { x with expect := x.expect + 1 })).session? o.h.sess
      = some y := hy
  simp only [hostReceive, hu, Bool.not_true, Bool.false_eq_true, if_false, hx, hq, he, List.isEmpty_nil, if_true, State.takeCommand, hy', State.consider, ho]
  simp only [State.heard] at hp ⊢
  rw [hp]
  rfl

/-- A command processed on receipt is answered at once. -/
theorem hostReceive_atOnce {s : State} {h : Hdr} {i : Instr} {o : OpInfo} (ho : opInfo i = some o)
    (hb : o.boundary = false) (ha : Admitted s h i) : hostReceive h i s = (runHost (s.heard h) i).send h 0 := by
  rw [hostReceive_of_admitted ho ha, State.processed, hb]
  rfl

/-- A boundary command that waits for no boundary is applied and answered at once. -/
theorem hostReceive_boundary {s : State} {h : Hdr} {i : Instr} {o : OpInfo} (ho : opInfo i = some o)
    (hb : o.boundary = true) (hs : submitOf i = none) (ha : AtOnce s h i) :
    hostReceive h i s = (runHost (s.heard h) i).send h 0 := by
  rw [hostReceive_of_admitted ho ha.1, State.processed, hb]
  simp [State.considerBoundary, hs, ha.2]

/-- A row that writes one register leaves what the write leaves. -/
theorem regWrite_row {s : State} {h : Hdr} {i : Instr} {a : Nat} {v m : Word} {t : State × Status} (ha : Admitted s h i)
    (hi : runHost (s.heard h) i = runRegWrite (s.heard h) a v m) (hr : exec i s = .next (hostReceive h i s))
    (ho : opInfo i = writeOp h) (h4 : a % 4 = 0) (h5 : a ≤ 0xFFFFFFFC) (ht : (s.heard h).writeReg a v m = t) :
    Answered s h i t.1 t.2 [] := by
  rw [Answered, hr, hostReceive_atOnce ho rfl ha, hi, runRegWrite, if_neg (by omega), ht]
  simp [Ans.send]

end Sys2Proof.Machine
end

