-- ==== Sys2Proof/Laws/Memory.lean ====
section
/-!
SUPPORT. Every operation on device memory keeps its canonical form, and a write concerns its own byte only.
-/

namespace Sys2Proof.Machine

open Sys2Proof

/-- Every address of a memory lies above a bound. -/
def memAbove (k : Nat) (m : List Host.Cell) : Prop := ∀ p ∈ m, k < p.1

theorem memWf_cons {p : Host.Cell} {m : List Host.Cell} : memWf (p :: m) = true ↔
    p.2 ≠ 0 ∧ memAbove p.1 m ∧ memWf m = true := by
  induction m generalizing p with
  | nil => simp [memWf, memAbove]
  | cons q rest ih =>
    simp only [memWf, Bool.and_eq_true, decide_eq_true_eq, memAbove, List.mem_cons, forall_eq_or_imp]
    constructor
    · rintro ⟨⟨h1, h2⟩, h3⟩
      exact ⟨h1, ⟨h2, fun r hr => Nat.lt_trans h2 ((ih.1 h3).2.1 r hr)⟩, h3⟩
    · rintro ⟨h1, ⟨h2, _⟩, h3⟩
      exact ⟨⟨h1, h2⟩, h3⟩

theorem memPut_above {k a : Nat} {b : Byte} {m : List Host.Cell} (hm : memAbove k m) (ha : k < a) :
    memAbove k (memPut m a b) := by
  induction m with
  | nil =>
    simp only [memPut]
    split
    · simp [memAbove]
    · simpa [memAbove] using ha
  | cons q rest ih =>
    obtain ⟨i, v⟩ := q
    have hq : k < i := hm (i, v) (by simp)
    have hr : memAbove k rest := fun p hp => hm p (by simp [hp])
    simp only [memPut]
    split <;> (try split) <;> (try split) <;> intro p hp <;> (try simp only [List.mem_cons] at hp)
    · exact hm p (by simpa using hp)
    · rcases hp with rfl | rfl | hp
      · exact ha
      · exact hq
      · exact hr p hp
    · exact hr p hp
    · rcases hp with rfl | hp
      · exact ha
      · exact hr p hp
    · rcases hp with rfl | hp
      · exact hq
      · exact ih hr p hp

/-- A write keeps the canonical form. -/
theorem memPut_wf {m : List Host.Cell} (a : Nat) (b : Byte) (hm : memWf m = true) : memWf (memPut m a b) = true := by
  induction m with
  | nil =>
    simp only [memPut]
    split
    · rfl
    · simpa [memWf]
  | cons q rest ih =>
    obtain ⟨i, v⟩ := q
    obtain ⟨hv, hr, hw⟩ := memWf_cons.1 hm
    simp only [memPut]
    split
    · split
      · exact hm
      · rename_i h1 h2
        refine memWf_cons.2 ⟨h2, fun p hp => ?_, hm⟩
        rcases List.mem_cons.1 hp with rfl | hp
        · exact h1
        · exact Nat.lt_trans h1 (hr p hp)
    · split
      · rename_i h2
        split
        · exact hw
        · rename_i h3
          exact memWf_cons.2 ⟨h3, fun p hp => h2 ▸ hr p hp, hw⟩
      · exact memWf_cons.2 ⟨hv, memPut_above hr (by omega), ih hw⟩

theorem memPuts_wf {m : List Host.Cell} (a : Nat) (l : List Byte) (hm : memWf m = true) :
    memWf (memPuts m a l) = true := by
  induction l generalizing m a with
  | nil => exact hm
  | cons b rest ih => exact ih (a + 1) (memPut_wf a b hm)

theorem State.putGranule_mem (s : State) (g v : Nat) :
    (s.putGranule g v).mem = memPuts s.mem (32 * g) (Crypto.bytesLE 32 v) := by
  simp only [State.putGranule]

theorem State.putGranule_wf {s : State} (g v : Nat) (h : memWf s.mem = true) : memWf (s.putGranule g v).mem = true := by
  rw [State.putGranule_mem]
  exact memPuts_wf _ _ h

theorem State.putGranules_wf {s : State} (g : Nat) (l : List Nat) (h : memWf s.mem = true) :
    memWf (s.putGranules g l).mem = true := by
  induction l generalizing s g with
  | nil => simpa only [State.putGranules] using h
  | cons v rest ih =>
    simp only [State.putGranules]
    exact ih (g + 1) (State.putGranule_wf g v h)

/-- Counting writes leaves memory as it is. -/
@[simp] theorem State.countWrites_mem (s : State) (l : List Nat) : (s.countWrites l).mem = s.mem := by
  unfold State.countWrites
  induction l generalizing s with
  | nil => rfl
  | cons a rest ih => rw [List.foldl_cons, ih, State.bumpWide_mem]

/-- Writing granules one after another. -/
theorem State.putAll_wf {s : State} (l : List (Nat × Nat)) (h : memWf s.mem = true) :
    memWf (l.foldl (fun (s : State) p => s.putGranule p.1 p.2) s).mem = true := by
  induction l generalizing s with
  | nil => simpa only [List.foldl_nil] using h
  | cons p rest ih =>
    rw [List.foldl_cons]
    exact ih (State.putGranule_wf p.1 p.2 h)

theorem State.putAt_wf {s : State} (as vs : List Nat) (h : memWf s.mem = true) : memWf (s.putAt as vs).mem = true := by
  unfold State.putAt
  rw [State.countWrites_mem]
  exact State.putAll_wf _ h

theorem State.putByte_wf {s : State} (g i : Nat) (b : Byte) (h : memWf s.mem = true) :
    memWf (s.putByte g i b).mem = true := memPut_wf _ _ h

/-- Another byte is left as it was. -/
theorem memByte_memPut_ne (m : List Host.Cell) {a k : Nat} (b : Byte) (h : k ≠ a) :
    memByte (memPut m a b) k = memByte m k := by
  induction m with
  | nil =>
    simp only [memPut]
    split
    · rfl
    · simp [memByte, h.symm]
  | cons q rest ih =>
    obtain ⟨i, v⟩ := q
    simp only [memPut]
    split
    · split
      · rfl
      · simp [memByte, List.find?_cons, h.symm]
    · split
      · subst_vars
        split <;> simp [memByte, h.symm]
      · by_cases hi : i = k
        · simp [memByte, hi]
        · simpa [memByte, List.find?_cons, hi] using ih

end Sys2Proof.Machine
end

