-- ==== Sys2Proof/Laws/RegMap.lean ====
section
/-!
SUPPORT. The register at an address a block gives it lies in that block.
-/

namespace Sys2Proof.Machine

open Sys2Proof

theorem locate_die (d : DieIx) (o : Nat) (ho : o < 0x04000000) : locate (dieWindow d.val + o) = locateDie d o := by
  have hd := d.isLt
  have hq : (dieWindow d.val + o - 0x10000000) / 0x04000000 = d.val := by
    simp only [dieWindow]; omega
  have hr : (dieWindow d.val + o - 0x10000000) % 0x04000000 = o := by
    simp only [dieWindow]; omega
  have hb : 0x10000000 ≤ dieWindow d.val + o := by simp only [dieWindow]; omega
  unfold locate
  repeat rw [if_neg (by omega)]
  rw [dif_pos ⟨hb, by rw [hq]; exact hd⟩]
  have : (⟨(dieWindow d.val + o - 0x10000000) / 0x04000000, by rw [hq]; exact hd⟩ : DieIx) = d := Fin.ext hq
  rw [hr]
  exact congrArg (fun x => locateDie x o) this

theorem locate_dieClk (d : DieIx) (o : Nat) (ho : o < 0x10000) :
    locate ((Blk.dieClk d).at o) = some (.dieClk d, o) := by
  have h : (Blk.dieClk d).at o = dieWindow d.val + (0x10000 + o) := by simp only [Blk.at, Blk.base]; omega
  rw [h, locate_die d _ (by omega)]
  unfold locateDie
  repeat rw [if_neg (by omega)]
  rw [if_pos (by omega)]
  simp

theorem locate_mon (d : DieIx) (o : Nat) (ho : o < 0x10000) : locate ((Blk.mon d).at o) = some (.mon d, o) := by
  have h : (Blk.mon d).at o = dieWindow d.val + (0x20000 + o) := by simp only [Blk.at, Blk.base]; omega
  rw [h, locate_die d _ (by omega)]
  unfold locateDie
  repeat rw [if_neg (by omega)]
  rw [if_pos (by omega)]
  simp

theorem locate_coreBlock (c : CoreIx) (o : Nat) (ho : o < 0x10000) :
    locate (coreBlock c.val + o) = locateCore c o := by
  have hc := c.isLt
  have hd : c.val / 144 < 4 := by omega
  have hm : c.val % 144 < 144 := Nat.mod_lt _ (by decide)
  have h : coreBlock c.val + o = dieWindow (⟨c.val / 144, hd⟩ : DieIx).val + (0x01000000 + (c.val % 144) * 0x10000 + o) := by
    simp only [coreBlock]; omega
  rw [h, locate_die _ _ (by omega)]
  have hq : (0x01000000 + (c.val % 144) * 0x10000 + o - 0x01000000) / 0x10000 = c.val % 144 := by omega
  have hr : (0x01000000 + (c.val % 144) * 0x10000 + o - 0x01000000) % 0x10000 = o := by omega
  unfold locateDie
  repeat rw [if_neg (by omega)]
  rw [dif_pos ⟨by omega, by rw [hq]; exact hm⟩, hr]
  refine congrArg (fun x => locateCore x o) (Fin.ext ?_)
  show c.val / 144 * 144 + (0x01000000 + (c.val % 144) * 0x10000 + o - 0x01000000) / 0x10000 = c.val
  rw [hq]; omega

theorem locate_cas (c : CoreIx) (o : Nat) (ho : o < 0x1000) : locate ((Blk.cas c).at o) = some (.cas c, o) := by
  have h : (Blk.cas c).at o = coreBlock c.val + (0x2000 + o) := by simp only [Blk.at, Blk.base]; omega
  rw [h, locate_coreBlock c _ (by omega)]
  unfold locateCore
  repeat rw [if_neg (by omega)]
  rw [if_pos (by omega)]
  simp

theorem locate_eng (c : CoreIx) (e : EngIx) (o : Nat) (ho : o < 0x100) :
    locate ((Blk.eng c e).at o) = some (.eng c e, o) := by
  have he := e.isLt
  have h : (Blk.eng c e).at o = coreBlock c.val + (0x1000 + e.val * 0x100 + o) := by simp only [Blk.at, Blk.base]; omega
  have hq : (0x1000 + e.val * 0x100 + o - 0x1000) / 0x100 = e.val := by omega
  rw [h, locate_coreBlock c _ (by omega)]
  unfold locateCore
  repeat rw [if_neg (by omega)]
  rw [if_pos (by omega), dif_pos (by rw [hq]; exact he)]
  have hr : (0x1000 + e.val * 0x100 + o - 0x1000) % 0x100 = o := by omega
  rw [hr]
  have : (⟨(0x1000 + e.val * 0x100 + o - 0x1000) / 0x100, by rw [hq]; exact he⟩ : EngIx) = e := Fin.ext hq
  exact congrArg (fun x => some (Blk.eng c x, o)) this

theorem locate_clocks (o : Nat) (ho : o < 0x10000) : locate (0x10000 + o) = some (.clocks, o) := by
  unfold locate
  repeat rw [if_neg (by omega)]
  rw [if_pos (by omega), Nat.add_sub_cancel_left]

theorem locate_thermal (o : Nat) (ho : o < 0x10000) : locate (0x20000 + o) = some (.thermal, o) := by
  unfold locate
  repeat rw [if_neg (by omega)]
  rw [if_pos (by omega), Nat.add_sub_cancel_left]

theorem locate_time (o : Nat) (ho : o < 0x10000) : locate (0x30000 + o) = some (.time, o) := by
  unfold locate
  repeat rw [if_neg (by omega)]
  rw [if_pos (by omega), Nat.add_sub_cancel_left]

theorem locate_port (o : Nat) (ho : o < 0x10000) : locate (0x40000 + o) = some (.port, o) := by
  unfold locate
  repeat rw [if_neg (by omega)]
  rw [if_pos (by omega), Nat.add_sub_cancel_left]

theorem locate_usher (o : Nat) (ho : o < 0x10000) : locate (0x60000 + o) = some (.usher, o) := by
  unfold locate
  repeat rw [if_neg (by omega)]
  rw [if_pos (by omega), Nat.add_sub_cancel_left]

theorem locate_cal (o : Nat) (ho : o < 0x10000) : locate (0x70000 + o) = some (.cal, o) := by
  unfold locate
  repeat rw [if_neg (by omega)]
  rw [if_pos (by omega), Nat.add_sub_cancel_left]

theorem locate_err (o : Nat) (ho : o < 0x10000) : locate (0x80000 + o) = some (.err, o) := by
  unfold locate
  repeat rw [if_neg (by omega)]
  rw [if_pos (by omega), Nat.add_sub_cancel_left]

theorem locate_recorder (o : Nat) (ho : o < 0x10000) : locate (0x90000 + o) = some (.recorder, o) := by
  unfold locate
  repeat rw [if_neg (by omega)]
  rw [if_pos (by omega), Nat.add_sub_cancel_left]

theorem locate_sec (o : Nat) (ho : o < 0x10000) : locate (0xa0000 + o) = some (.sec, o) := by
  unfold locate
  repeat rw [if_neg (by omega)]
  rw [if_pos (by omega), Nat.add_sub_cancel_left]

end Sys2Proof.Machine
end

