-- ==== Sys2Proof/Laws/Regs.lean ====
section
/-!
SUPPORT. What a register write comes to once its block and register are known.
-/

namespace Sys2Proof.Machine

open Sys2Proof

/-- The value of a masked write where no rule of its own concerns the register. -/
theorem writeReg_plain (s : State) {a o : Nat} {b : Blk} {r : RegDesc} (v m : Word) (hl : locate a = some (b, o))
    (hd : s.blkDisabled b = false) (hf : b.find o = some r) (ha : r.acc = .rw ∨ r.acc = .wo)
    (hb : plainBlk b = true) :
    s.writeReg a v m = (s.setReg a (mergeWrite (s.reg a) v m r.mask), .ok) := by
  have h1 : ¬ (r.acc = .ro ∨ r.acc = .rc) := by
    rcases ha with h | h <;> simp [h]
  simp only [State.writeReg, hl, hd, hf, if_neg h1, Bool.false_eq_true, if_false]
  cases b <;> first | rfl | exact absurd hb (by simp [plainBlk])

theorem writeReg_ignored (s : State) {a o : Nat} {b : Blk} (v m : Word) (hl : locate a = some (b, o))
    (hd : s.blkDisabled b = false) (hf : b.find o = none ∨ ∃ r, b.find o = some r ∧ (r.acc = .ro ∨ r.acc = .rc)) :
    s.writeReg a v m = (s, .ok) := by
  rcases hf with hf | ⟨r, hf, hr⟩
  · simp [State.writeReg, hl, hd, hf]
  · simp only [State.writeReg, hl, hd, hf, if_pos hr, Bool.false_eq_true, if_false]

theorem writeReg_disabled (s : State) {a o : Nat} {b : Blk} (v m : Word) (hl : locate a = some (b, o))
    (hd : s.blkDisabled b = true) : s.writeReg a v m = (s, .noResource) := by
  simp [State.writeReg, hl, hd]

theorem writeReg_clocks (s : State) {a o : Nat} {r : RegDesc} (v m : Word) (hl : locate a = some (.clocks, o))
    (hf : Blk.clocks.find o = some r) (ha : r.acc ≠ .ro ∧ r.acc ≠ .rc) :
    s.writeReg a v m = (writeClocks s o v m).getD (s.setReg a (mergeWrite (s.reg a) v m r.mask), .ok) := by
  simp [State.writeReg, hl, hf, ha, State.blkDisabled, Blk.core?]

theorem writeReg_thermal (s : State) {a o : Nat} {r : RegDesc} (v m : Word) (hl : locate a = some (.thermal, o))
    (hf : Blk.thermal.find o = some r) (ha : r.acc ≠ .ro ∧ r.acc ≠ .rc) :
    s.writeReg a v m = (writeThermal s o v m).getD (s.setReg a (mergeWrite (s.reg a) v m r.mask), .ok) := by
  simp [State.writeReg, hl, hf, ha, State.blkDisabled, Blk.core?]

theorem writeReg_dieClk (s : State) {a o : Nat} {d : DieIx} {r : RegDesc} (v m : Word)
    (hl : locate a = some (.dieClk d, o)) (hf : (Blk.dieClk d).find o = some r) (ha : r.acc ≠ .ro ∧ r.acc ≠ .rc) :
    s.writeReg a v m = (writeDieClk s d o v m).getD (s.setReg a (mergeWrite (s.reg a) v m r.mask), .ok) := by
  simp [State.writeReg, hl, hf, ha, State.blkDisabled, Blk.core?]

theorem writeReg_mon (s : State) {a o : Nat} {d : DieIx} {r : RegDesc} (v m : Word)
    (hl : locate a = some (.mon d, o)) (hf : (Blk.mon d).find o = some r) (ha : r.acc ≠ .ro ∧ r.acc ≠ .rc) :
    s.writeReg a v m = (writeMon s d o v m).getD (s.setReg a (mergeWrite (s.reg a) v m r.mask), .ok) := by
  simp [State.writeReg, hl, hf, ha, State.blkDisabled, Blk.core?]

end Sys2Proof.Machine
end

