-- ==== Sys2Proof/Tests/Slice0.lean ====
section
/-!
SUPPORT. Tests: a well-formed command of every row and an ill-formed operand of every check, numbers the spec works
out, and states and operands that meet the hypotheses of every statement, clause by clause.
-/

namespace Sys2Proof.Tests

open Sys2Proof.Machine

section

-- Kernel evaluations run one after another.
set_option Elab.async false

/-! ### Small states -/

/-- A command that is the next of its session and passes the checks on receipt, as a test. -/
def admittedB (s : State) (h : Hdr) (i : Instr) : Bool :=
  match opInfo i, s.session? h.sess, (s.heard h).session? h.sess with
  | some o, some x, some y => s.portOpen && decide (o.h = h) && decide (h.seq = x.expect) && x.early.isEmpty
      && ((s.heard h).preCheck y i o).isNone
  | _, _, _ => false

theorem admitted_of {s : State} {h : Hdr} {i : Instr} (e : admittedB s h i = true) : Admitted s h i := by
  unfold admittedB at e
  split at e
  · rename_i o x y ho hx hy
    simp only [Bool.and_eq_true, decide_eq_true_eq, List.isEmpty_iff, Option.isNone_iff_eq_none] at e
    exact ⟨e.1.1.1.1, o, x, y, ho, e.1.1.1.2, hx, e.1.1.2, e.1.2, hy, e.2⟩
  · exact absurd e (by simp)

theorem atOnce_of {s : State} {h : Hdr} {i : Instr}
    (e : (admittedB s h i && !(s.heard h).mustWait i h.tag) = true) : AtOnce s h i := by
  simp only [Bool.and_eq_true, Bool.not_eq_true'] at e
  exact ⟨admitted_of e.1, e.2⟩

/-- An open session of key 7, at MCT 3. -/
def wSess : Session :=
  { id := 5, key := 7, version := 3, plans := 255, manifests := 7, isOpen := true, h2d := [], d2h := [], expect := 1
    early := [], replies := [], dseq := 1, unacked := [], queue := [], notify := none, telPeriod := 0, telMask := 0
    lastRx := 0, peer := 0, calls := [] }

/-- A key with every role. -/
def wKey : OpKey := ⟨7, List.replicate 32 1, 7, 2, [], false⟩

def wHdr : Hdr := ⟨5, 1, 0, 0, 0, 0⟩

/-- A block in service with one open session and nothing else. -/
def wOn : State :=
  { State.reset with
    pins := ⟨true, true, true, false, false⟩
    nvm := { State.reset.nvm with keys := [(1, wKey)] }
    boot := { State.reset.boot with released := true, phase := 15, inRom := false, fwValid := true, isDone := true, goodValid := true }
    clocks := { State.reset.clocks with allGated := false }
    port := { State.reset.port with linkUp := true, disc := 7, announced := true, addr4 := 1 }
    sessions := [wSess]
    time := { State.reset.time with ns := 1000 } }

/-- The same block with another session. -/
def wAt (x : Session) : State := { wOn with sessions := [x] }

/-! A group that runs a plan, and one that is formed and runs none -/

def wOpArgs : OpArgs :=
  ⟨0, 0, 0, 0, 0, 0, 0, 0, false, 0, 0, 4, none, none, 0, 0, 0, 0, 0, 0, 0, false, 0, 0, 0⟩

def wOpRec : OpRec := ⟨0, 0, 0, 0, 0, 1, 0, 0xFFFFFFFF, 0xFFFFFFFF, wOpArgs⟩

/-- A record of a class and unit of logical core 0. -/
def wRecord (cls unit : Nat) : OpRec := { wOpRec with cls := cls, unit := unit }

def wVariant : Variant := ⟨0, 2000, 1000, 1, 0, 100, 10000, [], []⟩

def wMoe : MoeEnt := ⟨0, 8, 0, 2, 4, 2, 1, 0⟩

def wPlan : Plan :=
  { format := 1, stride := 1, nocRatio := 0, planId := 9, manifest := [], channels := 1, decodeRows := 4, prefillRows := 4
    spillSrc := 0, linold := 0, cores := [⟨0, 0, 0⟩], regions := [], layers := [⟨0, 0, 0, 0, 0, 0, 0⟩], moe := [wMoe]
    length := 0, descriptors := 0, variants := [wVariant, { wVariant with kind := 2 }] }

def wPlaced : PlacedPlan := ⟨wPlan, [], 0, false, 1400⟩

def wManifest : Manifest :=
  { format := 1, kind := 0, modelId := 4, shardBytes := 4, deviceBytes := 0, keyId := 7, vocabulary := 16, layers := 1
    endTokens := [2], adapterSlots := 4, adapterRank := 8, baseDigest := [], shards := [⟨4, [], [0, 1], 1, 100⟩]
    tensors := [⟨0, 0, 0, 0, 0, 1, 1, 0, 4⟩], attn := [], digest := [] }

def wLoad : Load := ⟨wManifest, 7, 5, 1, [], [], [], [], [], []⟩

def wGen : Gen := { id := 1, phase := .active, load := wLoad, damaged := false }

/-- A group formed of channel 0 whose instance is active. -/
def wFormed : Group := { Group.init with formed := true, channels := 1 }

/-- That group with its plan, in a tick. -/
def wGrp : Group :=
  { wFormed with
    current := some wPlaced, mhz := 2000, tick := 3, boundary := 3000000, next := 4000000, running := true, started := 3
    bind := [(0, 0)], ticked := true }

def wCore : CoreState := { CoreState.init with group := some 0, lcore := some 0, running := true, credit := 1000 }

/-- Group 0 is formed and runs no plan. -/
def wIdle : State :=
  { wOn with groups := [(0, wFormed)], insts := [(0, ⟨some wGen, none, [], 0⟩)], cores := [(0, { wCore with running := false })] }

/-- Group 0 runs its plan, in a tick, on core 0. -/
def wRun : State :=
  { wOn with
    groups := [(0, wGrp)], insts := [(0, ⟨some wGen, none, [], 0⟩)], cores := [(0, wCore)]
    time := { wOn.time with ns := 3500000 } }

/-- The same with a second core of the cluster to spare. -/
def wTwo : State := { wRun with cores := [(0, wCore), (1, { wCore with lcore := none, running := false })] }

/-- A context at rest of group 0, key 7 and tenant 3. -/
def wCtx : Ctx :=
  { group := 0, homeDie := 0, key := 7, tenant := 3, tag := 0, budget := 6, policy := 0, shift := 1, backing := ⟨0, 1, 0, 64⟩
    length := 0, tail := [], chain := [], blocks := 0, tables := [], free := [], state := .idle, stateGen := 1, adapter := 0
    adapterGen := 0, turns := 0, generated := 0, evicted := false, origin := none, originAt := 0, dropPages := []
    damaged := false, orphan := false, masses := [], truncate := none, grow := [], growBy := (0, 0, 0), ptBase := 0
    crossFill := [] }

/-- The group that runs no plan, with context 9. -/
def wHeld (c : Ctx) : State := { wIdle with contexts := [(9, c)] }

def wReqF : ReqFields :=
  { id := 1, ctx := 9, tenant := 3, fullHistory := false, continueLate := false, penaliseInput := false, ignoreEnd := false
    more := false, reserved := 0, adapter := 0, deadline := 0, maxNew := 1, stops := [], temperature := 0, topK := 0
    topP := 0x3F800000, repPenalty := 0x3F800000, presence := 0, frequency := 0, seed := 0, tokenCount := 1, tokens := [1] }

def wReq : Req :=
  { sess := 5, f := wReqF, group := 0, phase := .queued, pos := 0, rowsLeft := 1, slot := none, counts := [], misses := 0
    sent := 0, passed := 0, order := 0, gen := 1, adapterGen := 0, late := false, degraded := false, replayed := false
    token := none, last := none, ending := none }

/-- The boot ROM with an upload. -/
def wBoot (u : Option Upload) : State :=
  { wOn with boot := { wOn.boot with phase := 10, inRom := true, fwValid := false, isDone := false, upload := u } }

/-- Group 0 with a generation on its way. -/
def wNext (x : Gen) : State := { wIdle with insts := [(0, ⟨some wGen, some x, [], 0⟩)] }

/-- Storage target 15 is connected. -/
def wDisk : State :=
  { wIdle with
    cfg := { wOn.cfg with storage := List.replicate 16 (some ⟨0, 0, [], false⟩) }
    port := { wOn.port with connected := 0x8000, blocks := [(nsKey 15 1, 4096)] } }

def wAd : Adapter := ⟨3, 7, 1, [⟨1, 0, true, wLoad⟩], false⟩

/-- Group 0 with adapter 6. -/
def wAdapter (a : Adapter) : State := { wIdle with insts := [(0, ⟨some wGen, none, [(6, a)], 0⟩)] }

/-- A command that waits for a boundary. -/
def wWait (i : Instr) : Held := ⟨0, 5, 1, 0, i, false, 0, some 0⟩

/-- A REQ_SUBMIT whose tokens are still to come. -/
def wMore : Held := ⟨0, 5, 1, 0, .reqSubmit wHdr { wReqF with more := true }, true, 0, some 0⟩

/-- Group 0 with an upload. -/
def wUpload (st : Staged) : State := { wIdle with groups := [(0, { wFormed with staged := some st })] }

def wStaged : Staged := ⟨⟨5, 1, [], [(0, [1])]⟩, .uploading, none, none, 0, false⟩

def wSet : CalSet := ⟨0, 0, 0, [], [], 512, 16⟩

theorem w_fst {α β : Type} {p : α × β} {b : β} (h : p.2 = b) : p = (p.1, b) := by
  obtain ⟨x, y⟩ := p
  cases h
  rfl

def wPack : ProbePack := ⟨2, 60, [⟨0, [1], 0, 1⟩, ⟨0, [1], 0, 1⟩], 7⟩
def wRec : EvRec := ⟨7, 2, 0, 0, 0, 0, 0, 0, 0, 0, List.replicate 24 1⟩

theorem w_noFrames : 512 * sumNats (((wIdle.heard wHdr).attnOf 0).map AttnEnt.pageGranules) = 0 := by decide +kernel

def okIs {α : Type} [DecidableEq α] (x : Except Status α) (l : α) : Bool :=
  match x with
  | .ok y => decide (y = l)
  | .error _ => false

theorem w_ok {α : Type} [DecidableEq α] {x : Except Status α} {l : α} (h : okIs x l = true) : x = .ok l := by
  unfold okIs at h
  split at h
  · exact congrArg _ (of_decide_eq_true h)
  · cases h

/-- A load whose single shard is on target 15, at a given state. -/
def wLoad15 (x : ShardState) : Load :=
  { wLoad with
    manifest := { wManifest with shards := [⟨0, Crypto.sha256 [], [15], 1, 100⟩], tensors := [] }, shards := [(0, x)] }

/-- Group 0 with that load on its way. -/
def wFetch (l : Load) : State := { wDisk with insts := [(0, ⟨some wGen, some { wGen with phase := .loading, load := l }, [], 0⟩)] }

def wTried : ShardState := ⟨1, some 15, false, [15], 0, false⟩

/-- A load of two shards. -/
def wLoad2 : Load :=
  { wLoad15 wTried with
    manifest := { (wLoad15 wTried).manifest with
      shards := [⟨0, Crypto.sha256 [], [15], 1, 100⟩, ⟨0, [], [15], 1, 101⟩] } }

/-- Group 0 with a plan being verified. -/
def wCommitted (bs : List Byte) : Staged := ⟨⟨5, bs.length, Crypto.sha256 bs, [(0, bs)]⟩, .verifying, none, some (5, 1), 0, false⟩

theorem w_some {α β : Type} {p : Option α × β} (h : p.1.isSome = true) : p = (some (p.1.get h), p.2) := by
  obtain ⟨a, b⟩ := p
  cases a
  · cases h
  · rfl

theorem w_pair {α β : Type} {p : α × β} {a : α} (h : p.1 = a) : p = (a, p.2) := by
  obtain ⟨x, y⟩ := p
  cases h
  rfl

theorem w_get {α : Type} {p : Option α} (h : p.isSome = true) : p = some (p.get h) := by
  cases p
  · cases h
  · rfl

theorem w_get2 {α β : Type} {p : Option (α × β)} (h : p.isSome = true) : p = some ((p.get h).1, (p.get h).2) := by
  cases p
  · cases h
  · rfl

/-- Group 0 in a tick with a request seated. -/
def wSeated (r : Req) : State := { wRun with reqs := [{ r with slot := some 0, token := some 4 }] }

def wDesc : LoadDesc := ⟨0, 0, false, .mv4, .none, 0, 0, 0, none, 0, []⟩

def wTile : Tile := ⟨.mv4, .none, 0, 258, 0, false, 0, List.replicate 64 127, 0, [], [], wDesc⟩

def wOp : FireOp := ⟨0, 0, false, 0, 0, 0, 0, [], false⟩

def wEnv : FireEnv := ⟨[], [], [], 0⟩

def wEntry : BufEntry := { BufEntry.empty with elems := [(false, 1)], zero := false }

/-- Array A of engine 0 of core 0 holds a tile, and the engine's entry 0 is given. -/
def wFire (e : BufEntry) : State :=
  { wRun with
    arrays := [(0, { ArrayState.init with phase := .loaded, tile := some wTile })]
    engines := [(0, { EngState.init with buf := [(0, e)] })] }

def wHalf : HalfRes := ⟨List.replicate 64 0, false, false, 0⟩

def wShot : Shot := ⟨false, [], [], 0, [], []⟩

/-- An environment of no halves. -/
def wPair : PairEnv := ⟨[], []⟩

def wSplit : PendingSplit := ⟨wOp, BufEntry.empty, wShot, some wHalf, none, none, none⟩

def wReplay : PendingReplay := ⟨wOp, 2, BufEntry.empty, wShot, wHalf, []⟩

def wSlot (row : Option Nat) : SlotFire := ⟨row, 0, 0, 0, [], wPair, wPair⟩

/-- The tiles of a run whose slots are all empty. -/
def wTiles (d : LoadDesc) : List ExpertTile := [2, 2, 2, 3].map (fun n => ⟨d, [], 0, List.replicate n (wSlot none)⟩)

/-- The groups of a state run a variant of the records given. -/
def wRuns (l : List OpRec) (s : State) : State :=
  { s with
    groups := s.groups.map (fun (p : Nat × Group) => (p.1, { p.2 with
      current := p.2.current.map (fun (q : PlacedPlan) => { q with
        plan := { q.plan with variants := [{ wVariant with ops := l }] } }) })) }

/-- The next record of core 0 is of a class and unit. -/
def wTurn (cls unit : Nat) (s : State) : State := wRuns [wRecord cls unit] s

/-- Something awaits in engine 0. -/
def wEng (e : EngState) : State :=
  { wFire BufEntry.empty with engines := [(0, e)] }

/-- The engine's core is out of credit and has been refused more (R110). -/
def wPoor (s : State) : State := { s with cores := [(0, { wCore with credit := 0, noticed := true })] }

/-- The core is out of credit. -/
def wShort (s : State) : State := { s with cores := [(0, { wCore with credit := 0 })] }

/-- A Cascade tile of core 0. -/
def wCas (t : CasTile) : State := { wRun with cores := [(0, { wCore with tiles := [(0, t)] })] }

/-- A load whose granule 1 awaits its second read. -/
def wReread (todo : List Nat) : Reread := ⟨wDesc, List.replicate 258 (some 0), todo⟩

def wRereads (todo : List Nat) : State :=
  { wRun with arrays := [(0, { ArrayState.init with phase := .loading, reread := some (wReread todo) })] }

/-- Format 2: core 0 is in compatibility mode. -/
def wOld : State :=
  { wRun with groups := [(0, { wGrp with current := some { wPlaced with plan := { wPlan with format := 2 } } })] }

def errIs {α : Type} (x : Except Status α) (l : Status) : Bool :=
  match x with
  | .ok _ => false
  | .error y => decide (y = l)

theorem w_err {α : Type} {x : Except Status α} {l : Status} (h : errIs x l = true) : x = .error l := by
  unfold errIs at h
  split at h
  · cases h
  · exact congrArg _ (of_decide_eq_true h)

def wAttn : AttnEnt := ⟨0, 1, 1, 64, 64, 0, 0, 0, 0, 0x3F800000, 0, 0, 0⟩

def wPte : Pte := ⟨0, false, false, 128, 0, 0, 0⟩

def wGenA : Gen := { wGen with load := { wLoad with manifest := { wManifest with attn := [wAttn] } } }

def wCtxA : Ctx := { wCtx with state := .busy, length := 128, tables := [(0, [wPte])] }

/-- A tick of group 0 in which context 9 decodes over one page of its attention layer 0. -/
def wAtt : State :=
  { wRun with
    insts := [(0, ⟨some wGenA, none, [], 0⟩)], contexts := [(9, wCtxA)], reqs := [{ wReq with slot := some 0 }] }

theorem wAtt_active : ∀ x, (wAtt.inst 0).active = some x → x.lostLayers.contains 0 = false := by
  intro x h
  have e : (wAtt.inst 0).active = some wGenA := by decide +kernel
  rw [e] at h
  cases h
  rfl

def wPage : PageDesc :=
  { frame := 0, granules := 132, fill := 128, start := 0, prefill := false, posBase := 0, ctx := 9, layer := 0, slot := 0
    lcore := 0, span := 0, pte := 0, kv8 := false, sink := false, first := true, last := false, tag := 3, group := 0 }

/-- A tick of group 0 with its walk of layer 0 of the context in slot 0 still to come. -/
def wWalk : State :=
  let s := wTurn 0x20 0 wAtt
  { s with groups := s.groups.map (fun (p : Nat × Group) => (p.1, { p.2 with walkSlots := [(0, 9)] })) }

/-- A page as it comes, whole. -/
def wPageIn (d : PageDesc) : PageIn := ⟨d.word, (List.range 132).map (fun i => (i, (some 0, false)))⟩

/-- Core 0 has a page, and its turn. -/
def wStream (d : PageDesc) : State :=
  let s := wTurn 0x20 0 wAtt
  { s with cores := [(0, { wCore with pages := [wPageIn d] })] }

/-- A position of context 9 is to be written: the context grows by these tokens. -/
def wWrite (grow : List Nat) : State :=
  { wRuns [{ wRecord 0x19 0 with args := { wOpArgs with kv := true } }] wAtt with
    contexts := [(9, { wCtxA with length := 100, grow := grow })] }

/-- Stack 0 holds a descriptor. -/
def wDescs (l : List Nat) : State := { wAtt with stackTbl := [(0, { StackState.init with descs := l })] }

def wSpills (q : Spill) (len : Nat) : State :=
  { wAtt with
    cfg := wDisk.cfg, port := wDisk.port
    contexts := [(9, { wCtxA with backing := ⟨15, 1, 0, len⟩ })], spill := { wAtt.spill with queue := [q] } }

def wSegs (f : Fabric) : State := { wOn with fabric := { f with segTrained := true } }

def wXfer (n : Nat) (d : Bool) : State :=
  { wRun with fabric := { wRun.fabric with transfers := [⟨.core 0, .core 1, 0, 0, [], n, d⟩] } }

/-- A run of array A of engine 0 of core 0. -/
def wCal (r : CalRun) : State :=
  { wOn with arrays := [(0, { ArrayState.init with cal := { ArrayCal.init with run := some r } })] }

def wCalRun : CalRun := CalRun.queuedRun 3 0

def wFetching : ProbeFetch := ⟨5, 1, 7, ⟨0, 0, 0, 0⟩⟩

def wProbe (p : Probe) : State := { wOn with probe := p }

def wSweep : Probe := { wOn.probe with held := some wPack, sweeping := true }

def wStack (x : StackState) : State := { wOn with stackTbl := [(0, x)] }

/-- A block of nine large values. -/
def wMany : State :=
  { wRun with cores := [(0, { wCore with vreg := [(0, List.replicate 9 0x49742400 ++ List.replicate 247 0x3F800000)] })] }

/-- Every sensor has read one temperature. -/
def wTherm (t : Int) : State :=
  { wOn with
    thermal := { wOn.thermal with
      dies := (List.range 4).map (fun d => (d, { DieTherm.init with readings := (List.range 12).map (fun i => (i, t)) })) }
    stackTbl := (List.range 12).map (fun k => (k, { StackState.init with temp := some t })) }

/-- The trigger is armed for a device time. -/
def wTrig (last : Option Nat) : State :=
  (({ wOn with thermal := { wOn.thermal with armed := some 900, trigLast := last } } : State).setReg (0x20000 + Reg.TRIG_CTRL) 2)

/-- The monitor of die 0. -/
def wMon (m : DieMon) : State := { wOn with clocks := { wOn.clocks with mons := [(0, m)] } }

def wMonitor : DieMon := { DieMon.init with armed := true, window := 1000, start := 1000 }

/-- An announce of a grandmaster of better rank the smaller the number. -/
def wAnn (n : Nat) : PtpAnn := ⟨[n], n, 24⟩

/-- The counter with a master. -/
def wSync (m : Option PtpAnn) (ptp : Nat) : State := { wOn with time := { wOn.time with master := m, ptp := ptp } }

def wPort (p : Port) : State := { wOn with port := p }

def wFrame (k : FrameKind) : Frame := ⟨k, none, 0, 0, true, 64, false, true, true⟩

/-- The header of an MCT message of session 5. -/
def wHead : List Byte := Crypto.bytesLE 4 0x3154434D ++ List.replicate 4 0 ++ Crypto.bytesLE 4 5 ++ List.replicate 20 0

/-- The sender of a frame knows the session's key. -/
def wTag : List Byte := (Crypto.hmac [] wHead).take 16

/-- The block in a phase of its start. -/
def wPhase (p : Nat) : State := { wOn with boot := { wOn.boot with phase := p, isDone := false } }

/-- Converter 3 of die 3 converts entry 15 alone, input 15. -/
def wSeq : State :=
  (List.range 16).foldl (fun (s : State) e =>
    s.setReg ((Blk.mon 3).at (Reg.SEQ + 0x80 * 3 + 4 * e)) (if e = 15 then 0x2F else 0)) wOn

/-! ### Well-formed commands -/

/-- The header of a command of an opcode. -/
def hd (op : Nat) : Hdr := ⟨0, 0, 0, 0, 0, op⟩
def big : Nat := 2 ^ 512
def cf : CtxFields := ⟨0, 0, 0, 0, 0, 0, ⟨0, 0, 0, 0⟩⟩
def rf : ReqFields := { wReqF with id := 0 }
def op : FireOp := wOp
def e0 : FireEnv := wEnv
def p0 : PairEnv := wPair
/-- A reading of a column that no array has. -/
def bad : FireEnv := { e0 with dev := [(530, 1)] }
/-- An array of start-up without a reading. -/
def su : StartupReads := ⟨0, 0, false, [], [], [], [], []⟩
/-- A symbol changed by nothing. -/
def se : SymErrs := [(0, 0)]
def ld : LoadDesc := wDesc

/-- One well-formed command of every row. -/
theorem test_wellformed_1 :
    ([.sessionOpen 0 0 0 (List.replicate 16 0) 0 0 0 [] (List.replicate 16 0), .sessionConfirm (hd 0x01), .keepalive (hd 0x02),
      .sessionClose (hd 0x03), .versionQuery (hd 0x04), .sessionQuery (hd 0x05), .regRead (hd 0x10) 0 0, .regWrite (hd 0x11) 0 0 0,
      .rcRegisterRead (hd 0x10) 0, .latchingLowHalfRead (hd 0x10) 0, .cfgRead (hd 0x12) .vlan, .cfgWrite (hd 0x13) (.vlan none),
      .deviceQuery (hd 0x14), .deviceReset (hd 0x15) false, .fwBegin (hd 0x16) 0 (List.replicate 32 0), .fwData (hd 0x17) 0 [], .fwCommit (hd 0x18),
      .attestQuote (hd 0x19) (List.replicate 32 0) 0, .keyEnrol (hd 0x1A) [], .keyRevoke (hd 0x1B) 0, .groupForm (hd 0x20) 0 0,
      .groupDissolve (hd 0x21) 0, .modelLoad (hd 0x22) 0 ⟨0, 0, 0, 0⟩ [], .modelAbort (hd 0x23) 0, .instanceQuery (hd 0x24) 0,
      .instanceUnload (hd 0x25) 0 false, .loadReport (hd 0x26) 0 0, .adapterLoad (hd 0x30) 0 0 0 ⟨0, 0, 0, 0⟩ []] : List Instr).all (fun i => i.wf) = true := by decide +kernel

theorem test_wellformed_2 :
    ([.adapterUnload (hd 0x31) 0 0, .adapterQuery (hd 0x32) 0 0, .ctxCreate (hd 0x40) cf, .ctxDelete (hd 0x41) 0 0,
      .ctxSet (hd 0x42) 0 0 0 0 ⟨0, 0, 0, 0⟩, .ctxTruncate (hd 0x43) 0 0 0, .ctxSuspend (hd 0x44) 0 0, .ctxSuspendComplete 0 [],
      .ctxRestore (hd 0x45) 0 0 0 ⟨0, 0, 0, 0⟩, .ctxRestoreComplete 0 none [], .ctxQuery (hd 0x46) 0 0, .reqSubmit (hd 0x50) rf,
      .reqTokens (hd 0x51) 0 [] false, .reqTokensTimeout 0 0, .reqCancel (hd 0x52) 0, .reqQuery (hd 0x53) 0,
      .planBegin (hd 0x60) 0 0 (List.replicate 32 0), .planData (hd 0x61) 0 0 [], .planCommit (hd 0x62) 0, .planAbort (hd 0x63) 0,
      .planQuery (hd 0x64) 0, .variantForce (hd 0x65) 0 0, .planRetire (hd 0x66) 0, .balanceSet (hd 0x68) 0 Balance.init, .balanceQuery (hd 0x69) 0,
      .coreFence (hd 0x70) 0, .coreUnfence (hd 0x71) 0, .coreUnfenceTestDone 0 none []] : List Instr).all (fun i => i.wf) = true := by decide +kernel

theorem test_wellformed_3 :
    ([.probeLoad (hd 0x72) ⟨0, 0, 0, 0⟩, .probePackFetchDone none, .probeResults (hd 0x73) 0, .calRequest (hd 0x74) .package,
      .calCancel (hd 0x75) .package, .calDiscard (hd 0x76) .package 0, .redundancySet (hd 0x77) 0 false, .telemetrySet (hd 0x80) 0 0,
      .telemetryQuery (hd 0x81) 0, .telemetryReport 0, .eventRead (hd 0x82) 0 0, .eventNotify (hd 0x83) none, .evtAck (hd 0x84) 0,
      .timeQuery (hd 0x90), .epochSet (hd 0x91) 0, .hostSentDeviceOnlyOpcode (hd 0x8F) 0x8F, .unlistedOpcode (hd 0x27) 0x27,
      .mctMessageDropped false, .sessionOpenTimeout 0, .sessionInactivityTimeout 0, .deviceMessageResend 0 0,
      .engCtrlWrite (hd 0x11) 0 0 0 0, .tileSelWrite (hd 0x11) 0 0 0, .calCtrlWrite (hd 0x11) 0 0, .calBoundsWrite (hd 0x11) 0 0,
      .portReserveWrite (hd 0x11) 0 0, .evtCauseWrite (hd 0x11) 0 0, .evtMaskWrite (hd 0x11) 0 0] : List Instr).all (fun i => i.wf) = true := by decide +kernel

theorem test_wellformed_4 :
    ([.pkgThrottleWrite (hd 0x11) 0 0, .coreIdleWrite (hd 0x11) 0 0, .ringmasterMhzWrite (hd 0x11) 0 0, .pkgGateWrite (hd 0x11) 0 0,
      .dieGateWrite (hd 0x11) 0 0 0, .gateCoreWrite (hd 0x11) 0 0 0, .domCtrlWrite (hd 0x11) 0 0 0 0, .domSscWrite (hd 0x11) 0 0 0 0,
      .scrubCtrlWrite (hd 0x11) 0 0, .threshDieWrite (hd 0x11) 0 0, .threshStackWrite (hd 0x11) 0 0, .trigCtrlWrite (hd 0x11) 0 0,
      .trigTimeHiWrite (hd 0x11) 0 0, .monCalWrite (hd 0x11) 0 0, .seqWrite (hd 0x11) 0 0 0 0 0, .pipeCtrlWrite (hd 0x11) 0 0 0,
      .boundaryMarkSend 0 [], .boundaryMarkResend 0 [], .groupTickBoundary 0, .tickComplete 0 0,
      .maintenanceWindow 0, .load ld [] 0 0, .loadReread 0 0 false [] 0, .fire op e0 p0, .firePair op p0 p0,
      .fireDense op [] p0, .splitReplay 0 0 [], .fireReplay 0 0 p0 p0] : List Instr).all (fun i => i.wf) = true := by decide +kernel

theorem test_wellformed_5 :
    ([.stepReplay 0 0 [], .replayCreditTopup 0 0, .exhaustedNotice 0, .expertRun op 0 0 false [],
      .casClear 0 0 0 4 0, .cascadeGroupSum 0 0 0 [], .casDrain 0 0 none false false 0 [] 0, .casExport 0 0 0 0 [] 0,
      .casMerge 0 0 0 0 [] 0, .quant 0 (.values 0) 0 [] none false [] none, .vecElem 0 .maximum 0 [] 0, .vecTrans 0 .maximum 0 [] 0,
      .vecReduce 0 .maximum 0 [] 0, .route 0 0 0 [], .assign 0 0 0, .memRead 0 0 false [] [] (.core 0) 0 0,
      .memWrite 0 0 0 0 0 [], .xfer (.core 0) (.basin 0 0) 0 0 0 [] false,
      .transferAck (.core 0) (.core 0) 0, .transferResend (.core 0) (.core 0) 0 false,
      .attnPage 0 0 [] 0 0 0 false, .sample 0 0 0 [], .frame 0 0, .aoaClear 0 0, .aoaDrain 0 0 0, .sync 0,
      .pageWalk 0 0 0 false 0 0 false, .sluiceDescriptor 0 0 []] : List Instr).all (fun i => i.wf) = true := by decide +kernel

theorem test_wellformed_6 :
    ([.pageTablePrepare 0 0, .spillWrite 0 0 0 0, .spillWriteComplete 0 0 0 false, .balancerChooseRows 0,
      .shardFetch 0 none 0, .shardAttemptTimeout 0 none 0, .shardDigestCheck 0 none 0 [],
      .flitReceived (.router 0) 0 [] false ⟨0, 0, []⟩, .controlMessageHop 0 none 0 [], .cnSegmentRetrain 0 false,
      .coreStop 0, .stageFailover 0 1, .fabricPathFault .portEdge, .usherComputeDone 0, .calRunStart 0 0 false,
      .calStep 0 0 false [] [], .calSpareStep 0 0 false [],
      .calRowLocalisation 0 0 false [], .calRunAbandon 0 0 false, .calIntervalRequest 0 0 false,
      .probeSweepStart, .probeSegment 0 0 [], .scrubGranuleRead 0 [] [] false .free, .monitorConversion 0 0 0 0,
      .stackSensorRead 0 none, .thermalTrip 0 0, .droopEvent 0 0 0 [], .monitorTrigger (List.replicate 4 (0, 0))] : List Instr).all (fun i => i.wf) = true := by decide +kernel

theorem test_wellformed_7 :
    ([.monitorSelfCalDone 0 (List.replicate 6 (0, 0)), .clockMonitorWindow ⟨0, 0, none, false, 0⟩,
      .ringRetune 0 none, .timeSyncPulse, .ptpAnnounce ⟨[], 0, 0⟩, .ptpSync 0 0 0, .ptpAnnounceTimeout none,
      .linkTrainingAttempt 0, .linkDown, .lldpSend, .lldpReceived 0 0, .lldpTtlExpiry, .mkaRetry false,
      .addressLoss false, .announce, .ethFrameReceived (wFrame .lldp), .roceRateRecovery 0,
      .nvmeKeepAlive, .storageTargetLost 0, .storageReconnect [], .rbsySwitchLowEnd, .rstNLow,
      .powerGoodLow false, .resetRelease false (List.replicate 4 0), .thermalTripHold,
      .controlNetworkTraining [], .dieLinkTraining [], .stackTraining []] : List Instr).all (fun i => i.wf) = true := by decide +kernel

theorem test_wellformed_8 :
    ([.coreCensus [], .startupCalibration [], .ptpLockWait, .inServiceAnnounce, .bottomTreeBuildDone,
      .operatingSecondsStore, .eventRecordCommit, .discoveryStepBound none, .planVerificationEnd 0,
      .hrefclkLossUnarmedDie 0, .dieLinkRetrain 0 false false, .holdTempUpdate] : List Instr).all (fun i => i.wf) = true := by decide +kernel

/-- One ill-formed operand of each check of a command, with the rest as above. -/
theorem test_illformed_1 :
    ([.sessionOpen big 0 0 (List.replicate 16 0) 0 0 0 [] (List.replicate 16 0),
      .sessionOpen 0 big 0 (List.replicate 16 0) 0 0 0 [] (List.replicate 16 0),
      .sessionOpen 0 0 big (List.replicate 16 0) 0 0 0 [] (List.replicate 16 0),
      .sessionOpen 0 0 0 (List.replicate 16 0) big 0 0 [] (List.replicate 16 0),
      .sessionOpen 0 0 0 (List.replicate 16 0) 0 big 0 [] (List.replicate 16 0),
      .sessionOpen 0 0 0 (List.replicate 16 0) 0 0 big [] (List.replicate 16 0), .keepalive ⟨0, 0, 0, 0, big, 2⟩, .keepalive (hd big),
      .keepalive (hd 0), .sessionOpen 0 0 0 (List.replicate 16 0) 0 0 0 [] [], .sessionOpen 0 0 0 [] 0 0 0 [] (List.replicate 16 0), .sessionConfirm ⟨big, 0, 0, 0, 0, 0x01⟩,
      .keepalive ⟨big, 0, 0, 0, 0, 0x02⟩, .keepalive ⟨0, big, 0, 0, 0, 0x02⟩, .keepalive ⟨0, 0, big, 0, 0, 0x02⟩, .keepalive ⟨0, 0, 0, big, 0, 0x02⟩,
      .sessionClose ⟨big, 0, 0, 0, 0, 0x03⟩, .versionQuery ⟨big, 0, 0, 0, 0, 0x04⟩, .sessionQuery ⟨big, 0, 0, 0, 0, 0x05⟩,
      .regRead (hd 0x10) big 0, .regRead (hd 0x10) 0 big, .regRead ⟨big, 0, 0, 0, 0, 0x10⟩ 0 0, .regWrite (hd 0x11) big 0 0,
      .regWrite ⟨big, 0, 0, 0, 0, 0x11⟩ 0 0 0, .rcRegisterRead (hd 0x10) big, .rcRegisterRead ⟨big, 0, 0, 0, 0, 0x10⟩ 0,
      .latchingLowHalfRead (hd 0x10) big, .latchingLowHalfRead ⟨big, 0, 0, 0, 0, 0x10⟩ 0, .cfgRead ⟨big, 0, 0, 0, 0, 0x12⟩ .vlan,
      .cfgWrite ⟨big, 0, 0, 0, 0, 0x13⟩ (.vlan none), .deviceQuery ⟨big, 0, 0, 0, 0, 0x14⟩, .deviceReset ⟨big, 0, 0, 0, 0, 0x15⟩ false,
      .fwBegin (hd 0x16) big (List.replicate 32 0), .fwBegin ⟨big, 0, 0, 0, 0, 0x16⟩ 0 (List.replicate 32 0)] : List Instr).all (fun i => !i.wf) = true := by decide +kernel

theorem test_illformed_2 :
    ([.fwData (hd 0x17) big [], .fwData ⟨big, 0, 0, 0, 0, 0x17⟩ 0 [], .fwCommit ⟨big, 0, 0, 0, 0, 0x18⟩,
      .attestQuote (hd 0x19) (List.replicate 32 0) big, .attestQuote ⟨big, 0, 0, 0, 0, 0x19⟩ (List.replicate 32 0) 0,
      .keyEnrol ⟨big, 0, 0, 0, 0, 0x1A⟩ [], .keyRevoke (hd 0x1B) big, .keyRevoke ⟨big, 0, 0, 0, 0, 0x1B⟩ 0, .groupForm (hd 0x20) big 0,
      .groupForm (hd 0x20) 0 big, .groupForm ⟨big, 0, 0, 0, 0, 0x20⟩ 0 0, .groupDissolve (hd 0x21) big, .groupDissolve ⟨big, 0, 0, 0, 0, 0x21⟩ 0,
      .modelLoad (hd 0x22) big ⟨0, 0, 0, 0⟩ [], .modelLoad ⟨big, 0, 0, 0, 0, 0x22⟩ 0 ⟨0, 0, 0, 0⟩ [],
      .modelLoad (hd 0x22) 0 ⟨big, 0, 0, 0⟩ [], .modelLoad (hd 0x22) 0 ⟨0, big, 0, 0⟩ [], .modelLoad (hd 0x22) 0 ⟨0, 0, big, 0⟩ [],
      .modelLoad (hd 0x22) 0 ⟨0, 0, 0, big⟩ [], .modelAbort (hd 0x23) big, .modelAbort ⟨big, 0, 0, 0, 0, 0x23⟩ 0, .instanceQuery (hd 0x24) big,
      .instanceQuery ⟨big, 0, 0, 0, 0, 0x24⟩ 0, .instanceUnload (hd 0x25) big false, .instanceUnload ⟨big, 0, 0, 0, 0, 0x25⟩ 0 false,
      .loadReport (hd 0x26) big 0, .loadReport (hd 0x26) 0 big, .loadReport ⟨big, 0, 0, 0, 0, 0x26⟩ 0 0] : List Instr).all (fun i => !i.wf) = true := by decide +kernel

theorem test_illformed_3 :
    ([.adapterLoad (hd 0x30) big 0 0 ⟨0, 0, 0, 0⟩ [], .adapterLoad (hd 0x30) 0 big 0 ⟨0, 0, 0, 0⟩ [],
      .adapterLoad (hd 0x30) 0 0 big ⟨0, 0, 0, 0⟩ [], .adapterLoad ⟨big, 0, 0, 0, 0, 0x30⟩ 0 0 0 ⟨0, 0, 0, 0⟩ [],
      .adapterLoad (hd 0x30) 0 0 0 ⟨big, 0, 0, 0⟩ [], .adapterUnload (hd 0x31) big 0, .adapterUnload (hd 0x31) 0 big,
      .adapterUnload ⟨big, 0, 0, 0, 0, 0x31⟩ 0 0, .adapterQuery (hd 0x32) big 0, .adapterQuery (hd 0x32) 0 big,
      .adapterQuery ⟨big, 0, 0, 0, 0, 0x32⟩ 0 0, .ctxCreate ⟨big, 0, 0, 0, 0, 0x40⟩ cf, .ctxDelete (hd 0x41) big 0, .ctxDelete (hd 0x41) 0 big,
      .ctxDelete ⟨big, 0, 0, 0, 0, 0x41⟩ 0 0, .ctxSet (hd 0x42) big 0 0 0 ⟨0, 0, 0, 0⟩, .ctxSet (hd 0x42) 0 big 0 0 ⟨0, 0, 0, 0⟩,
      .ctxSet (hd 0x42) 0 0 big 0 ⟨0, 0, 0, 0⟩, .ctxSet (hd 0x42) 0 0 0 big ⟨0, 0, 0, 0⟩,
      .ctxSet ⟨big, 0, 0, 0, 0, 0x42⟩ 0 0 0 0 ⟨0, 0, 0, 0⟩, .ctxSet (hd 0x42) 0 0 0 0 ⟨big, 0, 0, 0⟩,
      .ctxSet (hd 0x42) 0 0 0 0 ⟨0, big, 0, 0⟩, .ctxSet (hd 0x42) 0 0 0 0 ⟨0, 0, big, 0⟩, .ctxSet (hd 0x42) 0 0 0 0 ⟨0, 0, 0, big⟩,
      .ctxTruncate (hd 0x43) big 0 0, .ctxTruncate (hd 0x43) 0 big 0, .ctxTruncate (hd 0x43) 0 0 big, .ctxTruncate ⟨big, 0, 0, 0, 0, 0x43⟩ 0 0 0] : List Instr).all (fun i => !i.wf) = true := by decide +kernel

theorem test_illformed_4 :
    ([.ctxSuspend (hd 0x44) big 0, .ctxSuspend (hd 0x44) 0 big, .ctxSuspend ⟨big, 0, 0, 0, 0, 0x44⟩ 0 0, .ctxSuspendComplete big [],
      .ctxRestore (hd 0x45) big 0 0 ⟨0, 0, 0, 0⟩, .ctxRestore (hd 0x45) 0 big 0 ⟨0, 0, 0, 0⟩,
      .ctxRestore (hd 0x45) 0 0 big ⟨0, 0, 0, 0⟩, .ctxRestore ⟨big, 0, 0, 0, 0, 0x45⟩ 0 0 0 ⟨0, 0, 0, 0⟩,
      .ctxRestore (hd 0x45) 0 0 0 ⟨big, 0, 0, 0⟩, .ctxRestoreComplete big none [], .ctxQuery (hd 0x46) big 0,
      .ctxQuery (hd 0x46) 0 big, .ctxQuery ⟨big, 0, 0, 0, 0, 0x46⟩ 0 0, .reqSubmit ⟨big, 0, 0, 0, 0, 0x50⟩ rf, .reqTokens (hd 0x51) big [] false,
      .reqTokens ⟨big, 0, 0, 0, 0, 0x51⟩ 0 [] false, .reqTokensTimeout big 0, .reqTokensTimeout 0 big, .reqCancel (hd 0x52) big,
      .reqCancel ⟨big, 0, 0, 0, 0, 0x52⟩ 0, .reqQuery (hd 0x53) big, .reqQuery ⟨big, 0, 0, 0, 0, 0x53⟩ 0,
      .planBegin (hd 0x60) big 0 (List.replicate 32 0), .planBegin (hd 0x60) 0 big (List.replicate 32 0),
      .planBegin ⟨big, 0, 0, 0, 0, 0x60⟩ 0 0 (List.replicate 32 0), .planData (hd 0x61) big 0 [], .planData (hd 0x61) 0 big [],
      .planData ⟨big, 0, 0, 0, 0, 0x61⟩ 0 0 []] : List Instr).all (fun i => !i.wf) = true := by decide +kernel

theorem test_illformed_5 :
    ([.planCommit (hd 0x62) big, .planCommit ⟨big, 0, 0, 0, 0, 0x62⟩ 0, .planAbort (hd 0x63) big, .planAbort ⟨big, 0, 0, 0, 0, 0x63⟩ 0,
      .planQuery (hd 0x64) big, .planQuery ⟨big, 0, 0, 0, 0, 0x64⟩ 0, .variantForce (hd 0x65) big 0, .variantForce (hd 0x65) 0 big,
      .variantForce ⟨big, 0, 0, 0, 0, 0x65⟩ 0 0, .planRetire (hd 0x66) big, .planRetire ⟨big, 0, 0, 0, 0, 0x66⟩ 0,
      .balanceSet (hd 0x68) big Balance.init, .balanceSet ⟨big, 0, 0, 0, 0, 0x68⟩ 0 Balance.init, .balanceQuery (hd 0x69) big,
      .balanceQuery ⟨big, 0, 0, 0, 0, 0x69⟩ 0, .coreFence (hd 0x70) big, .coreFence ⟨big, 0, 0, 0, 0, 0x70⟩ 0, .coreUnfence (hd 0x71) big,
      .coreUnfence ⟨big, 0, 0, 0, 0, 0x71⟩ 0,
      .coreUnfenceTestDone 0 none [{ su with sweep := [(546, List.replicate 56 0)] }],
      .coreUnfenceTestDone 0 none [{ su with sweep2 := [(0, [])] }], .probeLoad ⟨big, 0, 0, 0, 0, 0x72⟩ ⟨0, 0, 0, 0⟩,
      .probeLoad (hd 0x72) ⟨big, 0, 0, 0⟩, .probeResults (hd 0x73) big, .probeResults ⟨big, 0, 0, 0, 0, 0x73⟩ 0,
      .calRequest ⟨big, 0, 0, 0, 0, 0x74⟩ .package, .calRequest (hd 0x74) (.die 256), .calRequest (hd 0x74) (.core 65536)] : List Instr).all (fun i => !i.wf) = true := by decide +kernel

theorem test_illformed_6 :
    ([.calRequest (hd 0x74) (.array 65536 0 false), .calRequest (hd 0x74) (.array 0 256 false),
      .calCancel ⟨big, 0, 0, 0, 0, 0x75⟩ .package, .calCancel (hd 0x75) (.die 256), .calDiscard (hd 0x76) .package big,
      .calDiscard ⟨big, 0, 0, 0, 0, 0x76⟩ .package 0, .calDiscard (hd 0x76) (.die 256) 0, .redundancySet (hd 0x77) big false,
      .redundancySet ⟨big, 0, 0, 0, 0, 0x77⟩ 0 false, .telemetrySet (hd 0x80) big 0, .telemetrySet (hd 0x80) 0 big,
      .telemetrySet ⟨big, 0, 0, 0, 0, 0x80⟩ 0 0, .telemetryQuery (hd 0x81) big, .telemetryQuery ⟨big, 0, 0, 0, 0, 0x81⟩ 0,
      .telemetryReport big, .eventRead (hd 0x82) big 0, .eventRead (hd 0x82) 0 big, .eventRead ⟨big, 0, 0, 0, 0, 0x82⟩ 0 0,
      .eventNotify ⟨big, 0, 0, 0, 0, 0x83⟩ none, .evtAck ⟨big, 0, 0, 0, 0, 0x84⟩ 0, .timeQuery ⟨big, 0, 0, 0, 0, 0x90⟩, .epochSet (hd 0x91) big,
      .epochSet ⟨big, 0, 0, 0, 0, 0x91⟩ 0, .hostSentDeviceOnlyOpcode (hd 0x8F) big, .hostSentDeviceOnlyOpcode ⟨big, 0, 0, 0, 0, 0x8F⟩ 0x8F,
      .unlistedOpcode (hd 0x27) big, .unlistedOpcode ⟨big, 0, 0, 0, 0, 0x27⟩ 0x27, .sessionOpenTimeout big] : List Instr).all (fun i => !i.wf) = true := by decide +kernel

theorem test_illformed_7 :
    ([.sessionInactivityTimeout big, .deviceMessageResend big 0, .deviceMessageResend 0 big,
      .engCtrlWrite ⟨big, 0, 0, 0, 0, 0x11⟩ 0 0 0 0, .tileSelWrite ⟨big, 0, 0, 0, 0, 0x11⟩ 0 0 0, .calCtrlWrite ⟨big, 0, 0, 0, 0, 0x11⟩ 0 0,
      .calBoundsWrite ⟨big, 0, 0, 0, 0, 0x11⟩ 0 0, .portReserveWrite ⟨big, 0, 0, 0, 0, 0x11⟩ 0 0,
      .evtCauseWrite ⟨big, 0, 0, 0, 0, 0x11⟩ 0 0, .evtMaskWrite ⟨big, 0, 0, 0, 0, 0x11⟩ 0 0, .pkgThrottleWrite ⟨big, 0, 0, 0, 0, 0x11⟩ 0 0,
      .coreIdleWrite ⟨big, 0, 0, 0, 0, 0x11⟩ 0 0, .ringmasterMhzWrite ⟨big, 0, 0, 0, 0, 0x11⟩ 0 0,
      .pkgGateWrite ⟨big, 0, 0, 0, 0, 0x11⟩ 0 0, .dieGateWrite ⟨big, 0, 0, 0, 0, 0x11⟩ 0 0 0, .gateCoreWrite ⟨big, 0, 0, 0, 0, 0x11⟩ 0 0 0,
      .domCtrlWrite ⟨big, 0, 0, 0, 0, 0x11⟩ 0 0 0 0, .domSscWrite ⟨big, 0, 0, 0, 0, 0x11⟩ 0 0 0 0,
      .scrubCtrlWrite ⟨big, 0, 0, 0, 0, 0x11⟩ 0 0, .threshDieWrite ⟨big, 0, 0, 0, 0, 0x11⟩ 0 0,
      .threshStackWrite ⟨big, 0, 0, 0, 0, 0x11⟩ 0 0, .trigCtrlWrite ⟨big, 0, 0, 0, 0, 0x11⟩ 0 0,
      .trigTimeHiWrite ⟨big, 0, 0, 0, 0, 0x11⟩ 0 0, .monCalWrite ⟨big, 0, 0, 0, 0, 0x11⟩ 0 0, .seqWrite ⟨big, 0, 0, 0, 0, 0x11⟩ 0 0 0 0 0,
      .pipeCtrlWrite ⟨big, 0, 0, 0, 0, 0x11⟩ 0 0 0, .boundaryMarkSend 0 [0, 0], .boundaryMarkResend 0 [0, 0]] : List Instr).all (fun i => !i.wf) = true := by decide +kernel

theorem test_illformed_8 :
    ([.load ld [⟨0, se, []⟩] 0 0, .load ld [⟨0, [], [(0, 256)]⟩] 0 0, .load ld [⟨0, [], []⟩, ⟨0, [], []⟩] 0 0,
      .load ({ ld with addr := big }) [] 0 0, .load ({ ld with partner := big }) [] 0 0, .load ({ ld with layer := big }) [] 0 0,
      .load ({ ld with feeds := [256] }) [] 0 0, .loadReread 0 0 false se 0, .loadReread 0 0 false [(0, 256)] 0,
      .loadReread 0 0 false [(0, 1), (0, 2)] 0, .fire ({ op with entry := 64 }) e0 p0, .fire ({ op with tile := 64 }) e0 p0,
      .fire op bad p0, .fire op ({ e0 with dev := [(1, 1), (1, 2)] }) p0, .fire op ({ e0 with faults := [(530, true)] }) p0,
      .fire op ({ e0 with store := se }) p0, .fire op e0 ⟨[bad], []⟩, .fire op e0 ⟨[], List.replicate 6 e0⟩,
      .firePair ({ op with entry := 64 }) p0 p0, .firePair ({ op with tile := 64 }) p0 p0, .firePair op ⟨[], [bad]⟩ p0,
      .firePair op p0 ⟨List.replicate 6 e0, []⟩, .fireDense ({ op with entry := 64 }) [] p0,
      .fireDense ({ op with tile := 64 }) [] p0, .fireDense op [bad] p0, .fireDense op (List.replicate 9 e0) p0,
      .fireDense op [] ⟨[bad], []⟩, .splitReplay 0 0 [bad], .fireReplay 0 0 ⟨[bad], []⟩ p0,
      .fireReplay 0 0 p0 ⟨[], [bad]⟩, .expertRun ({ op with entry := 64 }) 0 0 false [],
      .expertRun ({ op with tile := 64 }) 0 0 false [], .cascadeGroupSum 0 0 big [], .cascadeGroupSum 0 0 0 [(24, [])],
      .cascadeGroupSum 0 0 0 [(0, se)], .cascadeGroupSum 0 0 0 [(0, []), (0, [])], .route 0 0 big []] : List Instr).all (fun i => !i.wf) = true := by decide +kernel

theorem test_illformed_9 :
    ([.assign 0 0 big, .memRead 0 big false [] [] (.core 0) 0 0, .memRead 0 0 false [] [⟨0, se, []⟩] (.core 0) 0 0,
      .memRead 0 0 false [0] [] (.core 0) 0x180000 0, .memRead 0 0 false [big] [] (.core 0) 0 0,
      .xfer (.core 0) (.basin 0 0) 0 0x2000000 1 [] false, .xfer (.core 0) (.basin 0 0) 0x180000 0 1 [] false,
      .memWrite 0 big 0 0 0 [], .memWrite 0 0 big 0 0 [], .memWrite 0 0 0 big 0 [],
      .xfer (.core 0) (.core 0) 0 0 0 [⟨0, se, []⟩] false, .attnPage 0 big [] 0 0 0 false,
      .casDrain 0 0 none false false 0 [(24, [])] 0, .casExport 0 0 0 0 [(24, [])] 0, .casMerge 0 0 0 0 [(24, [])] 0,
      .sample 0 big 0 [], .sample 0 0 big [], .frame 0 big,
      .pageWalk 0 big 0 false 0 0 false, .pageWalk 0 0 big false 0 0 false, .sluiceDescriptor 0 big [],
      .sluiceDescriptor 0 0 [⟨0, se, []⟩], .pageTablePrepare 0 big, .spillWrite 0 big 0 0,
      .spillWrite 0 0 big 0, .spillWriteComplete big 0 0 false, .spillWriteComplete 0 big 0 false,
      .shardFetch 0 none big, .shardAttemptTimeout 0 none big, .shardDigestCheck 0 none big [],
      .flitReceived (.router 0) big [] false ⟨0, 0, []⟩, .flitReceived (.router 0) 0 se false ⟨0, 0, []⟩,
      .controlMessageHop big none 0 [], .controlMessageHop 0 none big []] : List Instr).all (fun i => !i.wf) = true := by decide +kernel

theorem test_illformed_10 :
    ([.cnSegmentRetrain big false, .probeSegment 0 big [], .scrubGranuleRead 0 [(0, 0)] [] false .free,
      .scrubGranuleRead 0 [] [(0, 0)] false .free, .monitorConversion 0 0 big 0, .monitorConversion 0 0 0 big,
      .droopEvent 0 big 0 [], .droopEvent 0 0 big [], .lldpReceived 0 big, .roceRateRecovery big,
      .startupCalibration [{ su with sweep := [(546, List.replicate 56 0)] }],
      .startupCalibration [{ su with sweep2 := [(0, [])] }], .startupCalibration [{ su with rows := [[(530, 0)]] }],
      .startupCalibration [{ su with rows2 := [[(530, 0)]] }], .startupCalibration [{ su with loc := [(36, 0)] }],
      .fwBegin (hd 0x16) 0 [], .attestQuote (hd 0x19) [] 0, .planBegin (hd 0x60) 0 0 [], .calSpareStep 0 0 false [(0, [])],
      .monitorTrigger [], .monitorSelfCalDone 0 [], .resetRelease false [],
      .ctxCreate (hd 0x40) ({ cf with group := big }), .ctxCreate (hd 0x40) ({ cf with tenant := big }),
      .ctxCreate (hd 0x40) ({ cf with tag := big }), .ctxCreate (hd 0x40) ({ cf with budget := big }),
      .ctxCreate (hd 0x40) ({ cf with policy := big }), .ctxCreate (hd 0x40) ({ cf with shift := big }),
      .ctxCreate (hd 0x40) ({ cf with backing := ⟨big, 0, 0, 0⟩ })] : List Instr).all (fun i => !i.wf) = true := by decide +kernel

theorem test_illformed_11 :
    ([.reqSubmit (hd 0x50) ({ rf with id := big }), .reqSubmit (hd 0x50) ({ rf with ctx := big }),
      .reqSubmit (hd 0x50) ({ rf with tenant := big }), .reqSubmit (hd 0x50) ({ rf with reserved := big }),
      .reqSubmit (hd 0x50) ({ rf with adapter := big }), .reqSubmit (hd 0x50) ({ rf with deadline := big }),
      .reqSubmit (hd 0x50) ({ rf with maxNew := big }), .reqSubmit (hd 0x50) ({ rf with topK := big }),
      .reqSubmit (hd 0x50) ({ rf with seed := big }), .reqSubmit (hd 0x50) ({ rf with tokenCount := big }),
      .reqSubmit (hd 0x50) ({ rf with tokens := [big] }), .reqSubmit (hd 0x50) ({ rf with stops := [big] }),
      .reqSubmit (hd 0x50) ({ rf with stops := List.replicate 9 0 }), .reqTokens (hd 0x51) 0 [big] false,
      .balanceSet (hd 0x68) 0 ({ Balance.init with cap := big }),
      .balanceSet (hd 0x68) 0 ({ Balance.init with chunkMin := big }),
      .balanceSet (hd 0x68) 0 ({ Balance.init with chunkMax := big }),
      .balanceSet (hd 0x68) 0 ({ Balance.init with order := big }),
      .balanceSet (hd 0x68) 0 ({ Balance.init with passLimit := big }), .cfgWrite (hd 0x13) (.phyMode big 0),
      .cfgWrite (hd 0x13) (.phyMode 0 big), .cfgWrite (hd 0x13) (.vlan (some 4096)), .cfgWrite (hd 0x13) (.priorities [(256, 0)]),
      .cfgWrite (hd 0x13) (.priorities [(0, 256)]),
      .cfgWrite (hd 0x13) (.macsec 256 [] (List.replicate 12 0) (List.replicate 32 0) (List.replicate 16 0)),
      .cfgWrite (hd 0x13) (.macsec 0 [] [] (List.replicate 32 0) (List.replicate 16 0)),
      .cfgWrite (hd 0x13) (.macsec 0 [] (List.replicate 12 0) [] (List.replicate 16 0)),
      .cfgWrite (hd 0x13) (.macsec 0 [] (List.replicate 12 0) (List.replicate 32 0) [])] : List Instr).all (fun i => !i.wf) = true := by decide +kernel

theorem test_illformed_12 :
    ([.cfgWrite (hd 0x13) (.ipv4 (.fixed big 0 0)), .cfgWrite (hd 0x13) (.ipv4 (.fixed 0 256 0)),
      .cfgWrite (hd 0x13) (.ipv6 (.fixed 0 0 big)), .cfgWrite (hd 0x13) (.mctPort big), .cfgWrite (hd 0x13) (.announce big 0 0),
      .cfgWrite (hd 0x13) (.announce 0 big 0), .cfgWrite (hd 0x13) (.announce 0 0 big), .cfgWrite (hd 0x13) (.ptp 256 false false 0),
      .cfgWrite (hd 0x13) (.ptp 0 false false 256), .cfgWrite (hd 0x13) (.storage (List.replicate 17 none) []),
      .cfgWrite (hd 0x13) (.sessionLimit 256), .coreUnfenceTestDone 0 (some big) [], .eventNotify (hd 0x83) (some 256),
      .stepReplay 0 0 [⟨[bad], []⟩], .stepReplay 0 0 [⟨[], [bad]⟩],
      .expertRun op 0 0 false [⟨ld, [], 0, [⟨none, 64, 0, 0, [], p0, p0⟩]⟩],
      .expertRun op 0 0 false [⟨ld, [], 0, [⟨none, 0, 64, 0, [], p0, p0⟩]⟩],
      .expertRun op 0 0 false [⟨ld, [], 0, [⟨none, 0, 0, 0, [], ⟨[bad], []⟩, p0⟩]⟩],
      .expertRun op 0 0 false [⟨ld, [], 0, [⟨none, 0, 0, 0, [], p0, ⟨[], [bad]⟩⟩]⟩],
      .expertRun op 0 0 false [⟨{ ld with addr := big }, [], 0, []⟩], .expertRun op 0 0 false [⟨ld, [⟨0, se, []⟩], 0, []⟩],
      .casClear 0 0 (-2049) 4 0, .casClear 0 0 2048 4 0, .casClear 0 0 0 5 0,
      .quant 0 (.values 0) 0 [(0, 0), (0, 1)] none false [] none, .quant 0 (.values 0) 0 [(0, 64)] none false [] none, .route 0 0 0 [⟨1, none, 0⟩, ⟨1, none, 0⟩],
      .controlMessageHop 0 none 0 [[(0, 0)]], .stageFailover 0 0, .stageFailover 0 5,
      .fabricPathFault (.meshLink 0 8 1)] : List Instr).all (fun i => !i.wf) = true := by decide +kernel

theorem test_illformed_13 :
    ([.fabricPathFault (.meshLink 0 0 0), .fabricPathFault (.meshLink 0 0 5),
      .calStep 0 0 false [(530, List.replicate 56 0)] [], .calStep 0 0 false [(0, [])] [],
      .calStep 0 0 false [] [[(530, 0)]], .calSpareStep 0 0 false [(16, List.replicate 56 0)], .calRowLocalisation 0 0 false [(36, 0)],
      .droopEvent 0 0 0 [(4096, 0)], .droopEvent 0 0 0 [(0, 4096)],
      .droopEvent 0 0 0 (List.replicate 1025 (0, 0)), .monitorTrigger [(0, 0), (0, 0), (0, 0), (0, 4096)],
      .monitorSelfCalDone 0 (List.replicate 6 (0, 4096)), .clockMonitorWindow ⟨0, big, none, false, 0⟩,
      .clockMonitorWindow ⟨0, 0, none, false, big⟩, .clockMonitorWindow ⟨0, 0, some 40, false, 0⟩,
      .ptpAnnounce ⟨[], big, 0⟩, .ptpAnnounce ⟨[], 0, 256⟩, .ptpAnnounceTimeout (some ⟨[], big, 0⟩),
      .ethFrameReceived ({ wFrame .lldp with bytes := big }), .ethFrameReceived ({ wFrame .lldp with vlan := some 4096 }),
      .ethFrameReceived ({ wFrame .lldp with corrected := big }), .ethFrameReceived ({ wFrame .lldp with lost := big }),
      .ethFrameReceived (wFrame (.mct big (List.replicate 32 0) (List.replicate 16 0))),
      .ethFrameReceived (wFrame (.mct 0 [] (List.replicate 16 0))), .ethFrameReceived (wFrame (.mct 0 (List.replicate 32 0) [])),
      .ethFrameReceived (wFrame (.roce big false)), .ethFrameReceived (wFrame (.roceNak big)), .ethFrameReceived (wFrame (.cnp big)),
      .storageTargetLost 16, .storageReconnect [(16, [])], .controlNetworkTraining [256], .dieLinkTraining [(0, true, 1), (0, true, 2)],
      .stackTraining [(0, 1), (0, 2)], .coreCensus [(0, 1), (0, 2)], .discoveryStepBound (some (false, big)),
      .discoveryStepBound (some (true, big))] : List Instr).all (fun i => !i.wf) = true := by decide +kernel

/-! ### Numbers the spec works out -/

/-- The worked example of R8: the global index of D1.C3.K07. -/
def wK07 : CoreIx := 205

/-- R9: the core block of D1.C3.K07, and its engine E12 (Engine chapter). -/
theorem test_core_block : (Blk.carq wK07).base = 0x153D0000 ∧ (Blk.eng wK07 12).base = 0x153D1C00 := by decide

/-- The unit word of D1.C3.K07.E12.B (chapter 13). -/
theorem test_unit_word : unitArray 205 12 true = 0x005070ED := by decide

/-- DIE_INFO of D1 on a full-grade part (R30). -/
theorem test_die_info :
    (wOn.view (Blk.die 1) Reg.DIE_INFO).map BitVec.toNat = some 0x00009015 := by decide +kernel

/-- CORE_STATUS of D1.C3.K07 bound as logical core 205 of group 0 (R165). -/
theorem test_core_status :
    (({ wRun with
        groups := wRun.groups.map (fun p => (p.1, { p.2 with bind := [(205, 205)] }))
        cores := [(205, { wRun.core 205 with group := some 0, lcore := some 205, running := true })] } : State).view (Blk.carq wK07) 0).map BitVec.toNat
      = some 0x0000CD20 := by decide +kernel

/-- The first fire of the Engine chapter: four rows driven, output 0 with weights +3, -2, -8 and +7. -/
def wFireCells : ArrayState :=
  { ArrayState.init with cells := loadCells ArrayCal.init .mv4 ([[3], [-2], [-8], [7]].map (fun l => l ++ List.replicate 63 0)) }

def wFireAct : List (Nat × Elem) := [(0, (false, 5)), (1, (true, 3)), (2, (false, 15)), (3, (true, 7))]

/-- The readings of Tables 2-7 and 2-8. -/
def wFireReads : List Int :=
  [12, 12, 12, 12, -10, -10, -5, -2] ++ List.replicate 504 0
    ++ [-2, -5, -10, 12, 12, 12, 12, 12, 12, 12, 10, 0, 20, -10, 10, 0, 5, 0]

theorem test_fire_readings : readings wFireCells wFireAct [] = wFireReads := by decide +kernel

/-- The combined count, the checksum residual, the references, and the count when one replica reads 13. -/
theorem test_fire_counts :
    combine .mv4 wFireReads = (-148) :: List.replicate 63 0 ∧ csResidual .mv4 wFireReads [-148] = 0
      ∧ (List.range 8).map (refExpected wFireAct) = [10, 0, 20, -10, 10, 0, 5, 0]
      ∧ (combine .mv4 (wFireReads.set 2 13)).getD 0 0 = -150 := by decide +kernel

/-- The first row group of the Engine chapter's split: +9 on even rows, -6 on odd rows, weight 0 of +5. -/
def wSplitCells : ArrayState :=
  { ArrayState.init with cells := loadCells ArrayCal.init .mv4 (List.replicate 64 (5 :: List.replicate 63 0)) }

def wSplitElems : List Elem := (List.range 64).map (fun r => if r % 2 = 0 then (false, 9) else (true, 6))

/-- A group reads +96 on column 4; the four sum to +384 on each of the three slices, which combine to 1,920. -/
theorem test_split_count :
    chains wSplitCells (driven wSplitElems 0 64) 4 = (288, 192) ∧ rawReading wSplitCells (driven wSplitElems 0 64) [] 4 = 96
    ∧ combineOne .mv4 [0, 0, 0, 0, 384, 384, 0, 384] = 1920 := by decide +kernel

/-- R72: the two halves of -128 and of 127. -/
theorem test_mv8_halves : mv8Split (-128) = (-8, -8) ∧ mv8Split 127 = (7, 7) := by decide

/-- Table 3-5: the block of largest magnitude 3.3. -/
theorem test_quantise :
    let b := quantise [.fin ⟨33, 10⟩, .fin ⟨-37, 100⟩, .fin ⟨1, 10⟩, .fin ⟨5, 8⟩] 16 false true
    b.e8 = 0x7D ∧ b.elems = [(false, 13), (true, 1), (false, 0), (false, 2)] := by decide +kernel

/-- The MXFP4 block re-blocked into MV4 (R73, R80): values 0.375, -0.5, 0.09375 and -0.0625. -/
theorem test_reblock :
    [mxBlock .e2m1 0x7C [5, 14], mxBlock .e2m1 0x7A [3], mxBlock .e2m1 0x79 [14]].map (fun b => (b.getD []).map (fun v => v.mul ⟨32, 1⟩ |>.round))
      = [[12, -16], [2], [-2]]
    ∧ roundBlock [⟨3, 8⟩, ⟨-1, 2⟩, ⟨3, 32⟩, ⟨-1, 16⟩] (-8) 7 = .ok [6, -8, 2, -1] 0x7B := by decide +kernel

/-- Table 3-9: three members of one lane, one below the window, at W = -24. -/
def wCasTable : CasTile :=
  [((0 : Nat), [(⟨-148, -9⟩ : Term)]), (1, [⟨1920, -6⟩]), (2, [⟨37, -26⟩])].foldl (fun (t : CasTile) p =>
    let m := memberOf p.1 (p.2 :: List.replicate 63 []) (-24)
    t.arrive m.1 m.2) (CasTile.clear (-24) 4)

/-- The lane of the worked accumulation, its flag, and its drain to 29.7109375. -/
theorem test_cascade_lane :
    let t := wCasTable.close.1
    t.lanes.getD 0 0 = 498466816 ∧ t.ufl = true ∧ t.sat = false
      ∧ (drainLane (t.lanes.getD 0 0) (-24) none false false) = (0x41EDB000, false) := by decide +kernel

/-- The same accumulation merged from two cores. -/
theorem test_cascade_merge :
    let part := fun (l : List (Nat × Int × Int)) => (l.foldl (fun (t : CasTile) p =>
      let m := memberOf p.1 ([(⟨p.2.1, p.2.2⟩ : Term)] :: List.replicate 63 []) (-24)
      t.arrive m.1 m.2) (CasTile.clear (-24) 4))
    let r := ((part [(0, -148, -9)]).merge (part [(0, 1920, -6), (1, 37, -26)]).close.1.toExport).1
    r.lanes.getD 0 0 = 498466816 ∧ r.ufl = true := by decide +kernel

/-- Table 4-3: the outlier repair of output 0 (chapter 4), by its exact weight block. -/
def wRepairCol : List Frac :=
  (List.range 256).map (fun r => if r = 10 then ⟨45, 32⟩ else if r = 40 then ⟨-3, 16⟩ else if r = 0 then ⟨-1, 2⟩ else ⟨0, 1⟩)

theorem test_repair_tile :
    (formTile .mv4 1 ⟨6, 1⟩ [wRepairCol.map Num.fin]).map (fun t =>
        (t.scales, t.listE8, (t.codes.getD 0 []).getD 10 0, (t.codes.getD 0 []).getD 40 0))
      = some ([0x7B], 0x78, 7, -3) := by decide +kernel

/-- The three parts of the member of Table 4-3, aligned to W = -24. -/
theorem test_repair_member :
    let t : Tile := { fmt := .mv4, half := .none, addr := 0, granules := 0, partner := 0, kv := false, layer := 0, scales := [0x7B]
                      listE8 := 0x78, list := [⟨10, 0, 124⟩], full := [], desc := wDesc }
    let f : FireInput := { tile := t, codes := (List.range 256).map (fun r => [if r = 40 then -3 else 0])
                           xs := (List.range 256).map (fun r => if r = 10 then 6 else 0), e8 := 0x7D, extracted := [(40, 0xC2160000)] }
    ((countTerm f 412 0 :: rillTerms f 0).map (fun x => (x.align (-24)).1)) = [108003328, 24379392, 117964800] := by decide +kernel

/-- Table 5-2, and the targets and values in force of the example that goes on from it. -/
def wTable52 : ArrayCal :=
  { ArrayCal.init with
    sets := [(0, ⟨372, 15, 0, [(37, ⟨16, 15, 8, 0x8210, -9⟩)], [], 0, 0⟩), (1, ⟨512, 72, 0, [(37, ⟨17, 15, 8, 0x8120, -6⟩)], [], 0, 0⟩)
           , (2, ⟨688, 88, 0, [(37, ⟨19, 15, 9, 0x7F40, 2⟩)], [], 0, 0⟩)] }

theorem test_targets :
    let c := chooseTargets wTable52 628 81
    c.targets.get? 37 = some ⟨18, 15, 9, 32740, -1⟩ ∧ c.interp = true ∧ c.slotLo = 1 ∧ c.slotHi = 2 := by decide +kernel

theorem test_targets_extrapolated :
    let c := chooseTargets wTable52 628 30
    c.targets.get? 37 = some ⟨19, 15, 9, 0x7F40, 2⟩ ∧ c.extrap = true := by decide +kernel

theorem test_gradual : gradual ⟨17, 15, 8, 32430, -4⟩ ⟨18, 15, 9, 32740, -1⟩ 100 = ⟨18, 15, 9, 32740, -1⟩ := by decide +kernel

/-- Table 6-8: four rows, three experts of one pool group, CAPACITY 2 and POOL 1. -/
theorem test_assign :
    let g := fun (n : Int) => fpOfFrac ⟨n, 10⟩
    let m : MoeEnt := ⟨0, 3, 0, 2, 4, 2, 1, 0⟩
    let rows : List RouteRow := [⟨0, none, [(0, g 6), (1, g 3)]⟩, ⟨1, none, [(0, g 5), (2, g 4)]⟩, ⟨2, none, [(0, g 7), (1, g 2)]⟩
      , ⟨3, none, [(1, g 5), (0, g 4)]⟩]
    (assignRows m rows).placed.map (fun p => (p.row, p.expert, p.pool))
        = [(0, 0, false), (1, 0, false), (2, 0, true), (3, 1, false), (0, 1, false), (1, 2, false)]
      ∧ (assignRows m rows).drops = [(2, 1), (3, 0)] ∧ unrouted rows (assignRows m rows) = []
      ∧ (rescale rows (assignRows m rows)).map (·.gate) = [g 6, g 5, g 9, g 9, g 3, g 4] := by decide +kernel

/-- Table 8-6: page 2 is evicted. -/
theorem test_victim :
    (victimOf ([(0, 0x1A00), (1, 0x0420), (2, 0x02FA), (5, 0x02FA), (6, 0), (7, 0), (8, 0), (9, 0)].map (fun p =>
      ({ wPte with page := p.1, score := p.2, sink := p.1 == 0 } : Pte)))).map (·.page) = some 2 := by decide +kernel

/-- R215: the score of page 5. -/
theorem test_score : newScore 752 924 4 = 762 := by decide

/-- The boundary after device time 1,700,000,000,012,345,678 ns at 32 ms and EPOCH 0 (R306). -/
theorem test_boundary_grid : gridAt 0 32000000 1700000000012345678 = 1700000000032000000 := by decide +kernel

/-- The full recorder of chapter 15: a WARN record replaces the oldest INFO record; an INFO record then finds none. -/
theorem test_recorder_victim :
    let warn := fun (n : Nat) => { wRec with severity := sevWarn, seq := n }
    let info := fun (n : Nat) => { wRec with severity := sevInfo, seq := n }
    (({ wOn.nvm with records := [warn 9, info 5001200, warn 5001201, info 5001300] } : Nvm).victim sevWarn).map (·.seq) = some 5001200
      ∧ (({ wOn.nvm with records := [warn 9, warn 5001201] } : Nvm).victim sevInfo).isNone = true := by decide +kernel

/-- EVT_CAUSE 0x0480 (R295): a holdover and a thermal warning pull EVT_N low under the reset mask. -/
theorem test_evt_low :
    (wOn.setReg (Blk.port.at Reg.EVT_CAUSE) 0x480).evtLow = true := by decide +kernel

theorem witness_IdleClock :
    (∃ (s : State), s.pending = [] ∧ s.counting = false)
    ∧ (∃ (s : State), s.thermal.tripped = true)
    ∧ (∃ (s : State), s.pending = [] ∧ s.counting = true) :=
  ⟨⟨State.reset, by decide +kernel⟩
  , ⟨{ wOn with thermal := { wOn.thermal with tripped := true } }, by decide +kernel⟩
  , ⟨wOn, by decide +kernel⟩⟩

theorem witness_SessionOpens :
    ∃ (s : State), ∃ (_src _ver key : Nat), ∃ (nonce : List Byte), ∃ (mct _plans _manifests : Nat),
    ∃ (signed tag : List Byte), ∃ (k : OpKey), ∃ (v : Nat), s.portOpen = true ∧ s.port.announced = true
    ∧ s.keyOf key = some k ∧ (Crypto.hmac (openKey k.secret nonce) signed).take 16 = tag
    ∧ (s.nonces.getD key []).contains nonce = false ∧ (s.boot.inRom = false ∨ k.roles.testBit 2 = true)
    ∧ topBit 8 (mct &&& formatsMct) = some v ∧ (s.sessions.filter (·.isOpen)).length < s.cfg.sessionLimit :=
  ⟨wOn, 0, 3, 7, [], 255, 255, 7, [], _, wKey, 3, by decide +kernel, by decide +kernel, rfl, rfl,
    by decide +kernel, by decide +kernel, by decide +kernel, by decide +kernel⟩

theorem witness_SessionCommands :
    (∃ (s : State), ∃ (h : Hdr), ∃ (x : Session), Admitted s h (.sessionConfirm h)
      ∧ (s.heard h).session? h.sess = some x ∧ x.isOpen = false)
    ∧ (∃ (s : State), ∃ (h : Hdr), Admitted s h (.keepalive h))
    ∧ (∃ (s : State), ∃ (h : Hdr), Admitted s h (.versionQuery h))
    ∧ (∃ (s : State), ∃ (h : Hdr), ∃ (x : Session), Admitted s h (.sessionQuery h)
      ∧ (s.heard h).session? h.sess = some x)
    ∧ (∃ (s : State), ∃ (h : Hdr), Admitted s h (.sessionClose h)) :=
  ⟨⟨wAt { wSess with isOpen := false }, wHdr, _, admitted_of (by decide +kernel), rfl, by decide +kernel⟩
  , ⟨wOn, wHdr, admitted_of (by decide +kernel)⟩
  , ⟨wOn, wHdr, admitted_of (by decide +kernel)⟩
  , ⟨wOn, wHdr, _, admitted_of (by decide +kernel), rfl⟩
  , ⟨wOn, wHdr, admitted_of (by decide +kernel)⟩⟩

theorem witness_SequenceWindow :
    (∃ (s : State), ∃ (_h : Hdr), ∃ (_i : Instr), s.portOpen = false)
    ∧ (∃ (s : State), ∃ (h : Hdr), ∃ (_i : Instr), s.portOpen = true ∧ s.session? h.sess = none)
    ∧ (∃ (s : State), ∃ (h : Hdr), ∃ (_i : Instr), ∃ (x : Session), s.portOpen = true ∧ s.session? h.sess = some x
      ∧ x.expect < h.seq ∧ h.seq ≤ x.expect + 255 ∧ x.early.any (fun j => seqOf j == h.seq) = false)
    ∧ (∃ (s : State), ∃ (h : Hdr), ∃ (_i : Instr), ∃ (x : Session), s.portOpen = true ∧ s.session? h.sess = some x
      ∧ h.seq < x.expect ∧ x.expect ≤ h.seq + 256 ∧ ∃ (a b : Nat), ∃ (st : Status), ∃ (d tg : Nat),
      ∃ (body : List Nat), ∃ (rs : Bool), x.replies.find? (fun p => p.1 == h.seq) = some (h.seq,
      .reply a b st d tg body rs))
    ∧ (∃ (s : State), ∃ (h : Hdr), ∃ (_i : Instr), ∃ (x : Session), s.portOpen = true ∧ s.session? h.sess = some x
      ∧ (x.expect + 255 < h.seq ∨ h.seq + 256 < x.expect)) :=
  ⟨⟨State.reset, wHdr, .keepalive wHdr, by decide +kernel⟩
  , ⟨wOn, ⟨6, 1, 0, 0, 0, 0⟩, .keepalive ⟨6, 1, 0, 0, 0, 0⟩, by decide +kernel⟩
  , ⟨wOn, ⟨5, 256, 0, 0, 0, 0⟩, .keepalive ⟨5, 256, 0, 0, 0, 0⟩, wSess, by decide +kernel⟩
  , ⟨wAt { wSess with expect := 257, replies := [(1, .reply 5 1 .ok 0 0 [] false)] }, wHdr, .keepalive wHdr,
    { wSess with expect := 257, replies := [(1, .reply 5 1 .ok 0 0 [] false)] }, by decide +kernel,
    by decide +kernel, by decide +kernel, by decide +kernel, 5, 1, .ok, 0, 0, [], false, by decide +kernel⟩
  , ⟨wOn, ⟨5, 257, 0, 0, 0, 0⟩, .keepalive ⟨5, 257, 0, 0, 0, 0⟩, wSess, by decide +kernel⟩⟩

theorem witness_HostCommandsReceived :
    (∃ (i : Instr), ∃ (o : OpInfo), ∃ (_s : State), opInfo i = some o ∧ (∀ h op,
      i = .hostSentDeviceOnlyOpcode h op → deviceOnly op = true) ∧ (∀ h op,
      i = .unlistedOpcode h op → opcodeListed op = false ∧ deviceOnly op = false))
    ∧ (∃ (i : Instr), ∃ (o : OpInfo), ∃ (s : State), ∃ (x y : Session), ∃ (st : Status), opInfo i = some o
      ∧ s.portOpen = true ∧ s.session? o.h.sess = some x ∧ o.h.seq = x.expect ∧ x.early = []
      ∧ (s.heard o.h).session? o.h.sess = some y ∧ (s.heard o.h).preCheck y i o = some st)
    ∧ (∃ (s : State), ∃ (sess _seq : Nat), ∃ (_st : Status), ∃ (_d _tag : Nat), ∃ (_body : List Nat),
      ∃ (x : Session), s.session? sess = some x)
    ∧ (∃ (s : State), ∃ (sess seq : Nat), ∃ (_st : Status), ∃ (_d _tag : Nat), ∃ (_body : List Nat),
      ∃ (x : Session), ∃ (src op : Nat), s.session? sess = some x ∧ x.calls.get? seq = some (src, op)
      ∧ s.portOpen = true)
    ∧ (∃ (_s : State), ∃ (h : Hdr), ∃ (y : Nat), y ≠ h.sess)
    ∧ (∃ (s : State), ∃ (h : Hdr), ∃ (x : Session), s.session? h.sess = some x) :=
  ⟨⟨.keepalive wHdr, _, wOn, rfl, (fun _ _ e => by cases e), (fun _ _ e => by cases e)⟩
  , ⟨.unlistedOpcode wHdr 0x7F, _, wOn, wSess, _, .version, rfl, by decide +kernel, rfl, by decide +kernel,
    by decide +kernel, rfl, by decide +kernel⟩
  , ⟨wOn, 5, 1, .ok, 0, 0, [], wSess, by decide +kernel⟩
  , ⟨wAt { wSess with calls := [(1, 9, 2)] }, 5, 1, .ok, 0, 0, [], { wSess with calls := [(1, 9, 2)] }, 9, 2,
    by decide +kernel⟩
  , ⟨wOn, wHdr, 6, by decide +kernel⟩
  , ⟨wOn, wHdr, wSess, by decide +kernel⟩⟩

theorem witness_ReceiptChecks :
    (∃ (_s : State), ∃ (_x : Session), ∃ (_i : Instr), ∃ (o : OpInfo), 0xFFFFFF00 < o.h.seq)
    ∧ (∃ (_s : State), ∃ (_x : Session), ∃ (h : Hdr), ∃ (op : Nat), h.seq ≤ 0xFFFFFF00 ∧ deviceOnly op = true)
    ∧ (∃ (_s : State), ∃ (_x : Session), ∃ (h : Hdr), ∃ (op : Nat), h.seq ≤ 0xFFFFFF00 ∧ deviceOnly op = false
      ∧ opcodeListed op = false)
    ∧ (∃ (_s : State), ∃ (x : Session), ∃ (_i : Instr), ∃ (o : OpInfo), o.h.seq ≤ 0xFFFFFF00
      ∧ deviceOnly o.opcode = false ∧ opcodeListed o.opcode = true ∧ x.version < o.version)
    ∧ (∃ (s : State), ∃ (x : Session), ∃ (i : Instr), ∃ (o : OpInfo), ∃ (r : Nat), ∃ (k : OpKey),
      o.h.seq ≤ 0xFFFFFF00 ∧ deviceOnly o.opcode = false ∧ opcodeListed o.opcode = true ∧ o.version ≤ x.version
      ∧ flagsLack x.version i = false ∧ x.isOpen = true ∧ s.boot.isDone = true ∧ o.role = some r
      ∧ s.keyOf x.key = some k ∧ k.roles.testBit r = false)
    ∧ (∃ (s : State), ∃ (h : Hdr), ∃ (op : Nat), ∃ (x y : Session), deviceOnly op = true ∧ h.seq ≤ 0xFFFFFF00
      ∧ s.session? h.sess = some x ∧ h.seq = x.expect ∧ x.early = [] ∧ (s.heard h).session? h.sess = some y)
    ∧ (∃ (s : State), ∃ (h : Hdr), ∃ (op : Nat), ∃ (x y : Session), deviceOnly op = false
      ∧ opcodeListed op = false ∧ h.seq ≤ 0xFFFFFF00 ∧ s.session? h.sess = some x ∧ h.seq = x.expect
      ∧ x.early = [] ∧ (s.heard h).session? h.sess = some y) :=
  ⟨⟨wOn, wSess, .keepalive ⟨5, 0xFFFFFF01, 0, 0, 0, 0⟩, ⟨⟨5, 0xFFFFFF01, 0, 0, 0, 0⟩, 2, 1, none, false⟩, by decide +kernel⟩
  , ⟨wOn, wSess, ⟨5, 0xFFFFFF00, 0, 0, 0, 0⟩, 0x0F, by decide +kernel⟩
  , ⟨wOn, wSess, ⟨5, 0xFFFFFF00, 0, 0, 0, 0⟩, 0x27, by decide +kernel⟩
  , ⟨wOn, { wSess with version := 1 }, .timeQuery wHdr, ⟨wHdr, 0x90, 2, some 0, false⟩, by decide +kernel⟩
  , ⟨{ wOn with nvm := { wOn.nvm with keys := [(1, { wKey with roles := 3 })] } }, wSess, .evtAck wHdr 0, ⟨wHdr,
    0x84, 1, some 2, false⟩, 2, { wKey with roles := 3 }, by decide +kernel⟩
  , ⟨wOn, wHdr, 0x8F, wSess, _, by decide +kernel, by decide +kernel, rfl, by decide +kernel, by decide +kernel,
    rfl⟩
  , ⟨wOn, wHdr, 0x06, wSess, _, by decide +kernel, by decide +kernel, by decide +kernel, rfl, by decide +kernel,
    by decide +kernel, rfl⟩⟩

theorem witness_RegisterReads :
    (∃ (s : State), ∃ (h : Hdr), ∃ (a n : Nat), Admitted s h (.regRead h a n) ∧ a % 4 = 0 ∧ 0 < n ∧ n ≤ 1024
      ∧ a + 4 * (n - 1) ≤ 0xFFFFFFFC ∧ (∀ i, i < n → ∀ b o, locate (a + 4 * i) = some (b,
      o) → (s.heard h).blkDisabled b = false))
    ∧ (∃ (s : State), ∃ (h : Hdr), ∃ (a n i : Nat), ∃ (b : Blk), ∃ (o : Nat), Admitted s h (.regRead h a n)
      ∧ a % 4 = 0 ∧ 0 < n ∧ n ≤ 1024 ∧ a + 4 * (n - 1) ≤ 0xFFFFFFFC ∧ i < n ∧ locate (a + 4 * i) = some (b, o)
      ∧ (s.heard h).blkDisabled b = true)
    ∧ (∃ (s : State), ∃ (h : Hdr), ∃ (a n : Nat), Admitted s h (.regRead h a n) ∧ (a % 4 ≠ 0 ∨ n = 0 ∨ 1024 < n))
    ∧ (∃ (s : State), ∃ (h : Hdr), ∃ (a : Nat), ∃ (b : Blk), ∃ (o : Nat), ∃ (r : RegDesc),
      Admitted s h (.rcRegisterRead h a) ∧ a % 4 = 0 ∧ a ≤ 0xFFFFFFFC ∧ locate a = some (b, o) ∧ b.find o = some r
      ∧ r.acc = .rc ∧ (s.heard h).blkDisabled b = false ∧ (s.heard h).live64 b o = none
      ∧ (s.heard h).view b o = none)
    ∧ (∃ (s : State), ∃ (h : Hdr), Admitted s h (.latchingLowHalfRead h 0x30004))
    ∧ (∃ (s : State), ∃ (h : Hdr), ∃ (a : Nat), ∃ (b : Blk), ∃ (o : Nat), ∃ (r : RegDesc), ∃ (v : Nat),
      Admitted s h (.latchingLowHalfRead h a) ∧ a % 4 = 0 ∧ a ≤ 0xFFFFFFFC ∧ locate a = some (b, o) ∧ b ≠ .time
      ∧ b.find o = some r ∧ r.acc = .ro ∧ (s.heard h).blkDisabled b = false ∧ (s.heard h).live64 b o = some v) :=
  ⟨⟨wOn, wHdr, 0xFFFFFFFC, 1, admitted_of (by decide +kernel), by decide +kernel, by decide +kernel,
    by decide +kernel, by decide +kernel,
    (fun i hi b o e => by have hz : i = 0 := (by omega); subst hz; rw [show locate (0xFFFFFFFC + 4 * 0) = none from (by decide)] at e; cases e)⟩
  , ⟨{ wOn with boot := { wOn.boot with goodValid := false } }, wHdr, 0x11001000, 1024, 0, (Blk.eng 0 0), 0,
    admitted_of (by decide +kernel), by decide +kernel⟩
  , ⟨wOn, wHdr, 0x30004, 1025, admitted_of (by decide +kernel), by decide +kernel⟩
  , ⟨wOn, wHdr, 0x40014, .port, 0x14, _, admitted_of (by decide +kernel), by decide +kernel, by decide +kernel,
    by decide +kernel, rfl, by decide +kernel⟩
  , ⟨wOn, wHdr, admitted_of (by decide +kernel)⟩
  , ⟨wOn, wHdr, 0x40028, .port, 0x28, _, 0, admitted_of (by decide +kernel), by decide +kernel, by decide +kernel,
    by decide +kernel, by decide +kernel, rfl, by decide +kernel⟩⟩

theorem witness_RegisterWrites :
    (∃ (s : State), ∃ (h : Hdr), ∃ (a : Nat), ∃ (b : Blk), ∃ (o : Nat), ∃ (r : RegDesc), ∃ (v m : Word),
      Admitted s h (.regWrite h a v m) ∧ a % 4 = 0 ∧ a ≤ 0xFFFFFFFC ∧ locate a = some (b, o)
      ∧ (s.heard h).blkDisabled b = false ∧ b.find o = some r ∧ (r.acc = .rw ∨ r.acc = .wo) ∧ plainBlk b = true)
    ∧ (∃ (s : State), ∃ (h : Hdr), ∃ (a : Nat), ∃ (b : Blk), ∃ (o : Nat), ∃ (v m : Word),
      Admitted s h (.regWrite h a v m) ∧ a % 4 = 0 ∧ a ≤ 0xFFFFFFFC ∧ locate a = some (b, o)
      ∧ (s.heard h).blkDisabled b = false ∧ (b.find o = none ∨ ∃ r, b.find o = some r
      ∧ (r.acc = .ro ∨ r.acc = .rc)))
    ∧ (∃ (s : State), ∃ (h : Hdr), ∃ (a : Nat), ∃ (b : Blk), ∃ (o : Nat), ∃ (v m : Word),
      Admitted s h (.regWrite h a v m) ∧ a % 4 = 0 ∧ a ≤ 0xFFFFFFFC ∧ locate a = some (b, o)
      ∧ (s.heard h).blkDisabled b = true)
    ∧ (∃ (s : State), ∃ (h : Hdr), ∃ (a : Nat), ∃ (v m : Word), Admitted s h (.regWrite h a v m) ∧ a % 4 ≠ 0) :=
  ⟨⟨wOn, wHdr, 0x60008, .usher, 8, _, 0, 0, admitted_of (by decide +kernel), by decide +kernel, by decide +kernel,
    by decide +kernel, by decide +kernel, rfl, by decide +kernel⟩
  , ⟨wOn, wHdr, 0x40000, .port, 0, 0, 0, admitted_of (by decide +kernel), by decide +kernel⟩
  , ⟨{ wOn with boot := { wOn.boot with goodValid := false } }, wHdr, 0x11001000, (Blk.eng 0 0), 0, 0, 0,
    admitted_of (by decide +kernel), by decide +kernel⟩
  , ⟨wOn, wHdr, 0x10001, 0, 0, admitted_of (by decide +kernel), by decide +kernel⟩⟩

theorem witness_RegisterRowsAtOnce :
    (∃ (s : State), ∃ (h : Hdr), ∃ (c : CoreIx), ∃ (v m : Word), Admitted s h (.tileSelWrite h c v m)
      ∧ (s.heard h).enabled c.val = true)
    ∧ (∃ (s : State), ∃ (h : Hdr), ∃ (v m : Word), Admitted s h (.portReserveWrite h v m))
    ∧ (∃ (s : State), ∃ (h : Hdr), ∃ (v m : Word), Admitted s h (.evtMaskWrite h v m))
    ∧ (∃ (s : State), ∃ (h : Hdr), ∃ (v m : Word), Admitted s h (.evtCauseWrite h v m))
    ∧ (∃ (s : State), ∃ (h : Hdr), ∃ (v m : Word), Admitted s h (.scrubCtrlWrite h v m))
    ∧ (∃ (s : State), ∃ (h : Hdr), ∃ (v m : Word), Admitted s h (.ringmasterMhzWrite h v m)
      ∧ (s.heard h).clocks.safe = false)
    ∧ (∃ (s : State), ∃ (h : Hdr), ∃ (v m : Word), Admitted s h (.pkgThrottleWrite h v m))
    ∧ (∃ (s : State), ∃ (h : Hdr), ∃ (v m : Word), Admitted s h (.trigCtrlWrite h v m))
    ∧ (∃ (s : State), ∃ (h : Hdr), ∃ (v m : Word), Admitted s h (.trigTimeHiWrite h v m))
    ∧ (∃ (s : State), ∃ (h : Hdr), ∃ (v m : Word), Admitted s h (.threshDieWrite h v m))
    ∧ (∃ (s : State), ∃ (h : Hdr), ∃ (v m : Word), Admitted s h (.threshStackWrite h v m))
    ∧ (∃ (_old _new : Word), ∃ (a b : Nat), a + 5 ≤ b ∧ b < 256) :=
  ⟨⟨wOn, wHdr, 575, 0, 0, admitted_of (by decide +kernel), by decide +kernel⟩
  , ⟨wOn, wHdr, 0, 0, admitted_of (by decide +kernel)⟩
  , ⟨wOn, wHdr, 0, 0, admitted_of (by decide +kernel)⟩
  , ⟨wOn, wHdr, 0, 0, admitted_of (by decide +kernel)⟩
  , ⟨wOn, wHdr, 0, 0, admitted_of (by decide +kernel)⟩
  , ⟨wOn, wHdr, 2047, 2047, admitted_of (by decide +kernel), by decide +kernel⟩
  , ⟨wRun, wHdr, 400, 2047, admitted_of (by decide +kernel)⟩
  , ⟨wOn, wHdr, 0, 0, admitted_of (by decide +kernel)⟩
  , ⟨wOn, wHdr, 0, 0, admitted_of (by decide +kernel)⟩
  , ⟨wOn, wHdr, 0, 0, admitted_of (by decide +kernel)⟩
  , ⟨wOn, wHdr, 0, 0, admitted_of (by decide +kernel)⟩
  , ⟨0, 0, 250, 255, by decide +kernel⟩⟩

theorem witness_RegisterRowsJudged :
    (∃ (s : State), ∃ (h : Hdr), ∃ (c : CoreIx), ∃ (e : EngIx), ∃ (v m : Word),
      Admitted s h (.engCtrlWrite h c e v m) ∧ (s.heard h).enabled c.val = true
      ∧ ((s.heard h).core c.val).group = none)
    ∧ (∃ (s : State), ∃ (h : Hdr), ∃ (c : CoreIx), ∃ (e : EngIx), ∃ (v m : Word),
      Admitted s h (.engCtrlWrite h c e v m) ∧ (s.heard h).enabled c.val = true ∧ ∃ (g : Nat),
      ((s.heard h).core c.val).group = some g ∧ ((s.heard h).grp g).current.isSome = true)
    ∧ (∃ (s : State), ∃ (h : Hdr), ∃ (v m : Word), Admitted s h (.calCtrlWrite h v m)
      ∧ (s.heard h).anyRuns = false)
    ∧ (∃ (s : State), ∃ (h : Hdr), ∃ (v m : Word), Admitted s h (.calCtrlWrite h v m)
      ∧ (s.heard h).anyRuns = true)
    ∧ (∃ (s : State), ∃ (h : Hdr), ∃ (v m : Word), Admitted s h (.calBoundsWrite h v m)
      ∧ (s.heard h).anyRuns = false)
    ∧ (∃ (s : State), ∃ (h : Hdr), ∃ (v m : Word), Admitted s h (.calBoundsWrite h v m)
      ∧ (s.heard h).anyRuns = true)
    ∧ (∃ (s : State), ∃ (h : Hdr), ∃ (d : DieIx), ∃ (j : Fin 9), ∃ (v m : Word),
      Admitted s h (.domSscWrite h d j v m) ∧ j.val < 2 ∧ (s.heard h).dieGroups d.val = [])
    ∧ (∃ (s : State), ∃ (h : Hdr), ∃ (d : DieIx), ∃ (j : Fin 9), ∃ (v m : Word),
      Admitted s h (.domSscWrite h d j v m) ∧ j.val < 2 ∧ (s.heard h).dieGroups d.val ≠ [])
    ∧ (∃ (s : State), ∃ (h : Hdr), ∃ (d : DieIx), ∃ (j : Fin 9), ∃ (v m : Word),
      Admitted s h (.domSscWrite h d j v m) ∧ 2 ≤ j.val)
    ∧ (∃ (s : State), ∃ (h : Hdr), ∃ (v m : Word), Admitted s h (.coreIdleWrite h v m))
    ∧ (∃ (s : State), ∃ (h : Hdr), ∃ (d : DieIx), ∃ (j : Fin 9), ∃ (v m : Word),
      Admitted s h (.domCtrlWrite h d j v m))
    ∧ (∃ (s : State), ∃ (h : Hdr), ∃ (v m : Word), Admitted s h (.pkgGateWrite h v m)
      ∧ let g := (s.heard h).clocks.gates;
      let w := (mergeWrite (word (flag g.pkg + 2 * (g.dies % 16))) v m 0x1F).toNat;
      let new : Gates := { g with pkg := decide (w % 2 = 1), dies := w / 2 % 16 }; (s.heard h).gatesOk new = true)
    ∧ (∃ (s : State), ∃ (h : Hdr), ∃ (v m : Word), Admitted s h (.pkgGateWrite h v m)
      ∧ let g := (s.heard h).clocks.gates;
      let w := (mergeWrite (word (flag g.pkg + 2 * (g.dies % 16))) v m 0x1F).toNat;
      let new : Gates := { g with pkg := decide (w % 2 = 1), dies := w / 2 % 16 };
      (s.heard h).gatesOk new = false)
    ∧ (∃ (s : State), ∃ (h : Hdr), ∃ (d : DieIx), ∃ (v m : Word), Admitted s h (.dieGateWrite h d v m)
      ∧ let g := (s.heard h).clocks.gates;
      let w := (mergeWrite (word (flag (g.dies.testBit d.val) + 256 * (g.clusters / 2 ^ (8 * d.val) % 256))) v m 0xFF01).toNat;
      let new : Gates := { g with dies := setBits g.dies d.val 1 w, clusters := setBits g.clusters (8 * d.val) 8 (w / 256) };
      (s.heard h).gatesOk new = true)
    ∧ (∃ (s : State), ∃ (h : Hdr), ∃ (d : DieIx), ∃ (v m : Word), Admitted s h (.dieGateWrite h d v m)
      ∧ let g := (s.heard h).clocks.gates;
      let w := (mergeWrite (word (flag (g.dies.testBit d.val) + 256 * (g.clusters / 2 ^ (8 * d.val) % 256))) v m 0xFF01).toNat;
      let new : Gates := { g with dies := setBits g.dies d.val 1 w, clusters := setBits g.clusters (8 * d.val) 8 (w / 256) };
      (s.heard h).gatesOk new = false)
    ∧ (∃ (s : State), ∃ (h : Hdr), ∃ (d : DieIx), ∃ (v m : Word), Admitted s h (.gateCoreWrite h d v m)
      ∧ let sel := ((s.heard h).reg ((Blk.dieClk d).at 0x104)).toNat % 256; let c := d.val * 144 + sel;
      (144 ≤ sel ∨ (s.heard h).good c = false))
    ∧ (∃ (s : State), ∃ (h : Hdr), ∃ (d : DieIx), ∃ (v m : Word), Admitted s h (.gateCoreWrite h d v m)
      ∧ let sel := ((s.heard h).reg ((Blk.dieClk d).at 0x104)).toNat % 256; let c := d.val * 144 + sel;
      let g := (s.heard h).clocks.gates; let w := (mergeWrite (word ((s.heard h).gateWord c)) v m 0x1FFFF).toNat;
      let new : Gates := { g with cores := setBits g.cores c 1 w, engines := g.engines.put c (w / 2 % 65536) };
      sel < 144 ∧ (s.heard h).good c = true ∧ (s.heard h).gatesOk new = true)
    ∧ (∃ (s : State), ∃ (h : Hdr), ∃ (d : DieIx), ∃ (v m : Word), Admitted s h (.gateCoreWrite h d v m)
      ∧ let sel := ((s.heard h).reg ((Blk.dieClk d).at 0x104)).toNat % 256; let c := d.val * 144 + sel;
      let g := (s.heard h).clocks.gates; let w := (mergeWrite (word ((s.heard h).gateWord c)) v m 0x1FFFF).toNat;
      let new : Gates := { g with cores := setBits g.cores c 1 w, engines := g.engines.put c (w / 2 % 65536) };
      sel < 144 ∧ (s.heard h).good c = true ∧ (s.heard h).gatesOk new = false)
    ∧ (∃ (s : State), ∃ (h : Hdr), ∃ (d : DieIx), ∃ (k : Fin 4), ∃ (e : Fin 16), ∃ (v m : Word),
      Admitted s h (.seqWrite h d k e v m) ∧ let a := (Blk.mon d).at (0x100 + 0x80 * k.val + 4 * e.val);
      let s1 := (s.heard h).setReg a (mergeWrite ((s.heard h).reg a) v m 0x3F); s1.seqOk d = true)
    ∧ (∃ (s : State), ∃ (h : Hdr), ∃ (d : DieIx), ∃ (k : Fin 4), ∃ (e : Fin 16), ∃ (v m : Word),
      Admitted s h (.seqWrite h d k e v m) ∧ let a := (Blk.mon d).at (0x100 + 0x80 * k.val + 4 * e.val);
      let s1 := (s.heard h).setReg a (mergeWrite ((s.heard h).reg a) v m 0x3F); s1.seqOk d = false)
    ∧ (∃ (s : State), ∃ (h : Hdr), ∃ (v m : Word), Admitted s h (.monCalWrite h v m))
    ∧ (∃ (s : State), ∃ (h : Hdr), ∃ (d : DieIx), ∃ (v m : Word), Admitted s h (.pipeCtrlWrite h d v m)) :=
  ⟨⟨wOn, wHdr, 0, 15, 0, 0, admitted_of (by decide +kernel), by decide +kernel⟩
  , ⟨wRun, wHdr, 0, 0, 0, 0, admitted_of (by decide +kernel), by decide +kernel, 0, by decide +kernel⟩
  , ⟨wOn, wHdr, 0, 0, admitted_of (by decide +kernel), by decide +kernel⟩
  , ⟨wRun, wHdr, 0, 0, admitted_of (by decide +kernel), by decide +kernel⟩
  , ⟨wOn, wHdr, 0, 0, admitted_of (by decide +kernel), by decide +kernel⟩
  , ⟨wRun, wHdr, 0, 0, admitted_of (by decide +kernel), by decide +kernel⟩
  , ⟨wOn, wHdr, 3, 1, 0, 0, admitted_of (by decide +kernel), by decide +kernel⟩
  , ⟨wRun, wHdr, 0, 0, 0, 0, admitted_of (by decide +kernel), by decide +kernel⟩
  , ⟨wOn, wHdr, 0, 2, 0, 0, admitted_of (by decide +kernel), by decide +kernel⟩
  , ⟨wOn, wHdr, 0, 0, admitted_of (by decide +kernel)⟩
  , ⟨wOn, wHdr, 3, 8, 0, 0, admitted_of (by decide +kernel)⟩
  , ⟨wOn, wHdr, 0, 0, admitted_of (by decide +kernel), by decide +kernel⟩
  , ⟨wOn, wHdr, 1, 1, admitted_of (by decide +kernel), by decide +kernel⟩
  , ⟨wOn, wHdr, 3, 0, 0, admitted_of (by decide +kernel), by decide +kernel⟩
  , ⟨wOn, wHdr, 0, 1, 1, admitted_of (by decide +kernel), by decide +kernel⟩
  , ⟨{ wOn with regs := [((Blk.dieClk 0).at 0x104, 144)] }, wHdr, 0, 0, 0, admitted_of (by decide +kernel),
    by decide +kernel⟩
  , ⟨{ wOn with regs := [((Blk.dieClk 3).at 0x104, 143)] }, wHdr, 3, 0x1FFFF, 0x1FFFF,
    admitted_of (by decide +kernel), by decide +kernel⟩
  , ⟨wOn, wHdr, 0, 1, 1, admitted_of (by decide +kernel), by decide +kernel⟩
  , ⟨wOn, wHdr, 0, 0, 15, 0, 0, admitted_of (by decide +kernel), by decide +kernel⟩
  , ⟨wOn, wHdr, 0, 1, 3, 0, 0x3F, admitted_of (by decide +kernel), by decide +kernel⟩
  , ⟨wOn, wHdr, 1, 1, admitted_of (by decide +kernel)⟩
  , ⟨wOn, wHdr, 3, 0, 0, admitted_of (by decide +kernel)⟩⟩

theorem witness_DeviceCommands :
    (∃ (s : State), ∃ (h : Hdr), ∃ (item : CfgKey), Admitted s h (.cfgRead h item))
    ∧ (∃ (s : State), ∃ (h : Hdr), ∃ (v : CfgVal), Admitted s h (.cfgWrite h v) ∧ v.inRange = true ∧ (∀ p a b c d,
      v ≠ .macsec p a b c d))
    ∧ (∃ (s : State), ∃ (h : Hdr), ∃ (v : CfgVal), Admitted s h (.cfgWrite h v) ∧ v.inRange = false)
    ∧ (∃ (s : State), ∃ (h : Hdr), Admitted s h (.deviceQuery h))
    ∧ (∃ (s : State), ∃ (h : Hdr), ∃ (force : Bool), Admitted s h (.deviceReset h force)
      ∧ ((s.heard h).anyRuns = false ∨ force = true))
    ∧ (∃ (s : State), ∃ (h : Hdr), Admitted s h (.deviceReset h false) ∧ (s.heard h).anyRuns = true) :=
  ⟨⟨wOn, wHdr, .vlan, admitted_of (by decide +kernel)⟩
  , ⟨wOn, wHdr, .mctPort 65535, admitted_of (by decide +kernel), by decide +kernel,
    (fun _ _ _ _ _ e => by cases e)⟩
  , ⟨wOn, wHdr, .mctPort 1023, admitted_of (by decide +kernel), by decide +kernel⟩
  , ⟨wOn, wHdr, admitted_of (by decide +kernel)⟩
  , ⟨wOn, wHdr, false, admitted_of (by decide +kernel), by decide +kernel⟩
  , ⟨wRun, wHdr, admitted_of (by decide +kernel), by decide +kernel⟩⟩

theorem witness_FirmwareCommands :
    (∃ (s : State), ∃ (h : Hdr), ∃ (len : Nat), ∃ (digest : List Byte), Admitted s h (.fwBegin h len digest)
      ∧ (s.heard h).boot.inRom = true ∧ len ≤ 2 ^ 26 ∧ (∀ u, (s.heard h).boot.upload = some u → u.sess = h.sess))
    ∧ (∃ (s : State), ∃ (h : Hdr), ∃ (len : Nat), ∃ (digest : List Byte), Admitted s h (.fwBegin h len digest)
      ∧ (s.heard h).boot.inRom = false)
    ∧ (∃ (s : State), ∃ (h : Hdr), ∃ (off : Nat), ∃ (data : List Byte), ∃ (u : Upload),
      Admitted s h (.fwData h off data) ∧ (s.heard h).boot.upload = some u ∧ u.sess = h.sess ∧ data.length ≤ 8192
      ∧ off + data.length ≤ u.len)
    ∧ (∃ (s : State), ∃ (h : Hdr), ∃ (off : Nat), ∃ (data : List Byte), Admitted s h (.fwData h off data)
      ∧ (s.heard h).boot.upload = none)
    ∧ (∃ (s : State), ∃ (h : Hdr), ∃ (u : Upload), ∃ (bs : List Byte), ∃ (st : Status), ∃ (d : Nat),
      Admitted s h (.fwCommit h) ∧ (s.heard h).boot.upload = some u ∧ u.sess = h.sess ∧ u.bytes = some bs
      ∧ (s.heard h).checkImage u bs = some (st, d))
    ∧ (∃ (_s : State), ∃ (u : Upload), ∃ (bs : List Byte), Crypto.sha256 bs ≠ u.digest) :=
  ⟨⟨wBoot none, wHdr, 0x4000000, [], admitted_of (by decide +kernel), by decide +kernel, by decide +kernel,
    (fun _ e => by cases e)⟩
  , ⟨wOn, wHdr, 0, [], admitted_of (by decide +kernel), by decide +kernel⟩
  , ⟨wBoot (some ⟨5, 1, [], []⟩), wHdr, 0, [1], ⟨5, 1, [], []⟩, admitted_of (by decide +kernel),
    by decide +kernel⟩
  , ⟨wBoot none, wHdr, 0, [], admitted_of (by decide +kernel), by decide +kernel⟩
  , ⟨wBoot (some ⟨5, 1, [], [(0, [1])]⟩), wHdr, ⟨5, 1, [], [(0, [1])]⟩, [1], .digestMismatch, 0,
    admitted_of (by decide +kernel), by decide +kernel⟩
  , ⟨wOn, ⟨5, 0, [], []⟩, [], by decide +kernel⟩⟩

theorem witness_KeyCommands :
    (∃ (s : State), ∃ (h : Hdr), ∃ (key : Nat), ∃ (k : OpKey), Admitted s h (.keyRevoke h key)
      ∧ (s.heard h).keyOf key = some k ∧ (k.roles.testBit 2 = false ∨ 1 < (s.heard h).nvm.admins))
    ∧ (∃ (s : State), ∃ (h : Hdr), ∃ (nonce : List Byte), Admitted s h (.attestQuote h nonce 0)
      ∧ nonce.length = 32)
    ∧ (∃ (s : State), ∃ (h : Hdr), ∃ (nonce : List Byte), ∃ (scope : Nat),
      Admitted s h (.attestQuote h nonce scope) ∧ nonce.length = 32 ∧ 0 < scope ∧ scope < 8
      ∧ (s.heard h).sec.reserving = false ∧ (s.heard h).sec.leaf < (s.heard h).sec.blockEnd)
    ∧ (∃ (s : State), ∃ (h : Hdr), ∃ (nonce : List Byte), ∃ (scope : Nat),
      Admitted s h (.attestQuote h nonce scope) ∧ nonce.length = 32 ∧ 0 < scope ∧ scope < 8
      ∧ (s.heard h).sec.reserving = true) :=
  ⟨⟨{ wOn with nvm := { wOn.nvm with keys := [(1, wKey), (2, { wKey with id := 8 })] } }, wHdr, 8,
    { wKey with id := 8 }, admitted_of (by decide +kernel), by decide +kernel⟩
  , ⟨wOn, wHdr, List.replicate 32 0, admitted_of (by decide +kernel), by decide +kernel⟩
  , ⟨{ wOn with sec := { wOn.sec with leaf := 1023, blockEnd := 1024 } }, wHdr, List.replicate 32 0, 7,
    admitted_of (by decide +kernel), by decide +kernel⟩
  , ⟨{ wOn with sec := { wOn.sec with reserving := true } }, wHdr, List.replicate 32 0, 7,
    admitted_of (by decide +kernel), by decide +kernel⟩⟩

theorem witness_GroupCommands :
    (∃ (s : State), ∃ (h : Hdr), ∃ (g mask : Nat), AtOnce s h (.groupForm h g mask) ∧ g < 12 ∧ 0 < mask
      ∧ mask < 4096 ∧ (∀ k ∈ maskBits 12 mask, ((s.heard h).stack k).failed = false) ∧ (∀ p ∈ (s.heard h).groups,
      p.1 ≠ g → p.2.formed = true → p.2.channels &&& mask = 0)
      ∧ (((s.heard h).grp g).formed = false ∨ ((s.heard h).grp g).channels = mask ∨ ((s.heard h).inst g).busy = false))
    ∧ (∃ (s : State), ∃ (h : Hdr), ∃ (g mask : Nat), ∃ (p : Nat × Group), AtOnce s h (.groupForm h g mask)
      ∧ g < 12 ∧ 0 < mask ∧ mask < 4096 ∧ p ∈ (s.heard h).groups ∧ p.1 ≠ g ∧ p.2.formed = true
      ∧ p.2.channels &&& mask ≠ 0)
    ∧ (∃ (s : State), ∃ (h : Hdr), ∃ (g : Nat), AtOnce s h (.groupDissolve h g) ∧ g < 12
      ∧ ((s.heard h).grp g).formed = true ∧ ((s.heard h).inst g).busy = false ∧ ((s.heard h).grp g).current = none
      ∧ ((s.heard h).grp g).staged = none)
    ∧ (∃ (s : State), ∃ (h : Hdr), ∃ (g : Nat), AtOnce s h (.groupDissolve h g)
      ∧ ((s.heard h).inst g).busy = true) :=
  ⟨⟨{ wIdle with insts := [] }, wHdr, 11, 0xFFE, atOnce_of (by decide +kernel), by decide +kernel⟩
  , ⟨wIdle, wHdr, 1, 1, (0, wFormed), atOnce_of (by decide +kernel), by decide +kernel⟩
  , ⟨{ wIdle with insts := [] }, wHdr, 0, atOnce_of (by decide +kernel), by decide +kernel⟩
  , ⟨wIdle, wHdr, 0, atOnce_of (by decide +kernel), by decide +kernel⟩⟩

theorem witness_ModelCommands :
    (∃ (s : State), ∃ (h : Hdr), ∃ (g : Nat), ∃ (loc : StorageLoc), ∃ (reads : Reads),
      Admitted s h (.modelLoad h g loc reads) ∧ g < 12 ∧ ((s.heard h).grp g).formed = true
      ∧ ((s.heard h).inst g).next.isSome = true)
    ∧ (∃ (s : State), ∃ (h : Hdr), ∃ (g : Nat), ∃ (loc : StorageLoc), ∃ (reads : Reads), ∃ (x : Session),
      ∃ (bs : List Byte), ∃ (st : Status), Admitted s h (.modelLoad h g loc reads) ∧ g < 12
      ∧ ((s.heard h).grp g).formed = true ∧ (s.heard h).session? h.sess = some x
      ∧ ((s.heard h).inst g).next = none ∧ (s.heard h).fetchManifest loc reads = some bs
      ∧ (s.heard h).checkManifest x g 0 bs = some st)
    ∧ (∃ (s : State), ∃ (h : Hdr), ∃ (g : Nat), ∃ (x : Gen), Admitted s h (.modelAbort h g) ∧ g < 12
      ∧ ((s.heard h).grp g).formed = true ∧ ((s.heard h).inst g).next = some x ∧ x.phase = .loading)
    ∧ (∃ (s : State), ∃ (h : Hdr), ∃ (g : Nat), ∃ (x : Gen), Admitted s h (.modelAbort h g) ∧ g < 12
      ∧ ((s.heard h).grp g).formed = true ∧ ((s.heard h).inst g).next = some x ∧ x.phase ≠ .loading)
    ∧ (∃ (s : State), ∃ (h : Hdr), ∃ (g : Nat), Admitted s h (.instanceQuery h g) ∧ g < 12
      ∧ ((s.heard h).grp g).formed = true ∧ ((s.heard h).inst g).next = none)
    ∧ (∃ (s : State), ∃ (h : Hdr), ∃ (g : Nat), ∃ (force : Bool), AtOnce s h (.instanceUnload h g force) ∧ g < 12
      ∧ ((s.heard h).grp g).formed = true ∧ ((s.heard h).inst g).active.isSome = true
      ∧ (force = true ∨ ∀ r ∈ (s.heard h).reqs, r.group ≠ g))
    ∧ (∃ (s : State), ∃ (h : Hdr), ∃ (g tensor : Nat), ∃ (x : Gen), Admitted s h (.loadReport h g tensor) ∧ g < 12
      ∧ ((s.heard h).grp g).formed = true ∧ ((s.heard h).inst g).next = none
      ∧ ((s.heard h).inst g).active = some x ∧ tensor < x.load.manifest.tensors.length) :=
  ⟨⟨wNext { wGen with phase := .loading }, wHdr, 0, ⟨0, 1, 0, 1⟩, [], admitted_of (by decide +kernel),
    by decide +kernel⟩
  , ⟨wDisk, wHdr, 0, ⟨15, 1, 0, 1⟩, [none, some [0]], _, [0], .version, admitted_of (by decide +kernel),
    by decide +kernel, by decide +kernel, rfl, by decide +kernel⟩
  , ⟨wNext { wGen with phase := .loading }, wHdr, 0, { wGen with phase := .loading },
    admitted_of (by decide +kernel), by decide +kernel⟩
  , ⟨wNext { wGen with phase := .loaded }, wHdr, 0, { wGen with phase := .loaded },
    admitted_of (by decide +kernel), by decide +kernel⟩
  , ⟨wIdle, wHdr, 0, admitted_of (by decide +kernel), by decide +kernel⟩
  , ⟨wIdle, wHdr, 0, false, atOnce_of (by decide +kernel), by decide +kernel⟩
  , ⟨wIdle, wHdr, 0, 0, wGen, admitted_of (by decide +kernel), by decide +kernel⟩⟩

theorem witness_AdapterCommands :
    (∃ (s : State), ∃ (h : Hdr), ∃ (g ident tenant : Nat), ∃ (loc : StorageLoc), ∃ (reads : Reads),
      ∃ (x : Session), ∃ (a : Adapter), ∃ (base : Gen), AtOnce s h (.adapterLoad h g ident tenant loc reads)
      ∧ g < 12 ∧ ((s.heard h).grp g).formed = true ∧ (s.heard h).session? h.sess = some x
      ∧ ((s.heard h).inst g).active = some base ∧ ident ≠ 0 ∧ base.load.manifest.adapterSlots ≠ 0
      ∧ ((s.heard h).inst g).adapters.get? ident = some a ∧ a.key ≠ x.key)
    ∧ (∃ (s : State), ∃ (h : Hdr), ∃ (g ident : Nat), ∃ (a : Adapter), AtOnce s h (.adapterUnload h g ident)
      ∧ g < 12 ∧ ((s.heard h).grp g).formed = true ∧ (s.heard h).adapter? h g ident = some a ∧ a.unloaded = false)
    ∧ (∃ (s : State), ∃ (h : Hdr), ∃ (g ident : Nat), ∃ (a : Adapter), Admitted s h (.adapterQuery h g ident)
      ∧ g < 12 ∧ ((s.heard h).grp g).formed = true ∧ (s.heard h).adapter? h g ident = some a) :=
  ⟨⟨wAdapter { wAd with key := 8 }, wHdr, 0, 6, 3, ⟨0, 1, 0, 1⟩, [], _, { wAd with key := 8 }, wGen,
    atOnce_of (by decide +kernel), by decide +kernel, by decide +kernel, rfl, by decide +kernel⟩
  , ⟨wAdapter wAd, wHdr, 0, 6, wAd, atOnce_of (by decide +kernel), by decide +kernel⟩
  , ⟨wAdapter wAd, wHdr, 0, 6, wAd, admitted_of (by decide +kernel), by decide +kernel⟩⟩

theorem witness_ContextCommands :
    (∃ (s : State), ∃ (h : Hdr), ∃ (f : CtxFields), ∃ (x : Session), ∃ (key i d : Nat),
      AtOnce s h (.ctxCreate h f) ∧ f.group < 12 ∧ ((s.heard h).grp f.group).formed = true
      ∧ (s.heard h).session? h.sess = some x ∧ (s.heard h).instKey f.group = some key ∧ key = x.key
      ∧ ctxFieldsOk f.tenant f.tag f.policy f.shift f.backing = true ∧ 6 ≤ f.budget ∧ f.budget ≤ 512
      ∧ (s.heard h).freeIndex = some i ∧ (s.heard h).homeDie f.group = some d
      ∧ f.budget * sumNats (((s.heard h).attnOf f.group).map AttnEnt.pageGranules) ≤ (s.heard h).dieFree f.group d)
    ∧ (∃ (s : State), ∃ (h : Hdr), ∃ (c t : Nat), ∃ (x : Ctx), AtOnce s h (.ctxDelete h c t)
      ∧ (s.heard h).named? h c t = some x ∧ x.atRest = true)
    ∧ (∃ (s : State), ∃ (h : Hdr), ∃ (c t : Nat), AtOnce s h (.ctxDelete h c t) ∧ (s.heard h).named? h c t = none)
    ∧ (∃ (s : State), ∃ (h : Hdr), ∃ (c t : Nat), ∃ (x : Ctx), AtOnce s h (.ctxDelete h c t)
      ∧ (s.heard h).named? h c t = some x ∧ x.atRest = false)
    ∧ (∃ (s : State), ∃ (h : Hdr), ∃ (c t p sh : Nat), ∃ (b : Backing), ∃ (x : Ctx),
      AtOnce s h (.ctxSet h c t p sh b) ∧ (s.heard h).named? h c t = some x ∧ x.atRest = true
      ∧ ctxFieldsOk t 0 p sh b = true)
    ∧ (∃ (s : State), ∃ (h : Hdr), ∃ (c t pos : Nat), ∃ (x : Ctx), AtOnce s h (.ctxTruncate h c t pos)
      ∧ (s.heard h).named? h c t = some x ∧ x.atRest = true ∧ pos ≤ x.length ∧ pos % 128 = 0)
    ∧ (∃ (c : Ctx), ∃ (pos : Nat), ∃ (k : Nat), ∃ (es : List Pte), (k, es) ∈ (c.truncateAt pos []).tables)
    ∧ (∃ (s : State), ∃ (h : Hdr), ∃ (c t : Nat), ∃ (x : Ctx), AtOnce s h (.ctxSuspend h c t)
      ∧ (s.heard h).named? h c t = some x ∧ x.state = .idle ∧ x.policy ≠ 1
      ∧ (s.heard h).suspendBytes x ≤ 4096 * x.backing.len)
    ∧ (∃ (s : State), ∃ (h : Hdr), ∃ (c t : Nat), ∃ (x : Ctx), AtOnce s h (.ctxSuspend h c t)
      ∧ (s.heard h).named? h c t = some x ∧ x.atRest = true
      ∧ (x.state = .stale ∨ x.policy = 1 ∨ 4096 * x.backing.len < (s.heard h).suspendBytes x))
    ∧ (∃ (s : State), ∃ (h : Hdr), ∃ (g t tag : Nat), ∃ (b : Backing), ∃ (x : Session), ∃ (key i d : Nat),
      AtOnce s h (.ctxRestore h g t tag b) ∧ g < 12 ∧ ((s.heard h).grp g).formed = true
      ∧ (s.heard h).session? h.sess = some x ∧ (s.heard h).instKey g = some key ∧ key = x.key
      ∧ ctxFieldsOk t tag 0 1 b = true ∧ (s.heard h).freeIndex = some i ∧ (s.heard h).homeDie g = some d)
    ∧ (∃ (s : State), ∃ (h : Hdr), ∃ (c t : Nat), ∃ (x : Ctx), Admitted s h (.ctxQuery h c t)
      ∧ (s.heard h).named? h c t = some x) :=
  ⟨⟨wIdle, wHdr, ⟨0, 3, 0, 512, 0, 8, ⟨15, 0, 0, 0⟩⟩, _, 7, 0, 0, atOnce_of (by decide +kernel),
    by decide +kernel, by decide +kernel, rfl, by decide +kernel, by decide +kernel, by decide +kernel,
    by decide +kernel, by decide +kernel, by decide +kernel, rfl,
    (Nat.le_trans (Nat.le_of_eq w_noFrames) (Nat.zero_le _))⟩
  , ⟨wHeld wCtx, wHdr, 9, 3, wCtx, atOnce_of (by decide +kernel), by decide +kernel⟩
  , ⟨wHeld wCtx, wHdr, 8, 3, atOnce_of (by decide +kernel), by decide +kernel⟩
  , ⟨wHeld { wCtx with state := .busy }, wHdr, 9, 3, { wCtx with state := .busy }, atOnce_of (by decide +kernel),
    by decide +kernel⟩
  , ⟨wHeld { wCtx with state := .stale }, wHdr, 9, 3, 1, 8, ⟨0, 0, 0, 0⟩, { wCtx with state := .stale },
    atOnce_of (by decide +kernel), by decide +kernel⟩
  , ⟨wHeld { wCtx with length := 128 }, wHdr, 9, 3, 128, { wCtx with length := 128 },
    atOnce_of (by decide +kernel), by decide +kernel⟩
  ,
    ⟨{ wCtx with length := 256, tables := [(0, [⟨0, true, false, 128, 0, 0, 0⟩, ⟨1, false, false, 128, 0, 1, 0⟩])] },
    128, 0, [⟨0, true, false, 128, 0, 0, 0⟩], by decide +kernel⟩
  , ⟨wHeld { wCtx with policy := 0 }, wHdr, 9, 3, { wCtx with policy := 0 }, atOnce_of (by decide +kernel),
    by decide +kernel, by decide +kernel, by decide +kernel, by decide +kernel⟩
  , ⟨wHeld { wCtx with state := .stale }, wHdr, 9, 3, { wCtx with state := .stale },
    atOnce_of (by decide +kernel), by decide +kernel, by decide +kernel, by decide +kernel⟩
  , ⟨wIdle, wHdr, 0, 3, 0, ⟨15, 1, 0, 0⟩, _, 7, 0, 0, atOnce_of (by decide +kernel), by decide +kernel,
    by decide +kernel, rfl, by decide +kernel, by decide +kernel, by decide +kernel, by decide +kernel, rfl⟩
  , ⟨wHeld wCtx, wHdr, 9, 3, wCtx, admitted_of (by decide +kernel), by decide +kernel⟩⟩

theorem witness_RequestChecks :
    (∃ (s : State), ∃ (h : Hdr), ∃ (f : ReqFields), s.named? h f.ctx f.tenant = none)
    ∧ (∃ (s : State), ∃ (h : Hdr), ∃ (f : ReqFields), ∃ (c : Ctx), s.named? h f.ctx f.tenant = some c
      ∧ s.adapterForeign c.group c.key c.tenant f.adapter = true)
    ∧ (∃ (s : State), ∃ (h : Hdr), ∃ (f : ReqFields), ∃ (c : Ctx), s.named? h f.ctx f.tenant = some c
      ∧ s.adapterForeign c.group c.key c.tenant f.adapter = false ∧ c.atRest = false)
    ∧ (∃ (s : State), ∃ (h : Hdr), ∃ (f : ReqFields), ∃ (c : Ctx), ∃ (a : Gen), s.named? h f.ctx f.tenant = some c
      ∧ c.atRest = true ∧ f.fullHistory = false ∧ c.length ≠ 0 ∧ (s.inst c.group).active = some a
      ∧ (s.adapterFor c.group c.key c.tenant f.adapter).isSome = true ∧ c.stateGen ≠ a.id)
    ∧ (∃ (s : State), ∃ (h : Hdr), ∃ (f : ReqFields), ∃ (c : Ctx), ∃ (a : Gen), s.named? h f.ctx f.tenant = some c
      ∧ c.atRest = true ∧ (f.fullHistory = true ∨ c.length = 0)
      ∧ s.adapterForeign c.group c.key c.tenant f.adapter = false ∧ (s.inst c.group).active = some a
      ∧ (f.ok a.load.manifest.vocabulary = false ∨ s.adapterFor c.group c.key c.tenant f.adapter = none ∨ (s.req? h.sess f.id).isSome = true))
    ∧ (∃ (s : State), ∃ (h : Hdr), ∃ (f : ReqFields), ∃ (c : Ctx), ∃ (a : Gen), s.named? h f.ctx f.tenant = some c
      ∧ c.atRest = true ∧ (f.fullHistory = true ∨ c.length = 0) ∧ (s.inst c.group).active = some a
      ∧ f.ok a.load.manifest.vocabulary = true ∧ f.more = false ∧ f.adapter = 0 ∧ s.req? h.sess f.id = none) :=
  ⟨⟨wOn, wHdr, wReqF, by decide +kernel⟩
  , ⟨{ wHeld wCtx with insts := (wAdapter { wAd with tenant := 4 }).insts }, wHdr, { wReqF with adapter := 6 },
    wCtx, by decide +kernel⟩
  , ⟨wHeld { wCtx with state := .restoring }, wHdr, wReqF, { wCtx with state := .restoring }, by decide +kernel⟩
  , ⟨wHeld { wCtx with length := 1, stateGen := 2 }, wHdr, wReqF, { wCtx with length := 1, stateGen := 2 }, wGen,
    by decide +kernel⟩
  , ⟨wHeld wCtx, wHdr, { wReqF with maxNew := 0 }, wCtx, wGen, by decide +kernel⟩
  , ⟨wHeld wCtx, wHdr, wReqF, wCtx, wGen, by decide +kernel⟩⟩

theorem witness_RequestCommands :
    (∃ (s : State), ∃ (h : Hdr), ∃ (f : ReqFields), ∃ (c : Ctx), AtOnce s h (.reqSubmit h f)
      ∧ f.tokens.length ≤ 2048 ∧ f.more = false ∧ f.fullHistory = false ∧ f.adapter = 0 ∧ f.penaliseInput = false
      ∧ (s.heard h).ctxAwaited f.ctx = false ∧ (s.heard h).reqCheck h f = none ∧ (s.heard h).ctx? f.ctx = some c)
    ∧ (∃ (s : State), ∃ (h : Hdr), ∃ (f : ReqFields), Admitted s h (.reqSubmit h f) ∧ f.tokens.length ≤ 2048
      ∧ f.more = true ∧ (s.heard h).ctxAwaited f.ctx = false)
    ∧ (∃ (s : State), ∃ (h : Hdr), ∃ (r : Nat), ∃ (ts : List Nat), ∃ (more : Bool),
      Admitted s h (.reqTokens h r ts more) ∧ ts.length ≤ 2240
      ∧ (s.heard h).held.any (fun x => x.awaits h.sess r) = true)
    ∧ (∃ (s : State), ∃ (h : Hdr), ∃ (r : Nat), ∃ (ts : List Nat), ∃ (more : Bool),
      Admitted s h (.reqTokens h r ts more) ∧ (s.heard h).held.any (fun x => x.awaits h.sess r) = false)
    ∧ (∃ (s : State), ∃ (sess r : Nat), ∃ (x : Held), s.held.filter (fun y => y.awaits sess r) = [x])
    ∧ (∃ (s : State), ∃ (h : Hdr), ∃ (r : Nat), ∃ (x : Req), AtOnce s h (.reqCancel h r)
      ∧ (s.heard h).held.any (fun y => y.awaits h.sess r) = false ∧ (s.heard h).req? h.sess r = some x)
    ∧ (∃ (s : State), ∃ (h : Hdr), ∃ (r : Nat), AtOnce s h (.reqCancel h r)
      ∧ (s.heard h).held.any (fun y => y.awaits h.sess r) = false ∧ (s.heard h).req? h.sess r = none
      ∧ (s.heard h).ended.any (fun e => e.sess == h.sess && e.req == r) = true)
    ∧ (∃ (s : State), ∃ (h : Hdr), ∃ (r : Nat), ∃ (x : Req), Admitted s h (.reqQuery h r)
      ∧ (s.heard h).req? h.sess r = some x) :=
  ⟨⟨wHeld wCtx, wHdr, wReqF, wCtx, atOnce_of (by decide +kernel), by decide +kernel⟩
  , ⟨wHeld wCtx, wHdr, { wReqF with more := true }, admitted_of (by decide +kernel), by decide +kernel⟩
  , ⟨{ wHeld wCtx with held := [wMore] }, wHdr, 1, [], false, admitted_of (by decide +kernel), by decide +kernel⟩
  , ⟨wOn, wHdr, 1, [], true, admitted_of (by decide +kernel), by decide +kernel⟩
  , ⟨{ wHeld wCtx with held := [wMore] }, 5, 1, wMore, by decide +kernel⟩
  , ⟨{ wHeld wCtx with reqs := [wReq] }, wHdr, 1, wReq, atOnce_of (by decide +kernel), by decide +kernel⟩
  ,
    ⟨{ wHeld wCtx with ended := [⟨5, 1, 0, 0, none, ⟨1, 0, false, false, false, false, false, false, true, 0⟩, true⟩] },
    wHdr, 1, atOnce_of (by decide +kernel), by decide +kernel⟩
  , ⟨{ wHeld wCtx with reqs := [wReq] }, wHdr, 1, wReq, admitted_of (by decide +kernel), by decide +kernel⟩⟩

theorem witness_PlanCommands :
    (∃ (s : State), ∃ (h : Hdr), ∃ (g len : Nat), ∃ (digest : List Byte), Admitted s h (.planBegin h g len digest)
      ∧ g < 12 ∧ ((s.heard h).grp g).formed = true ∧ ((s.heard h).grp g).staged = none ∧ len ≤ 2 ^ 28
      ∧ (s.heard h).planBytes + len ≤ 6144 * 2 ^ 20)
    ∧ (∃ (s : State), ∃ (h : Hdr), ∃ (g len : Nat), ∃ (digest : List Byte), ∃ (st : Staged),
      Admitted s h (.planBegin h g len digest) ∧ g < 12 ∧ ((s.heard h).grp g).formed = true
      ∧ ((s.heard h).grp g).staged = some st ∧ st.upload.sess ≠ h.sess)
    ∧ (∃ (s : State), ∃ (h : Hdr), ∃ (g off : Nat), ∃ (data : List Byte), ∃ (st : Staged),
      Admitted s h (.planData h g off data) ∧ g < 12 ∧ ((s.heard h).grp g).formed = true
      ∧ ((s.heard h).grp g).staged = some st ∧ st.phase = .uploading ∧ st.upload.sess = h.sess
      ∧ data.length ≤ 8192 ∧ off + data.length ≤ st.upload.len)
    ∧ (∃ (s : State), ∃ (h : Hdr), ∃ (g : Nat), ∃ (st : Staged), Admitted s h (.planCommit h g) ∧ g < 12
      ∧ ((s.heard h).grp g).formed = true ∧ ((s.heard h).grp g).staged = some st ∧ st.phase = .uploading
      ∧ st.upload.sess = h.sess ∧ st.upload.bytes.isSome = true)
    ∧ (∃ (s : State), ∃ (h : Hdr), ∃ (g : Nat), ∃ (st : Staged), Admitted s h (.planCommit h g) ∧ g < 12
      ∧ ((s.heard h).grp g).formed = true ∧ ((s.heard h).grp g).staged = some st ∧ st.phase = .uploading
      ∧ st.upload.sess ≠ h.sess)
    ∧ (∃ (s : State), ∃ (h : Hdr), ∃ (g : Nat), ∃ (st : Staged), Admitted s h (.planAbort h g) ∧ g < 12
      ∧ ((s.heard h).grp g).formed = true ∧ ((s.heard h).grp g).staged = some st)
    ∧ (∃ (s : State), ∃ (g : Nat), ∃ (_st : Status), ∃ (_r : Nat), ∃ (x : Staged), (s.grp g).staged = some x)
    ∧ (∃ (s : State), ∃ (g : Nat), ∃ (_st : Status), ∃ (_r : Nat), ∃ (x : Staged), (s.grp g).staged = some x
      ∧ x.origin = none)
    ∧ (∃ (s : State), ∃ (g : Nat), ∃ (_st : Status), ∃ (_r : Nat), ∃ (x : Staged), (s.grp g).staged = some x
      ∧ ∃ (sess seq : Nat), ∃ (y : Session), x.origin = some (sess, seq) ∧ s.session? sess = some y)
    ∧ (∃ (s : State), ∃ (h : Hdr), ∃ (g : Nat), Admitted s h (.planQuery h g) ∧ g < 12
      ∧ ((s.heard h).grp g).formed = true ∧ ((s.heard h).grp g).current = none)
    ∧ (∃ (s _base : State), ∃ (h : Hdr), ∃ (g code : Nat), ∃ (x : Variant), ∃ (_tick : Nat), ∃ (_seen : List Nat),
      ∃ (c : Held), c.cmd = .variantForce h g code ∧ (s.session? c.sess).isSome = true ∧ g < 12
      ∧ (s.grp g).formed = true ∧ code ≤ 3 ∧ ((s.grp g).current.bind (fun p => p.plan.variant code)) = some x)
    ∧ (∃ (s : State), ∃ (h : Hdr), ∃ (g : Nat), AtOnce s h (.variantForce h g 0xFF) ∧ g < 12
      ∧ ((s.heard h).grp g).formed = true)
    ∧ (∃ (s : State), ∃ (h : Hdr), ∃ (g : Nat), AtOnce s h (.planRetire h g) ∧ g < 12
      ∧ ((s.heard h).grp g).formed = true ∧ (∀ r ∈ (s.heard h).reqs, r.group = g → r.slot = none))
    ∧ (∃ (s _base : State), ∃ (h : Hdr), ∃ (g _tick : Nat), ∃ (_seen : List Nat), ∃ (c : Held),
      c.cmd = .planRetire h g ∧ (s.session? c.sess).isSome = true ∧ g < 12 ∧ (s.grp g).formed = true
      ∧ (∀ r ∈ s.reqs, r.group = g → r.slot = none))
    ∧ (∃ (s : State), ∃ (h : Hdr), ∃ (g : Nat), ∃ (r : Req), ∃ (_tick : Nat), ∃ (_seen : List Nat), ∃ (c : Held),
      c.cmd = .planRetire h g ∧ (s.session? c.sess).isSome = true ∧ r ∈ s.reqs ∧ r.group = g
      ∧ r.slot.isSome = true) :=
  ⟨⟨wIdle, wHdr, 0, 0x10000000, [], admitted_of (by decide +kernel), by decide +kernel⟩
  , ⟨wUpload { wStaged with upload := ⟨6, 1, [], []⟩ }, wHdr, 0, 1, [], { wStaged with upload := ⟨6, 1, [], []⟩ },
    admitted_of (by decide +kernel), by decide +kernel⟩
  , ⟨wUpload wStaged, wHdr, 0, 0, [1], wStaged, admitted_of (by decide +kernel), by decide +kernel⟩
  , ⟨wUpload wStaged, wHdr, 0, wStaged, admitted_of (by decide +kernel), by decide +kernel⟩
  , ⟨wUpload { wStaged with upload := ⟨6, 1, [], []⟩ }, wHdr, 0, { wStaged with upload := ⟨6, 1, [], []⟩ },
    admitted_of (by decide +kernel), by decide +kernel⟩
  , ⟨wUpload wStaged, wHdr, 0, wStaged, admitted_of (by decide +kernel), by decide +kernel⟩
  , ⟨wUpload wStaged, 0, .planInvalid, 5, wStaged, by decide +kernel⟩
  , ⟨wUpload wStaged, 0, .planInvalid, 5, wStaged, by decide +kernel⟩
  , ⟨wUpload (wCommitted []), 0, .planInvalid, 5, wCommitted [], by decide +kernel, 5, 1, wSess,
    by decide +kernel⟩
  , ⟨wIdle, wHdr, 0, admitted_of (by decide +kernel), by decide +kernel⟩
  , ⟨wRun, wRun, wHdr, 0, 2, { wVariant with kind := 2 }, 4, [], wWait (.variantForce wHdr 0 2),
    by decide +kernel⟩
  , ⟨wIdle, wHdr, 0, atOnce_of (by decide +kernel), by decide +kernel⟩
  , ⟨wIdle, wHdr, 0, atOnce_of (by decide +kernel), by decide +kernel⟩
  , ⟨wRun, wRun, wHdr, 0, 4, [], wWait (.planRetire wHdr 0), by decide +kernel⟩
  , ⟨{ wRun with reqs := [{ wReq with slot := some 0 }] }, wHdr, 0, { wReq with slot := some 0 }, 4, [],
    wWait (.planRetire wHdr 0), by decide +kernel⟩⟩

theorem witness_BalanceCommands :
    (∃ (s : State), ∃ (h : Hdr), ∃ (g : Nat), ∃ (b : Balance), AtOnce s h (.balanceSet h g b) ∧ g < 12
      ∧ ((s.heard h).grp g).formed = true ∧ b.cap ≤ 65535 ∧ 1 ≤ b.chunkMin ∧ b.chunkMin ≤ 4096 ∧ 1 ≤ b.chunkMax
      ∧ b.chunkMax ≤ 16384 ∧ b.order ≤ 1 ∧ 1 ≤ b.passLimit ∧ b.passLimit ≤ 255)
    ∧ (∃ (s : State), ∃ (h : Hdr), ∃ (g : Nat), ∃ (b : Balance), AtOnce s h (.balanceSet h g b)
      ∧ (65535 < b.cap ∨ b.chunkMin = 0 ∨ 4096 < b.chunkMin ∨ b.chunkMax = 0 ∨ 16384 < b.chunkMax ∨ 1 < b.order ∨ b.passLimit = 0 ∨ 255 < b.passLimit))
    ∧ (∃ (s : State), ∃ (h : Hdr), ∃ (g : Nat), ∃ (p : PlacedPlan), Admitted s h (.balanceQuery h g) ∧ g < 12
      ∧ ((s.heard h).grp g).formed = true ∧ ((s.heard h).grp g).current = some p)
    ∧ (∃ (s _base : State), ∃ (h : Hdr), ∃ (g _tick : Nat), ∃ (_seen : List Nat), ∃ (c : Held),
      c.cmd = .redundancySet h g true ∧ (s.session? c.sess).isSome = true ∧ g < 12 ∧ (s.grp g).formed = true
      ∧ (s.grp g).redundant = false ∧ (s.applyFences g).doublePlaces g = true)
    ∧ (∃ (s : State), ∃ (h : Hdr), ∃ (g _tick : Nat), ∃ (_seen : List Nat), ∃ (c : Held),
      c.cmd = .redundancySet h g true ∧ (s.session? c.sess).isSome = true ∧ g < 12 ∧ (s.grp g).formed = true
      ∧ (s.grp g).redundant = false ∧ (s.applyFences g).doublePlaces g = false)
    ∧ (∃ (s : State), ∃ (h : Hdr), ∃ (g : Nat), AtOnce s h (.redundancySet h g true) ∧ g < 12
      ∧ ((s.heard h).grp g).formed = true ∧ ((s.heard h).grp g).redundant = false
      ∧ ((s.heard h).applyFences g).doublePlaces g = false)
    ∧ (∃ (s : State), ∃ (h : Hdr), ∃ (g : Nat), AtOnce s h (.redundancySet h g false) ∧ g < 12
      ∧ ((s.heard h).grp g).formed = true ∧ ((s.heard h).grp g).redundant = true) :=
  ⟨⟨wIdle, wHdr, 0, ⟨0, 4096, 16384, 1, 255⟩, atOnce_of (by decide +kernel), by decide +kernel⟩
  , ⟨wIdle, wHdr, 0, ⟨0, 1, 1, 0, 256⟩, atOnce_of (by decide +kernel), by decide +kernel⟩
  , ⟨wRun, wHdr, 0, wPlaced, admitted_of (by decide +kernel), by decide +kernel⟩
  , ⟨wTwo, wRun, wHdr, 0, 4, [], wWait (.redundancySet wHdr 0 true), by decide +kernel⟩
  , ⟨wRun, wHdr, 0, 4, [], wWait (.redundancySet wHdr 0 true), by decide +kernel⟩
  , ⟨wIdle, wHdr, 0, atOnce_of (by decide +kernel), by decide +kernel⟩
  , ⟨{ wIdle with groups := [(0, { wFormed with redundant := true })] }, wHdr, 0, atOnce_of (by decide +kernel),
    by decide +kernel⟩⟩

theorem witness_MaintenanceCommands :
    (∃ (s : State), ∃ (h : Hdr), ∃ (c : Nat), AtOnce s h (.coreFence h c) ∧ c < 576 ∧ (s.heard h).good c = true
      ∧ ((s.heard h).core c).fenced = false ∧ ((s.heard h).core c).causes = 0 ∧ ((s.heard h).core c).due = 0)
    ∧ (∃ (s : State), ∃ (h : Hdr), ∃ (c : Nat), AtOnce s h (.coreFence h c) ∧ c < 576
      ∧ (s.heard h).good c = false)
    ∧ (∃ (s : State), ∃ (h : Hdr), ∃ (c : Nat), AtOnce s h (.coreFence h c) ∧ c < 576 ∧ (s.heard h).good c = true
      ∧ ((s.heard h).core c).fenced = true)
    ∧ (∃ (s : State), ∃ (h : Hdr), ∃ (c : Nat), AtOnce s h (.coreUnfence h c) ∧ c < 576
      ∧ ((s.heard h).core c).fenced = true ∧ ((s.heard h).core c).permanent = false
      ∧ ((s.heard h).core c).testing = false)
    ∧ (∃ (s : State), ∃ (h : Hdr), ∃ (c : Nat), AtOnce s h (.coreUnfence h c)
      ∧ (((s.heard h).core c).fenced = false ∨ ((s.heard h).core c).permanent = true))
    ∧ (∃ (s : State), ∃ (h : Hdr), ∃ (loc : StorageLoc), ∃ (x : Session), Admitted s h (.probeLoad h loc)
      ∧ (s.heard h).probe.loading = none ∧ (s.heard h).session? h.sess = some x)
    ∧ (∃ (s : State), ∃ (h : Hdr), ∃ (loc : StorageLoc), Admitted s h (.probeLoad h loc)
      ∧ (s.heard h).probe.loading.isSome = true)
    ∧ (∃ (s : State), ∃ (h : Hdr), ∃ (pack : Nat), ∃ (p : ProbePack), Admitted s h (.probeResults h pack)
      ∧ (s.heard h).probe.held = some p ∧ p.id = pack)
    ∧ (∃ (s : State), ∃ (h : Hdr), ∃ (x : CalScope), ∃ (ks : List Nat), AtOnce s h (.calRequest h x)
      ∧ (s.heard h).scopeArrays x = .ok ks)
    ∧ (∃ (s : State), ∃ (h : Hdr), ∃ (x : CalScope), ∃ (ks : List Nat), AtOnce s h (.calCancel h x)
      ∧ (s.heard h).scopeArrays x = .ok ks)
    ∧ (∃ (s : State), ∃ (h : Hdr), ∃ (x : CalScope), ∃ (slots : Nat), ∃ (ks : List Nat),
      AtOnce s h (.calDiscard h x slots) ∧ slots < 16 ∧ (s.heard h).scopeArrays x = .ok ks ∧ (∀ k ∈ ks,
      (((s.heard h).arr k).cal.without slots).isEmpty = false))
    ∧ (∃ (s : State), ∃ (h : Hdr), ∃ (c : CoreIx), ∃ (e : EngIx), ∃ (b : Bool),
      AtOnce s h (.calRequest h (.array c.val e.val b)) ∧ (s.heard h).good c.val = false) :=
  ⟨⟨wOn, wHdr, 575, atOnce_of (by decide +kernel), by decide +kernel⟩
  , ⟨{ wOn with nvm := { wOn.nvm with goodMap := 1 } }, wHdr, 575, atOnce_of (by decide +kernel),
    by decide +kernel⟩
  , ⟨{ wOn with cores := [(1, { CoreState.init with fenced := true })] }, wHdr, 1, atOnce_of (by decide +kernel),
    by decide +kernel⟩
  , ⟨{ wOn with cores := [(1, { CoreState.init with fenced := true })] }, wHdr, 1, atOnce_of (by decide +kernel),
    by decide +kernel⟩
  , ⟨wOn, wHdr, 1, atOnce_of (by decide +kernel), by decide +kernel⟩
  , ⟨wOn, wHdr, ⟨15, 0, 0, 0⟩, _, admitted_of (by decide +kernel), by decide +kernel, rfl⟩
  , ⟨{ wOn with probe := { wOn.probe with loading := some ⟨5, 1, 7, ⟨0, 0, 0, 0⟩⟩ } }, wHdr, ⟨0, 0, 0, 0⟩,
    admitted_of (by decide +kernel), by decide +kernel⟩
  , ⟨{ wOn with probe := { wOn.probe with held := some wPack } }, wHdr, 2, wPack, admitted_of (by decide +kernel),
    by decide +kernel⟩
  , ⟨wOn, wHdr, .array 575 15 true, [575 * 32 + 31], atOnce_of (by decide +kernel), w_ok (by decide +kernel)⟩
  , ⟨wOn, wHdr, .array 0 0 false, [0], atOnce_of (by decide +kernel), w_ok (by decide +kernel)⟩
  , ⟨{ wOn with arrays := [(0, { ArrayState.init with cal := { ArrayCal.init with sets := [(0, wSet)] } })] },
    wHdr, .array 0 0 false, 14, [0], atOnce_of (by decide +kernel), by decide +kernel, w_ok (by decide +kernel),
    by decide +kernel⟩
  , ⟨{ wOn with nvm := { wOn.nvm with goodMap := 1 } }, wHdr, 575, 15, true, atOnce_of (by decide +kernel),
    by decide +kernel⟩⟩

theorem witness_TelemetryCommands :
    (∃ (s : State), ∃ (h : Hdr), ∃ (period mask : Nat), AtOnce s h (.telemetrySet h period mask) ∧ period ≤ 65535
      ∧ mask < 16)
    ∧ (∃ (s : State), ∃ (h : Hdr), ∃ (mask : Nat), Admitted s h (.telemetryQuery h mask) ∧ mask < 16)
    ∧ (∃ (s : State), ∃ (h : Hdr), ∃ (first n : Nat), Admitted s h (.eventRead h first n) ∧ 1 ≤ n ∧ n ≤ 128
      ∧ (∀ r ∈ (s.heard h).nvm.records, r.seq + payloadSlots r.payload.length ≤ first))
    ∧ (∃ (s : State), ∃ (h : Hdr), ∃ (r : EvRec), ∃ (n : Nat), Admitted s h (.eventRead h r.seq n) ∧ 1 ≤ n
      ∧ n ≤ 128 ∧ (s.heard h).nvm.records = [r] ∧ r.payload.length ≤ 24)
    ∧ (∃ (s : State), ∃ (h : Hdr), ∃ (n first : Nat), Admitted s h (.eventRead h first n) ∧ (n = 0 ∨ 128 < n))
    ∧ (∃ (s : State), ∃ (h : Hdr), ∃ (sev : Option Nat), Admitted s h (.eventNotify h sev) ∧ sev.getD 0 ≤ 3)
    ∧ (∃ (s : State), ∃ (h : Hdr), ∃ (mask : Word), Admitted s h (.evtAck h mask))
    ∧ (∃ (s : State), ∃ (h : Hdr), Admitted s h (.timeQuery h))
    ∧ (∃ (s : State), ∃ (h : Hdr), ∃ (e : Nat), Admitted s h (.epochSet h e) ∧ (s.heard h).anyRuns = false
      ∧ e < 2 ^ 64)
    ∧ (∃ (s : State), ∃ (h : Hdr), ∃ (e : Nat), Admitted s h (.epochSet h e) ∧ (s.heard h).anyRuns = true) :=
  ⟨⟨wOn, wHdr, 65535, 15, atOnce_of (by decide +kernel), by decide +kernel⟩
  , ⟨wOn, wHdr, 15, admitted_of (by decide +kernel), by decide +kernel⟩
  , ⟨wOn, wHdr, 0, 128, admitted_of (by decide +kernel), by decide +kernel⟩
  , ⟨{ wOn with nvm := { wOn.nvm with records := [wRec] } }, wHdr, wRec, 1, admitted_of (by decide +kernel),
    by decide +kernel⟩
  , ⟨wOn, wHdr, 129, 0, admitted_of (by decide +kernel), by decide +kernel⟩
  , ⟨wOn, wHdr, some 3, admitted_of (by decide +kernel), by decide +kernel⟩
  , ⟨wOn, wHdr, 0, admitted_of (by decide +kernel)⟩
  , ⟨wOn, wHdr, admitted_of (by decide +kernel)⟩
  , ⟨wOn, wHdr, 2 ^ 64 - 1, admitted_of (by decide +kernel), by decide +kernel⟩
  , ⟨wRun, wHdr, 0, admitted_of (by decide +kernel), by decide +kernel⟩⟩

theorem witness_ShardEvents :
    (∃ (s : State), ∃ (g : GroupIx), ∃ (ident : Option Nat), ∃ (i : Nat), ∃ (l : Load), ∃ (p t : Nat),
      s.loading? g.val ident = some l ∧ i < l.manifest.shards.length
      ∧ (l.shards.getD i ShardState.init).verified = false ∧ (l.shards.getD i ShardState.init).active = none
      ∧ l.activeShards.length < 32 ∧ (∀ k, k < i → 0 < (l.shards.getD k ShardState.init).attempts)
      ∧ s.nextTarget l i = some (p, t))
    ∧ (∃ (s : State), ∃ (g : GroupIx), ∃ (ident : Option Nat), ∃ (i : Nat), ∃ (l : Load), ∃ (t : Nat),
      s.loading? g.val ident = some l ∧ (l.shards.getD i ShardState.init).active = some t)
    ∧ (∃ (s : State), ∃ (g : GroupIx), ∃ (ident : Option Nat), ∃ (i : Nat), ∃ (l : Load),
      s.loading? g.val ident = some l ∧ (l.shards.getD i ShardState.init).active = none)
    ∧ (∃ (s : State), ∃ (g : Nat), ∃ (ident : Option Nat), ∃ (i : Nat), ∃ (l : Load), ∃ (_b : Bool),
      s.loading? g ident = some l ∧ i < l.manifest.shards.length
      ∧ (l.shards.getD i ShardState.init).verified = false ∧ 4 ≤ (l.shards.getD i ShardState.init).attempts
      ∧ (∀ k, k < i → s.hopeless l k = false))
    ∧ (∃ (s : State), ∃ (g : GroupIx), ∃ (ident : Option Nat), ∃ (i : Nat), ∃ (data : List Byte), ∃ (l : Load),
      ∃ (t : Nat), s.loading? g.val ident = some l ∧ (l.shards.getD i ShardState.init).active = some t
      ∧ Crypto.sha256 data ≠ (l.manifest.shards.getD i ⟨0, [], [], 0, 0⟩).digest)
    ∧ (∃ (s : State), ∃ (g : GroupIx), ∃ (i : Nat), ∃ (data : List Byte), ∃ (l : Load), ∃ (t : Nat),
      ∃ (s1 : State), ∃ (l2 : Load), s.loading? g.val none = some l
      ∧ (l.shards.getD i ShardState.init).active = some t ∧ data.length = (l.manifest.shards.getD i ⟨0, [], [], 0,
      0⟩).len ∧ Crypto.sha256 data = (l.manifest.shards.getD i ⟨0, [], [], 0, 0⟩).digest
      ∧ s.convertReady g.val none i { l with shards := (l.shards.put i { (l.shards.getD i ShardState.init) with active := none, verified := true }), data := l.data.put i data } = some (s1,
      l2) ∧ l2.complete = false)
    ∧ (∃ (s : State), ∃ (g : GroupIx), ∃ (i : Nat), ∃ (data : List Byte), ∃ (l : Load), ∃ (t : Nat),
      ∃ (s1 : State), ∃ (l2 : Load), s.loading? g.val none = some l
      ∧ (l.shards.getD i ShardState.init).active = some t ∧ data.length = (l.manifest.shards.getD i ⟨0, [], [], 0,
      0⟩).len ∧ Crypto.sha256 data = (l.manifest.shards.getD i ⟨0, [], [], 0, 0⟩).digest
      ∧ s.convertReady g.val none i { l with shards := (l.shards.put i { (l.shards.getD i ShardState.init) with active := none, verified := true }), data := l.data.put i data } = some (s1,
      l2) ∧ l2.complete = true) :=
  ⟨⟨wFetch (wLoad15 ShardState.init), 0, none, 0, wLoad15 ShardState.init, 0, 15, by decide +kernel⟩
  , ⟨wFetch (wLoad15 wTried), 0, none, 0, wLoad15 wTried, 15, by decide +kernel⟩
  , ⟨wFetch (wLoad15 ShardState.init), 0, none, 0, wLoad15 ShardState.init, by decide +kernel⟩
  , ⟨wFetch (wLoad15 { wTried with attempts := 4, active := none }), 0, none, 0,
    wLoad15 { wTried with attempts := 4, active := none }, true, by decide +kernel⟩
  , ⟨wFetch (wLoad15 wTried), 0, none, 0, [1], wLoad15 wTried, 15, by decide +kernel⟩
  , ⟨wFetch wLoad2, 0, 0, [], wLoad2, 15, _, _, by decide +kernel, by decide +kernel, by decide +kernel, rfl,
    w_get2 (by decide +kernel), by decide +kernel⟩
  , ⟨wFetch (wLoad15 wTried), 0, 0, [], wLoad15 wTried, 15, _, _, by decide +kernel, by decide +kernel,
    by decide +kernel, rfl, w_get2 (by decide +kernel), by decide +kernel⟩⟩

theorem witness_PlanVerification :
    (∃ (s : State), ∃ (g : GroupIx), ∃ (st : Staged), ∃ (bs : List Byte), (s.grp g.val).staged = some st
      ∧ st.phase = .verifying ∧ st.upload.bytes = some bs ∧ Crypto.sha256 bs ≠ st.upload.digest)
    ∧ (∃ (s : State), ∃ (g : GroupIx), ∃ (st : Staged), ∃ (bs : List Byte), ∃ (x : Session), ∃ (r : Nat),
      ∃ (p : Option Plan), (s.grp g.val).staged = some st ∧ st.phase = .verifying ∧ st.upload.bytes = some bs
      ∧ Crypto.sha256 bs = st.upload.digest ∧ s.session? st.upload.sess = some x
      ∧ verifyPlan bs ((List.range 8).filter x.plans.testBit) (s.grp g.val).chans.length (s.grp g.val).slots (s.bindingOk g.val) s.pkgThrottle = (.invalid r,
      p))
    ∧ (∃ (s : State), ∃ (g : GroupIx), (s.grp g.val).staged = none)
    ∧ (∃ (s : State), ∃ (g : Nat), ∃ (_st : Status), ∃ (_record : Nat), ∃ (x : Staged), ∃ (sess seq : Nat),
      (s.grp g).staged = some x ∧ x.origin = some (sess, seq) ∧ (∃ y, s.session? sess = some y))
    ∧ (∃ (s : State), ∃ (g : Nat), ∃ (_st : Status), ∃ (_record : Nat), (s.grp g).staged = none
      ∧ (s.grp g).ticking = true) :=
  ⟨⟨wUpload { wStaged with phase := .verifying }, 0, { wStaged with phase := .verifying }, [1], by decide +kernel⟩
  , ⟨wUpload (wCommitted [0, 0, 0, 0, 3]), 0, wCommitted [0, 0, 0, 0, 3], [0, 0, 0, 0, 3], wSess, noRecord, none,
    by decide +kernel⟩
  , ⟨wIdle, 0, by decide +kernel⟩
  , ⟨wUpload (wCommitted []), 0, .ok, 0, wCommitted [], 5, 1, by decide +kernel, by decide +kernel, ⟨_, rfl⟩⟩
  , ⟨wRun, 0, .ok, 2, by decide +kernel⟩⟩

theorem witness_BoundaryEvents :
    (∃ (s : State), ∃ (g : GroupIx), ∃ (_lost : List CoreIx), ∃ (b : Nat), s.boundaryOf g.val = some b
      ∧ s.serving = true ∧ (s.grp g.val).markSent = false)
    ∧ (∃ (s : State), ∃ (g _b : Nat), (∀ c ∈ s.groupCores g, s.coreOnMesh c = false))
    ∧ (∃ (s : State), ∃ (g _b : Nat), s.groupCores g ≠ [] ∧ (∀ c ∈ s.groupCores g, s.coreOnMesh c = true))
    ∧ (∃ (s : State), ∃ (g : GroupIx), ∃ (_lost : List CoreIx), ∃ (b : Nat), s.boundaryOf g.val = some b
      ∧ s.serving = true ∧ (s.grp g.val).markSent = true ∧ (s.grp g.val).unmarked ≠ [])
    ∧ (∃ (s : State), ∃ (g : GroupIx), ∃ (b : Nat), s.boundaryOf g.val = some b ∧ s.serving = true
      ∧ (s.grp g.val).running = true ∧ (s.grp g.val).overrun = false)
    ∧ (∃ (s : State), ∃ (g : GroupIx), ∃ (b : Nat), s.boundaryOf g.val = some b ∧ s.serving = true
      ∧ (s.grp g.val).running = false)
    ∧ (∃ (s : State), ∃ (g : GroupIx), s.boundaryOf g.val = none)
    ∧ (∃ (s : State), ∃ (g b : Nat), let n := s.tickNumber g b;
      let s2 := ((((s.closeTick g).updGrp g (fun x => { x with tick := n, boundary := b })).calibrateGroup g).commandStep g n b).showRejects g;
      (s2.grp g).formed = true)
    ∧ (∃ (s : State), ∃ (g : Nat), (s.grp g).current = none)
    ∧ (∃ (s : State), ∃ (g : Nat), (s.grp g).suspended = true) :=
  ⟨⟨wRun, 0, [], 4000000, by decide +kernel⟩
  , ⟨{ wRun with fabric := { wRun.fabric with segTrained := true } }, 0, 4000000, by decide +kernel⟩
  , ⟨wRun, 0, 4000000, by decide +kernel⟩
  , ⟨{ wRun with groups := [(0, { wGrp with markSent := true, unmarked := [0] })] }, 0, [], 4000000,
    by decide +kernel⟩
  , ⟨wRun, 0, 4000000, by decide +kernel⟩
  , ⟨{ wRun with groups := [(0, { wGrp with running := false })] }, 0, 4000000, by decide +kernel⟩
  , ⟨wIdle, 0, by decide +kernel⟩
  , ⟨wRun, 0, 4000000, by decide +kernel⟩
  , ⟨wIdle, 0, by decide +kernel⟩
  , ⟨{ wRun with groups := [(0, { wGrp with suspended := true })] }, 0, by decide +kernel⟩⟩

theorem witness_BoundaryOrder :
    (∃ (s : State), ∃ (h : Hdr), ∃ (i : Instr), ∃ (o : OpInfo), Admitted s h i ∧ opInfo i = some o
      ∧ o.boundary = true ∧ submitOf i = none ∧ (s.heard h).mustWait i h.tag = true)
    ∧ (∃ (s _base : State), ∃ (_tick : Nat), ∃ (_seen : List Nat), ∃ (x : Held), ∃ (o : OpInfo),
      opInfo x.cmd = some o ∧ (s.session? x.sess).isSome = true ∧ s.replaces x.cmd = none
      ∧ (runHost s x.cmd).done = true)
    ∧ (∃ (s base : State), ∃ (_tick : Nat), ∃ (_seen : List Nat), ∃ (x : Held), ∃ (o : OpInfo),
      opInfo x.cmd = some o ∧ (s.session? x.sess).isSome = true ∧ s.replaces x.cmd = none
      ∧ (runHost s x.cmd).done = false ∧ (runHost base x.cmd).done = true) :=
  ⟨⟨wRun, wHdr, .planRetire wHdr 0, _, admitted_of (by decide +kernel), rfl, by decide +kernel⟩
  , ⟨wRun, wRun, 4, [], wWait (.planRetire wHdr 0), _, rfl, by decide +kernel⟩
  , ⟨{ wRun with reqs := [{ wReq with slot := some 0 }] }, wRun, 4, [], wWait (.planRetire wHdr 0), _, rfl,
    by decide +kernel⟩⟩

theorem witness_TickEvents :
    (∃ (s : State), ∃ (g : GroupIx), ∃ (v : Variant), (s.grp g.val).variant = some v ∧ (s.grp g.val).ticked = true
      ∧ (s.grp g.val).maint = false ∧ v.maint ≠ 0)
    ∧ (∃ (s : State), ∃ (g : GroupIx), ∃ (_clock : Nat), (s.grp g.val).running = true ∧ s.workDone g.val = true
      ∧ s.tokensDone g.val = true)
    ∧ (∃ (s : State), ∃ (g : GroupIx), ∃ (_clock : Nat),
      ((s.grp g.val).running = false ∨ s.workDone g.val = false ∨ s.tokensDone g.val = false))
    ∧ (∃ (s : State), ∃ (g : GroupIx), ∃ (sess : Nat), ∃ (x : Session), (s.grp g.val).running = true
      ∧ sess ∈ s.frameSessions g.val ∧ sess ∉ (s.grp g.val).framed ∧ s.samplingDone g.val sess = true
      ∧ s.session? sess = some x)
    ∧ (∃ (_s : State), ∃ (r : Req), ∃ (token : Nat), r.ending ≠ some 5 ∧ r.f.stops.contains token = true)
    ∧ (∃ (_s : State), ∃ (r : Req), ∃ (token : Nat), r.ending ≠ some 5 ∧ r.f.stops.contains token = false
      ∧ r.f.ignoreEnd = true ∧ r.f.maxNew ≤ r.sent + 1) :=
  ⟨⟨{ wRun with groups := [(0, { wGrp with current := some { wPlaced with plan := { wPlan with variants := [{ wVariant with maint := 256 }] } } })] },
    0, { wVariant with maint := 256 }, by decide +kernel⟩
  , ⟨wRun, 0, 100, by decide +kernel⟩
  , ⟨wIdle, 0, 100, by decide +kernel⟩
  , ⟨wSeated wReq, 0, 5, wSess, by decide +kernel⟩
  , ⟨wOn, { wReq with f := { wReqF with stops := [7] } }, 7, by decide +kernel⟩
  , ⟨wOn, { wReq with f := { wReqF with ignoreEnd := true } }, 8, by decide +kernel⟩⟩

theorem witness_BalancerLimits :
    (∃ (s : State), ∃ (g : GroupIx), ∃ (pl : PlacedPlan), (s.grp g.val).current = some pl
      ∧ (s.grp g.val).running = true ∧ (s.grp g.val).lastPhase = true)
    ∧ (∃ (s : State), ∃ (g : GroupIx), (s.grp g.val).current = none) :=
  ⟨⟨wRun, 0, wPlaced, by decide +kernel⟩
  , ⟨wIdle, 0, by decide +kernel⟩⟩

theorem witness_Sampling :
    (∃ (s : State), ∃ (g : GroupIx), ∃ (sess req : Nat), ∃ (c : CoreIx), ∃ (v : VReg), ∃ (r : Req),
      ∃ (token : Nat), s.req? sess req = some r ∧ r.group = g.val ∧ r.slot.isSome = true ∧ r.token = none
      ∧ (s.grp g.val).running = true ∧ (s.grp g.val).lastPhase = true ∧ s.mayIssue c.val clsSample 0 = true
      ∧ r.draw ((s.vreg c.val v).zipIdx.map (fun x => (0 + x.2,
      r.penalised (0 + x.2) x.1))) (((s.ctx? r.f.ctx).map (fun c => c.length + c.grow.length)).getD 0) = some token)
    ∧ (∃ (s : State), ∃ (_g : GroupIx), ∃ (sess req : Nat), ∃ (_l : List (CoreIx × VReg)), ∃ (r : Req),
      s.req? sess req = some r ∧ r.token.isSome = true)
    ∧ (∃ (s : State), ∃ (_g : GroupIx), ∃ (_sess _req : Nat), ∃ (l : List (CoreIx × VReg)), ∃ (p : CoreIx × VReg),
      p ∈ l ∧ s.mayIssue p.1.val clsSample 0 = false)
    ∧ (∃ (r : Req), ∃ (l : List (Nat × Word)), ∃ (_pos : Nat), ∃ (top : Nat × Word),
      (fpValue r.f.temperature).num = 0 ∧ argMax l = some top)
    ∧ (∃ (_r : Req), ∃ (l : List (Nat × Word)), ∃ (_pos : Nat), argMax l = none) :=
  ⟨⟨wTurn 0x21 0 { wRun with cores := [(0, { wCore with vreg := [(0, [0, 0x3F800000])] })], reqs := [{ wReq with slot := some 0 }] },
    0, 5, 1, 0, 0, { wReq with slot := some 0 }, 1, by decide +kernel⟩
  , ⟨{ wRun with reqs := [{ wReq with token := some 4 }] }, 0, 5, 1, [], { wReq with token := some 4 },
    by decide +kernel⟩
  , ⟨wRun, 0, 5, 1, [(0, 0)], (0, 0), by decide +kernel, by decide +kernel⟩
  , ⟨wReq, [(0, 0x3F800000)], 0, (0, 0x3F800000), by decide +kernel⟩
  , ⟨wReq, [], 0, by decide +kernel⟩⟩

theorem witness_ContextMoves :
    (∃ (s : State), ∃ (i : Nat), ∃ (_leftOut : List (Nat × Nat)), ∃ (c : Ctx), s.ctx? i = some c
      ∧ c.state = .suspending)
    ∧ (∃ (s : State), ∃ (i : Nat), ∃ (_leftOut : List (Nat × Nat)), ∃ (c : Ctx), s.ctx? i = some c
      ∧ c.state ≠ .suspending)
    ∧ (∃ (s : State), ∃ (i : Nat), ∃ (_bad : List (Nat × Nat)), ∃ (c : Ctx), s.ctx? i = some c
      ∧ c.state = .restoring)
    ∧ (∃ (s : State), ∃ (i : Nat), ∃ (b : List Byte), ∃ (_bad : List (Nat × Nat)), ∃ (c x : Ctx), ∃ (start : Nat),
      s.ctx? i = some c ∧ c.state = .restoring ∧ s.targetUsable c.backing.target c.backing.ns = true
      ∧ s.contextOf c.group b = some (x, start) ∧ x.key = c.key ∧ x.tenant = c.tenant ∧ x.group = c.group
      ∧ 6 ≤ x.budget ∧ x.budget ≤ 512
      ∧ s.reserveGranules { x with homeDie := c.homeDie } ≤ s.dieFree c.group c.homeDie) :=
  ⟨⟨wHeld { wCtx with state := .suspending }, 9, [], { wCtx with state := .suspending }, by decide +kernel⟩
  , ⟨wHeld wCtx, 9, [], wCtx, by decide +kernel⟩
  , ⟨wHeld { wCtx with state := .restoring }, 9, [], { wCtx with state := .restoring }, by decide +kernel⟩
  , ⟨{ wDisk with contexts := [(9, { wCtx with state := .restoring, backing := ⟨15, 1, 0, 64⟩ })] }, 9,
    wCtx.recordImage, [], { wCtx with state := .restoring, backing := ⟨15, 1, 0, 64⟩ }, _, _, rfl, rfl,
    by decide +kernel, w_get2 (by decide +kernel), by decide +kernel, by decide +kernel, by decide +kernel,
    by decide +kernel, by decide +kernel, by decide +kernel⟩⟩

theorem witness_Loads :
    (∃ (s : State), ∃ (d : LoadDesc), ∃ (_late n : Nat),
      ∃ (x : List (List Int) × Nat × List Nat × Nat × List ListEntry), s.loadOpen d = true ∧ s.entryLost d = false
      ∧ d.kv = none ∧ n ≤ 4 ∧ (∀ a ∈ s.loadAddrs d, a < deviceGranules ∧ s.poison.contains a = false)
      ∧ corruptGranules d.fmt ((s.loadAddrs d).map s.granule) = []
      ∧ decodeTile d.fmt ((s.loadAddrs d).map s.granule) = some x)
    ∧ (∃ (s : State), ∃ (d : LoadDesc), ∃ (errs : List GranErr), ∃ (_late n : Nat),
      ∃ (r : List (Option Nat × Bool)), s.loadOpen d = true ∧ s.entryLost d = false ∧ d.kv = none ∧ n ≤ 4
      ∧ (∀ a ∈ s.loadAddrs d, a < deviceGranules)
      ∧ r = s.loadRead (s.loadAddrs d) (errs.filter (fun e => (s.freshAddrs d false).contains ((s.loadAddrs d).getD e.idx 0)))
      ∧ r.any (fun p => p.1.isNone) = true)
    ∧ (∃ (s : State), ∃ (d : LoadDesc), ∃ (_late n : Nat), s.loadOpen d = true ∧ s.entryLost d = false
      ∧ d.kv = none ∧ n ≤ 4 ∧ (∀ a ∈ s.loadAddrs d, a < deviceGranules ∧ s.poison.contains a = false)
      ∧ corruptGranules d.fmt ((s.loadAddrs d).map s.granule) ≠ [])
    ∧ (∃ (s : State), ∃ (d : LoadDesc), ∃ (_errs : List GranErr), ∃ (_late _n : Nat), s.loadOpen d = true
      ∧ s.entryLost d = true)
    ∧ (∃ (s : State), ∃ (d : LoadDesc), ∃ (_errs : List GranErr), ∃ (_late _n a : Nat), s.loadOpen d = true
      ∧ s.entryLost d = false ∧ (s.loadAddrs d).find? (fun a => decide (deviceGranules ≤ a)) = some a)
    ∧ (∃ (s : State), ∃ (d : LoadDesc), ∃ (_errs : List GranErr), ∃ (_late n : Nat), s.loadOpen d = true
      ∧ s.entryLost d = false ∧ (∀ a ∈ s.loadAddrs d, a < deviceGranules) ∧ 4 < n)
    ∧ (∃ (s : State), ∃ (d : LoadDesc), ∃ (_errs : List GranErr), ∃ (_late _n : Nat), s.loadOpen d = false)
    ∧ (∃ (s : State), ∃ (c : CoreIx), ∃ (_e : EngIx), ∃ (_b : Bool), ∃ (_errs : SymErrs), ∃ (_stall : Nat),
      s.unitRuns c.val = true)
    ∧ (∃ (s : State), ∃ (c : CoreIx), ∃ (_e : EngIx), ∃ (_b : Bool), ∃ (_errs : SymErrs), ∃ (_stall : Nat),
      s.unitRuns c.val = false)
    ∧ (∃ (s : State), ∃ (c : Nat), (∀ e, e < 16 → (s.eng (c * 16 + e)).run = []) ∧ (∀ k, (s.tile c k).held = []))
    ∧ (∃ (s : State), ∃ (c : CoreIx), ∃ (e : EngIx), ∃ (b : Bool), ∃ (errs : SymErrs), ∃ (_stall : Nat),
      ∃ (r : Reread), ∃ (i j : Nat), ∃ (rest : List Nat), ∃ (v : Nat), ∃ (f : Bool),
      (s.arr (arrKey c e b)).reread = some r ∧ r.todo = i :: j :: rest
      ∧ s.readOnce ((s.loadAddrs r.desc).getD i 0) errs = (some v, f))
    ∧ (∃ (s : State), ∃ (c : CoreIx), ∃ (e : EngIx), ∃ (b : Bool), ∃ (errs : SymErrs), ∃ (_stall : Nat),
      ∃ (r : Reread), ∃ (i v : Nat), ∃ (f : Bool), (s.arr (arrKey c e b)).reread = some r ∧ r.todo = [i]
      ∧ s.readOnce ((s.loadAddrs r.desc).getD i 0) errs = (some v, f))
    ∧ (∃ (s : State), ∃ (c : CoreIx), ∃ (e : EngIx), ∃ (b : Bool), ∃ (errs : SymErrs), ∃ (_stall : Nat),
      ∃ (r : Reread), ∃ (i : Nat), ∃ (rest : List Nat), (s.arr (arrKey c e b)).reread = some r ∧ r.desc.core = c
      ∧ r.desc.eng = e ∧ r.desc.arrB = b ∧ r.todo = i :: rest
      ∧ (s.readOnce ((s.loadAddrs r.desc).getD i 0) errs).1 = none) :=
  ⟨⟨wTurn 1 0 wRun, wDesc, 0, 0, _, by decide +kernel, by decide +kernel, by decide +kernel, by decide +kernel,
    by decide +kernel, by decide +kernel, w_get (by decide +kernel)⟩
  , ⟨wTurn 1 0 wRun, wDesc, [⟨3, [(0, 1), (1, 1)], []⟩], 0, 0, _, by decide +kernel, by decide +kernel,
    by decide +kernel, by decide +kernel, by decide +kernel, rfl, by decide +kernel⟩
  , ⟨{ wTurn 1 0 wRun with mem := [(8192, 255)] }, wDesc, 0, 0, by decide +kernel⟩
  , ⟨{ wTurn 1 0 wRun with insts := [(0, ⟨some { wGen with lostTiles := [0] }, none, [], 0⟩)] }, wDesc, [], 0, 0,
    by decide +kernel⟩
  , ⟨wTurn 1 0 wRun, { wDesc with addr := 29999999999 }, [], 0, 0, 30000000000, by decide +kernel⟩
  , ⟨wTurn 1 0 wRun, wDesc, [], 0, 5, by decide +kernel⟩
  , ⟨wRun, wDesc, [], 0, 0, by decide +kernel⟩
  , ⟨wRun, 0, 0, false, [], 0, by decide +kernel⟩
  , ⟨{ wRun with clocks := { wRun.clocks with allGated := true } }, 0, 0, false, [], 0, by decide +kernel⟩
  , ⟨wRun, 0, by decide +kernel, (fun _ => rfl)⟩
  , ⟨wRereads [1, 2], 0, 0, false, [], 0, wReread [1, 2], 1, 2, [], 0, false, by decide +kernel⟩
  , ⟨wRereads [1], 0, 0, false, [], 0, wReread [1], 1, 0, false, by decide +kernel⟩
  , ⟨wRereads [1], 0, 0, false, [(0, 1), (1, 1)], 0, wReread [1], 1, [], by decide +kernel⟩⟩

theorem witness_FireReadings :
    (∃ (s : State), ∃ (op : FireOp), ∃ (_w : Tile), ∃ (l : List Elem), ∃ (_env : FireEnv),
      (driven l 0 256).isEmpty = true ∧ s.zeroDetect op = true)
    ∧ (∃ (s : State), ∃ (op : FireOp), ∃ (_w : Tile), ∃ (l : List Elem), ∃ (env : FireEnv),
      ((driven l 0 256).isEmpty && s.zeroDetect op) = false
      ∧ weirFlags (s.arr op.key) (driven l 0 256) ++ env.faults ≠ [])
    ∧ (∃ (s : State), ∃ (op : FireOp), ∃ (_w : Tile), ∃ (l : List Elem), ∃ (env : FireEnv),
      ((driven l 0 256).isEmpty && s.zeroDetect op) = false ∧ weirFlags (s.arr op.key) (driven l 0 256) = []
      ∧ env.faults = [] ∧ env.store = []) :=
  ⟨⟨wRun, wOp, wTile, [], wEnv, by decide +kernel⟩
  , ⟨wFire wEntry, wOp, wTile, [(false, 1)], ⟨[], [(0, false)], [], 0⟩, by decide +kernel⟩
  , ⟨wFire wEntry, wOp, wTile, [(false, 1)], wEnv, by decide +kernel⟩⟩

theorem witness_CorrectedReading :
    (∃ (cal : ArrayCal), ∃ (c : Nat), ∃ (d n : Int),
      n = (4 * d - ((colVal cal c).o + cal.drift.oA)) * ((colVal cal c).g * cal.drift.gA))
    ∧ (∃ (cal : ArrayCal), ∃ (c : Nat), ∃ (d n : Int),
      n = (4 * d - ((colVal cal c).o + cal.drift.oA)) * ((colVal cal c).g * cal.drift.gA)
      ∧ 2 * (corrected cal c d * 2 ^ 32 - n).natAbs = 2 ^ 32)
    ∧ (∃ (cal : ArrayCal), ∃ (c : Nat), ∃ (_d : Int), (colVal cal c).g = 0x8000 ∧ (colVal cal c).o = 0
      ∧ cal.drift.gA = 0x8000 ∧ cal.drift.oA = 0)
    ∧ (∃ (cal : ArrayCal), ∃ (c : Nat), (colVal cal c).g = 0xFFFF ∧ (colVal cal c).o = 0 ∧ cal.drift.gA = 0x8000
      ∧ cal.drift.oA = 0)
    ∧ (∃ (_a : ArrayState), ∃ (_act : List (Nat × Elem)), ∃ (_dev : Deviation), ∃ (c : Nat), c < 530) :=
  ⟨⟨ArrayCal.init, 3, 5, 5 * 2 ^ 32, by decide +kernel⟩
  , ⟨{ ArrayCal.init with inForce := [(3, ⟨16, 16, 8, 0x8000, 2⟩)] }, 3, 1, 2 ^ 31, by decide +kernel,
    by decide +kernel⟩
  , ⟨ArrayCal.init, 3, 5, by decide +kernel⟩
  , ⟨{ ArrayCal.init with inForce := [(3, ⟨16, 16, 8, 0xFFFF, 0⟩)] }, 3, by decide +kernel⟩
  , ⟨ArrayState.init, [], [], 3, by decide +kernel⟩⟩

theorem witness_FireDelivery :
    (∃ (s : State), ∃ (op : FireOp), ∃ (w : Tile), ∃ (x : Shot), ∃ (counts : List Int), ∃ (k : Nat),
      ∃ (m : Member), ∃ (d : Bool), s.compat op.core.val = false ∧ (k, m, d) ∈ s.members op w x counts)
    ∧ (∃ (s : State), ∃ (op : FireOp), ∃ (w : Tile), ∃ (x : Shot), ∃ (counts : List Int), ∃ (k : Nat),
      s.compat op.core.val = false ∧ (∀ p ∈ s.members op w x counts, p.1 ≠ k))
    ∧ (∃ (s : State), ∃ (op : FireOp), ∃ (_w : Tile), ∃ (_x : Shot), ∃ (_counts : List Int),
      s.compat op.core.val = true)
    ∧ (∃ (l : List Term), ∃ (w : Int), (∀ y ∈ l, y.i = 0 ∨ w ≤ y.p))
    ∧ (∃ (y : Term), ∃ (w : Int), y.i ≠ 0 ∧ y.p < w) :=
  ⟨⟨wFire wEntry, wOp, wTile, { wShot with lo := [(false, 1)] }, List.replicate 64 1, 0, _, _, by decide +kernel,
    List.getElem_mem (n := 0) (by decide +kernel)⟩
  , ⟨wFire wEntry, wOp, wTile, wShot, [], 5, by decide +kernel⟩
  , ⟨wOld, wOp, wTile, wShot, [], by decide +kernel⟩
  , ⟨[], 0, by decide +kernel⟩
  , ⟨⟨1, -5⟩, 0, by decide +kernel⟩⟩

theorem witness_FireCommands :
    (∃ (s : State), ∃ (op : FireOp), ∃ (env : FireEnv), ∃ (_twin : PairEnv), ∃ (w : Tile), ∃ (u : State),
      ∃ (h : HalfRes), ∃ (t : State), FireStarts s op clsFire { op with dense := false } w (s.entry op) u
      ∧ (s.entry op).wide = false ∧ u.fireHalf { op with dense := false } w (s.entry op).elems [env] = (some h, t)
      ∧ t.twinOf op.core.val = none ∧ ((h.cs || h.ref) = false ∨ t.stepsPend op w.fmt.outs [] = true))
    ∧ (∃ (s : State), ∃ (op : FireOp), ∃ (env : FireEnv), ∃ (_twin : PairEnv), ∃ (w : Tile), ∃ (u : State),
      ∃ (h : HalfRes), ∃ (t : State), FireStarts s op clsFire { op with dense := false } w (s.entry op) u
      ∧ (s.entry op).wide = false ∧ u.fireHalf { op with dense := false } w (s.entry op).elems [env] = (some h, t)
      ∧ t.twinOf op.core.val = none ∧ (h.cs || h.ref) = true ∧ t.stepsPend op w.fmt.outs [] = false)
    ∧ (∃ (s : State), ∃ (op : FireOp), ∃ (env : FireEnv), ∃ (_twin : PairEnv), ∃ (w : Tile), ∃ (u t : State),
      FireStarts s op clsFire { op with dense := false } w (s.entry op) u ∧ (s.entry op).wide = false
      ∧ u.fireHalf { op with dense := false } w (s.entry op).elems [env] = (none, t)
      ∧ t.twinOf op.core.val = none)
    ∧ (∃ (s : State), ∃ (op : FireOp), ∃ (_env : FireEnv), ∃ (_twin : PairEnv), ∃ (w : Tile), ∃ (u : State),
      FireStarts s op clsFire { op with dense := false } w (s.entry op) u ∧ (s.entry op).wide = true)
    ∧ (∃ (s : State), ∃ (op : FireOp), ∃ (_env : FireEnv), ∃ (_twin : PairEnv), s.fireOpen op = true
      ∧ s.mayIssue op.core.val clsFire op.part = true ∧ (s.arr op.key).tile = none ∧ s.compat op.core.val = false)
    ∧ (∃ (s : State), ∃ (op : FireOp), ∃ (env _twin : PairEnv), ∃ (w : Tile), ∃ (l : BufEntry), ∃ (u : State),
      ∃ (a : HalfRes), ∃ (t : State), ∃ (b : HalfRes), ∃ (v : State),
      l = s.entry { op with entry := (op.entry + 1) % 64 }
      ∧ FireStarts s op clsFirePair op w ((s.entry op).paired l) u
      ∧ u.fireHalf op w (s.entry op).elems env.hi = (some a, t) ∧ t.fireHalf op w l.elems env.lo = (some b, v)
      ∧ (v.engBump op Reg.NIBBLE_PAIRS 1).twinOf op.core.val = none ∧ (a.cs || a.ref || b.cs || b.ref) = false)
    ∧ (∃ (s : State), ∃ (op : FireOp), ∃ (envs : List FireEnv), ∃ (_twin : PairEnv), ∃ (w : Tile), ∃ (u : State),
      ∃ (h : HalfRes), ∃ (t : State), FireStarts s op clsFireDense { op with dense := true } w (s.entry op) u
      ∧ (s.entry op).wide = false ∧ u.fireHalf { op with dense := true } w (s.entry op).elems envs = (some h, t)
      ∧ t.twinOf op.core.val = none ∧ (h.cs || h.ref) = false)
    ∧ (∃ (_s : State), ∃ (op : FireOp), ∃ (_w : Tile), ∃ (_l : List Elem), ∃ (_envs : List FireEnv),
      op.dense = false)
    ∧ (∃ (_s : State), ∃ (op : FireOp), ∃ (_w : Tile), ∃ (_l : List Elem), ∃ (_envs : List FireEnv),
      op.dense = true)
    ∧ (∃ (s : State), ∃ (op : FireOp), ∃ (t : Tile), ∃ (_b : BufEntry), ∃ (x : Shot), ∃ (hi lo h : HalfRes),
      ∃ (j : Nat), twinMismatch t.fmt x.pair (x.whole hi lo).counts h.counts = some j
      ∧ s.stepsPend op t.fmt.outs x.skip = false)
    ∧ (∃ (s : State), ∃ (op : FireOp), ∃ (_env : FireEnv), ∃ (_env2 : PairEnv), ∃ (_envs : List FireEnv),
      ∃ (_twin : PairEnv), s.fireOpen op = false)
    ∧ (∃ (s : State), ∃ (op : FireOp), ∃ (_env : FireEnv), ∃ (_env2 : PairEnv), ∃ (_envs : List FireEnv),
      ∃ (_twin : PairEnv), s.mayIssue op.core.val clsFire op.part = false)
    ∧ (∃ (s : State), ∃ (op : FireOp), ∃ (_env : FireEnv), ∃ (_env2 : PairEnv), ∃ (_envs : List FireEnv),
      ∃ (_twin : PairEnv), s.mayIssue op.core.val clsFirePair op.part = false)
    ∧ (∃ (s : State), ∃ (op : FireOp), ∃ (_env : FireEnv), ∃ (_env2 : PairEnv), ∃ (_envs : List FireEnv),
      ∃ (_twin : PairEnv), s.mayIssue op.core.val clsFireDense op.part = false) :=
  ⟨⟨wTurn 2 0 (wFire BufEntry.empty), wOp, wEnv, wPair, wTile, _, _, _, ⟨by decide +kernel, by decide +kernel,
    by decide +kernel, rfl⟩, by decide +kernel, w_some (by decide +kernel), by decide +kernel, by decide +kernel⟩
  , ⟨wTurn 2 0 (wFire wEntry), wOp, ⟨[(0, 1000)], [], [], 0⟩, wPair, wTile, _, _, _, ⟨by decide +kernel,
    by decide +kernel, by decide +kernel, rfl⟩, by decide +kernel, w_some (by decide +kernel), by decide +kernel,
    by decide +kernel, by decide +kernel⟩
  , ⟨wTurn 2 0 (wFire wEntry), wOp, ⟨[], [(0, false)], [], 0⟩, wPair, wTile, _, _, ⟨by decide +kernel,
    by decide +kernel, by decide +kernel, rfl⟩, by decide +kernel, w_pair (by decide +kernel), by decide +kernel⟩
  , ⟨wTurn 2 0 (wFire { wEntry with wide := true }), wOp, wEnv, wPair, wTile, _, ⟨by decide +kernel,
    by decide +kernel, by decide +kernel, rfl⟩, by decide +kernel⟩
  , ⟨wTurn 2 0 wRun, wOp, wEnv, wPair, by decide +kernel⟩
  , ⟨wTurn 3 0 (wFire BufEntry.empty), wOp, wPair, wPair, wTile, _, _, _, _, _, _, rfl, ⟨by decide +kernel,
    by decide +kernel, by decide +kernel, rfl⟩, w_some (by decide +kernel), w_some (by decide +kernel),
    by decide +kernel, by decide +kernel⟩
  , ⟨wTurn 4 0 (wFire BufEntry.empty), wOp, [], wPair, wTile, _, _, _, ⟨by decide +kernel, by decide +kernel,
    by decide +kernel, rfl⟩, by decide +kernel, w_some (by decide +kernel), by decide +kernel, by decide +kernel⟩
  , ⟨wRun, wOp, wTile, [], [], by decide +kernel⟩
  , ⟨wRun, { wOp with dense := true }, wTile, [], [], by decide +kernel⟩
  , ⟨wRun, wOp, wTile, BufEntry.empty, wShot, wHalf, wHalf, { wHalf with counts := 1000 :: List.replicate 63 0 },
    0, by decide +kernel⟩
  , ⟨wEng { EngState.init with split := [wSplit] }, wOp, wEnv, wPair, [], wPair, by decide +kernel⟩
  , ⟨wRun, wOp, wEnv, wPair, [], wPair, by decide +kernel⟩
  , ⟨wRun, wOp, wEnv, wPair, [], wPair, by decide +kernel⟩
  , ⟨wRun, wOp, wEnv, wPair, [], wPair, by decide +kernel⟩⟩

theorem witness_ReplayCommands :
    (∃ (s : State), ∃ (c : CoreIx), ∃ (_e : EngIx), ∃ (_k : Fin 64), ∃ (_envs : List FireEnv),
      ∃ (_env _twin : PairEnv), ∃ (_pairs : List PairEnv), s.unitRuns c.val = true)
    ∧ (∃ (s : State), ∃ (c : CoreIx), ∃ (_e : EngIx), ∃ (_k : Fin 64), ∃ (_envs : List FireEnv),
      ∃ (_env _twin : PairEnv), ∃ (_pairs : List PairEnv), s.unitRuns c.val = false)
    ∧ (∃ (s : State), ∃ (c : CoreIx), ∃ (e : EngIx), ∃ (envs : List FireEnv), ∃ (p : PendingSplit),
      ∃ (rest : List PendingSplit), ∃ (w : Tile), ∃ (g : Nat), ∃ (t : State),
      (s.eng (engKey c e)).split = p :: rest ∧ p.op.core = c ∧ p.op.eng = e ∧ (s.arr p.op.key).tile = some w
      ∧ (s.core c.val).group = some g ∧ (p.hi.isSome = true ∨ p.lo.isSome = true) ∧ p.replay = none
      ∧ t = s.splitNext c.val e.val envs)
    ∧ (∃ (s : State), ∃ (c : CoreIx), ∃ (e : EngIx), ∃ (envs : List FireEnv), ∃ (p : PendingSplit),
      ∃ (rest : List PendingSplit), ∃ (w : Tile), ∃ (g : Nat), ∃ (t : State),
      (s.eng (engKey c e)).split = p :: rest ∧ p.op.core = c ∧ p.op.eng = e ∧ (s.arr p.op.key).tile = some w
      ∧ (s.core c.val).group = some g ∧ p.hi = none ∧ p.lo = none ∧ t = s.splitNext c.val e.val envs)
    ∧ (∃ (s : State), ∃ (c : CoreIx), ∃ (e : EngIx), ∃ (_envs : List FireEnv), (s.eng (engKey c e)).split = [])
    ∧ (∃ (s : State), ∃ (c e : Nat), e < 16 ∧ (s.eng (c * 16 + e)).split ≠ [])
    ∧ (∃ (s : State), ∃ (c w : Nat), s.nextReplay c = some w ∧ (s.core c).waitsFor = none ∧ ∃ (a : Nat), a < 32
      ∧ (s.eng (c * 16 + a / 2)).replays.any (fun p => p.op.key == c * 32 + a && s.replayStands p) = true)
    ∧ (∃ (s : State), ∃ (c w : Nat), s.nextReplay c = some w ∧ (s.core c).waitsFor = none ∧ ∃ (k : Nat), k < 64
      ∧ (s.tile c k).pending.isSome = true)
    ∧ (∃ (s : State), ∃ (c _e : Nat), ∃ (_env _twin : PairEnv), s.nextReplay c = none)
    ∧ (∃ (s : State), ∃ (c : CoreIx), ∃ (e : EngIx), ∃ (_env _twin : PairEnv), ∃ (k : Nat), ∃ (p : PendingReplay),
      ∃ (w : Tile), ∃ (u : State), s.nextReplay c.val = some k
      ∧ (s.eng (engKey c e)).replays.find? (fun p => p.op.key == c.val * 32 + k && s.replayStands p) = some p
      ∧ (s.arr p.op.key).tile = some w ∧ s.askReplay c.val (replayCost p.cause (s.compat c.val)) = (.served, u))
    ∧ (∃ (s : State), ∃ (c : CoreIx), ∃ (_e : EngIx), ∃ (p : PendingReplay), ∃ (_w : Tile),
      ∃ (_env _twin : PairEnv), p.cause < 7 ∧ s.compat c.val = false)
    ∧ (∃ (s : State), ∃ (c : CoreIx), ∃ (e : EngIx), ∃ (_env _twin : PairEnv), ∃ (k : Nat), ∃ (p : PendingReplay),
      ∃ (w : Tile), ∃ (u : State), s.nextReplay c.val = some k
      ∧ (s.eng (engKey c e)).replays.find? (fun p => p.op.key == c.val * 32 + k && s.replayStands p) = some p
      ∧ p.op.core = c ∧ (s.arr p.op.key).tile = some w ∧ p.cause ≠ 1
      ∧ s.askReplay c.val (replayCost p.cause (s.compat c.val)) = (.refused, u))
    ∧ (∃ (s : State), ∃ (c : CoreIx), ∃ (e : EngIx), ∃ (_env _twin : PairEnv), ∃ (k : Nat), ∃ (p : PendingReplay),
      ∃ (w : Tile), ∃ (u : State), s.nextReplay c.val = some k
      ∧ (s.eng (engKey c e)).replays.find? (fun p => p.op.key == c.val * 32 + k && s.replayStands p) = some p
      ∧ (s.arr p.op.key).tile = some w ∧ s.askReplay c.val (replayCost p.cause (s.compat c.val)) = (.waits, u))
    ∧ (∃ (s : State), ∃ (c : CoreIx), ∃ (k : Fin 64), ∃ (envs : List PairEnv), ∃ (cause : Nat), ∃ (u t : State),
      (s.tile c.val k.val).pending = some cause ∧ s.nextReplay c.val = some (32 + k.val)
      ∧ s.askReplay c.val (s.stepCost (s.tile c.val k.val)) = (.served, u) ∧ t = s.stepNext c.val k.val envs)
    ∧ (∃ (s : State), ∃ (c : CoreIx), ∃ (k : Fin 64), ∃ (envs : List PairEnv), ∃ (cause : Nat), ∃ (u t : State),
      (s.tile c.val k.val).pending = some cause ∧ s.nextReplay c.val = some (32 + k.val)
      ∧ s.askReplay c.val (s.stepCost (s.tile c.val k.val)) = (.refused, u) ∧ t = s.stepNext c.val k.val envs)
    ∧ (∃ (s : State), ∃ (c : CoreIx), ∃ (k : Fin 64), ∃ (_envs : List PairEnv), ∃ (cause : Nat), ∃ (u : State),
      (s.tile c.val k.val).pending = some cause ∧ s.nextReplay c.val = some (32 + k.val)
      ∧ s.askReplay c.val (s.stepCost (s.tile c.val k.val)) = (.waits, u))
    ∧ (∃ (s : State), ∃ (c k : Nat), ∃ (_envs : List PairEnv),
      ((s.tile c k).pending = none ∨ s.nextReplay c ≠ some (32 + k))) :=
  ⟨⟨wRun, 0, 0, 0, [], wPair, wPair, [], by decide +kernel⟩
  , ⟨{ wRun with clocks := { wRun.clocks with allGated := true } }, 0, 0, 0, [], wPair, wPair, [],
    by decide +kernel⟩
  , ⟨wEng { EngState.init with split := [wSplit] }, 0, 0, [], wSplit, [], wTile, 0, _, by decide +kernel,
    by decide +kernel, by decide +kernel, by decide +kernel, by decide +kernel, by decide +kernel,
    by decide +kernel, rfl⟩
  , ⟨wEng { EngState.init with split := [{ wSplit with hi := none }] }, 0, 0, [], { wSplit with hi := none }, [],
    wTile, 0, _, by decide +kernel, by decide +kernel, by decide +kernel, by decide +kernel, by decide +kernel,
    by decide +kernel, by decide +kernel, rfl⟩
  , ⟨wRun, 0, 0, [], by decide +kernel⟩
  , ⟨wEng { EngState.init with split := [wSplit] }, 0, 0, by decide +kernel⟩
  , ⟨wEng { EngState.init with replays := [wReplay] }, 0, 0, by decide +kernel, by decide +kernel, 0,
    by decide +kernel⟩
  , ⟨wCas { CasTile.clear 0 1 with pending := some 4 }, 0, 32, by decide +kernel, by decide +kernel, 0,
    by decide +kernel⟩
  , ⟨wRun, 0, 0, wPair, wPair, by decide +kernel⟩
  , ⟨wEng { EngState.init with replays := [wReplay] }, 0, 0, wPair, wPair, 0, wReplay, wTile, _,
    by decide +kernel, by decide +kernel, by decide +kernel, w_pair (by decide +kernel)⟩
  , ⟨wRun, 0, 0, wReplay, wTile, wPair, wPair, by decide +kernel⟩
  , ⟨wPoor (wEng { EngState.init with replays := [wReplay] }), 0, 0, wPair, wPair, 0, wReplay, wTile, _,
    by decide +kernel, by decide +kernel, by decide +kernel, by decide +kernel, by decide +kernel,
    w_pair (by decide +kernel)⟩
  , ⟨wShort (wEng { EngState.init with replays := [wReplay] }), 0, 0, wPair, wPair, 0, wReplay, wTile, _,
    by decide +kernel, by decide +kernel, by decide +kernel, w_pair (by decide +kernel)⟩
  , ⟨wCas { CasTile.clear 0 1 with pending := some 4 }, 0, 0, [], 4, _, _, by decide +kernel, by decide +kernel,
    w_pair (by decide +kernel), rfl⟩
  ,
    ⟨{ wRun with cores := [(0, { wCore with tiles := [(0, { CasTile.clear 0 1 with pending := some 4 })], credit := -5, noticed := true })] },
    0, 0, [], 4, _, _, by decide +kernel, by decide +kernel, w_pair (by decide +kernel), rfl⟩
  ,
    ⟨{ wRun with cores := [(0, { wCore with tiles := [(0, { CasTile.clear 0 1 with pending := some 4 })], credit := -5 })] },
    0, 0, [], 4, _, by decide +kernel, by decide +kernel, w_pair (by decide +kernel)⟩
  , ⟨wRun, 0, 0, [], by decide +kernel⟩⟩

theorem witness_LedgerCommands :
    (∃ (s : State), ∃ (c _n : Nat), (s.core c).group = none)
    ∧ (∃ (s : State), ∃ (c n g : Nat), (s.core c).group = some g ∧ (s.core c).noticed = false
      ∧ ((n + (s.core c).waitClocks : Nat) : Int) ≤ (s.core c).credit)
    ∧ (∃ (s : State), ∃ (c _n g : Nat), (s.core c).group = some g ∧ (s.core c).noticed = true)
    ∧ (∃ (s : State), ∃ (c : CoreIx), ∃ (_waited g k n : Nat), (s.core c.val).group = some g
      ∧ (s.grp g).topups.find? (fun t => t.1 == c.val) = some (k, n))
    ∧ (∃ (s : State), ∃ (c : CoreIx), (s.groupOf c.val).refused = true)
    ∧ (∃ (s : State), ∃ (c : CoreIx), (s.groupOf c.val).refused = false) :=
  ⟨⟨wOn, 0, 24, by decide +kernel⟩
  , ⟨wRun, 0, 24, 0, by decide +kernel⟩
  , ⟨wPoor wRun, 0, 24, 0, by decide +kernel⟩
  , ⟨{ wRun with groups := [(0, { wGrp with topups := [(0, 24)] })] }, 0, 10, 0, 0, 24, by decide +kernel⟩
  , ⟨{ wRun with groups := [(0, { wGrp with refused := true })] }, 0, by decide +kernel⟩
  , ⟨wRun, 0, by decide +kernel⟩⟩

theorem witness_CascadeCommands :
    (∃ (s : State), ∃ (c : CoreIx), ∃ (k : Fin 64), ∃ (_w : Int), ∃ (_g _hold : Nat),
      s.mayIssue c.val clsClear k.val = true ∧ s.tileHeld c.val k.val = false
      ∧ (s.tile c.val k.val).pending = none ∧ (s.tile c.val k.val).held = []
      ∧ (∀ n ∈ (s.tile c.val k.val).openGroups, (s.tile c.val k.val).groupFull n = false))
    ∧ (∃ (s : State), ∃ (c : CoreIx), ∃ (k : Fin 64), ∃ (_w : Int), ∃ (_g _hold : Nat),
      s.tileHeld c.val k.val = true ∧ s.mayIssue c.val clsClear k.val = true)
    ∧ (∃ (s : State), ∃ (c : CoreIx), ∃ (k : Fin 64), ∃ (_f : Option VReg), ∃ (_b _m : Bool),
      ∃ (_dst _hold : Nat), s.tileHeld c.val k.val = true ∧ s.mayIssue c.val clsDrain k.val = true)
    ∧ (∃ (s : State), ∃ (c _d : CoreIx), ∃ (k _j : Fin 64), ∃ (_hold : Nat), s.tileHeld c.val k.val = true
      ∧ s.mayIssue c.val clsExport k.val = true)
    ∧ (∃ (s : State), ∃ (c d : CoreIx), ∃ (k j : Fin 64), ∃ (_hold : Nat), s.tileHeld c.val k.val = true
      ∧ s.mayIssue c.val clsMerge k.val = true ∧ s.exportHere c.val k.val d.val j.val = true)
    ∧ (∃ (s : State), ∃ (c _d : CoreIx), ∃ (k _j : Fin 64), ∃ (_w : Int), ∃ (_g : Nat), ∃ (_f : Option VReg),
      ∃ (_b _m : Bool), ∃ (_dst : Nat), ∃ (_errs : List (Nat × SymErrs)), ∃ (_hold : Nat),
      s.mayIssue c.val clsClear k.val = false)
    ∧ (∃ (s : State), ∃ (c _d : CoreIx), ∃ (k _j : Fin 64), ∃ (_w : Int), ∃ (_g : Nat), ∃ (_f : Option VReg),
      ∃ (_b _m : Bool), ∃ (_dst : Nat), ∃ (_errs : List (Nat × SymErrs)), ∃ (_hold : Nat),
      s.mayIssue c.val clsDrain k.val = false)
    ∧ (∃ (s : State), ∃ (c _d : CoreIx), ∃ (k _j : Fin 64), ∃ (_w : Int), ∃ (_g : Nat), ∃ (_f : Option VReg),
      ∃ (_b _m : Bool), ∃ (_dst : Nat), ∃ (_errs : List (Nat × SymErrs)), ∃ (_hold : Nat),
      s.mayIssue c.val clsExport k.val = false ∧ s.owesRecord c.val clsExport k.val = false)
    ∧ (∃ (s : State), ∃ (c d : CoreIx), ∃ (k j : Fin 64), ∃ (_w : Int), ∃ (_g : Nat), ∃ (_f : Option VReg),
      ∃ (_b _m : Bool), ∃ (_dst : Nat), ∃ (_errs : List (Nat × SymErrs)), ∃ (_hold : Nat),
      (s.mayIssue c.val clsMerge k.val = false ∨ s.exportHere c.val k.val d.val j.val = false))
    ∧ (∃ (u : CasTile), ∃ (ms : List Member), ∃ (l : Nat), l < 64 ∧ l ∉ u.bound
      ∧ ms.all (fun m => m.beyond.all (fun o => o.1 != l)) = true ∧ laneMin ≤ u.lanes.getD l 0 + sumLanes ms l
      ∧ u.lanes.getD l 0 + sumLanes ms l ≤ laneMax)
    ∧ (∃ (u : CasTile), ∃ (ms : List Member), ∃ (l : Nat), l < 64 ∧ l ∉ u.bound
      ∧ (u.lanes.getD l 0 + sumLanes ms l < laneMin ∨ laneMax < u.lanes.getD l 0 + sumLanes ms l))
    ∧ (∃ (u : CasTile), ∃ (_ms : List Member), ∃ (l : Nat), l < 64 ∧ l ∈ u.bound)
    ∧ (∃ (s : State), ∃ (c : CoreIx), ∃ (k : Fin 64), ∃ (n : Nat), s.unitRuns c.val = true
      ∧ (s.tile c.val k.val).groupFull n = true)
    ∧ (∃ (s : State), ∃ (c k : Nat), (s.tile c k).held = [])
    ∧ (∃ (s : State), ∃ (c : CoreIx), ∃ (k : Fin 64), ∃ (n : Nat), s.unitRuns c.val = true
      ∧ (s.tile c.val k.val).groupFull n = false)
    ∧ (∃ (_s : State), ∃ (_c _k : Nat), ∃ (errs : List (Nat × SymErrs)), (∃ i, i < 24
      ∧ (eccRead 0 (((errs.find? (fun e => e.1 == i)).map (·.2)).getD [])).1 = none))
    ∧ (∃ (s : State), ∃ (c : CoreIx), ∃ (k : Fin 64), ∃ (_f : Option VReg), ∃ (_b _m : Bool),
      ∃ (_dst _hold : Nat), ∃ (u : CasTile), s.mayIssue c.val clsDrain k.val = true
      ∧ s.tileHeld c.val k.val = false ∧ (s.tile c.val k.val).held = [] ∧ (s.tile c.val k.val).pending = none
      ∧ u = (s.closeTile c.val k.val).tile c.val k.val ∧ u.pending = none)
    ∧ (∃ (s : State), ∃ (c _d : CoreIx), ∃ (k _j : Fin 64), ∃ (_hold : Nat), ∃ (u : CasTile),
      s.mayIssue c.val clsExport k.val = true ∧ s.tileHeld c.val k.val = false ∧ (s.tile c.val k.val).held = []
      ∧ (s.tile c.val k.val).pending = none ∧ u = (s.closeTile c.val k.val).tile c.val k.val ∧ u.pending = none)
    ∧ (∃ (s : State), ∃ (c d : CoreIx), ∃ (k _j : Fin 64), ∃ (_errs : List (Nat × SymErrs)), ∃ (_hold : Nat),
      s.owesRecord c.val clsExport k.val = true ∧ (s.core d.val).stopped = false)
    ∧ (∃ (s : State), ∃ (c d : CoreIx), ∃ (k j : Fin 64), ∃ (_hold : Nat), ∃ (u : CasTile), ∃ (x : HeldExport),
      s.mayIssue c.val clsMerge k.val = true ∧ s.tileHeld c.val k.val = false ∧ (s.tile c.val k.val).held = []
      ∧ (s.tile c.val k.val).pending = none ∧ u = (s.closeTile c.val k.val).tile c.val k.val ∧ u.pending = none
      ∧ (s.core c.val).exports.find? (fun e => e.srcCore == d.val && e.srcTile == j.val && e.dstTile == k.val) = some x
      ∧ x.exp.w = (s.tile c.val k.val).w) :=
  ⟨⟨wTurn 8 0 wRun, 0, 0, 0, 4, 0, by decide +kernel⟩
  , ⟨wTurn 8 0 (wEng { EngState.init with replays := [wReplay] }), 0, 0, 0, 4, 0, by decide +kernel⟩
  , ⟨wTurn 9 0 (wEng { EngState.init with replays := [wReplay] }), 0, 0, none, false, false, 0, 0,
    by decide +kernel⟩
  , ⟨wTurn 0xA 0 (wEng { EngState.init with replays := [wReplay] }), 0, 1, 0, 0, 0, by decide +kernel⟩
  ,
    ⟨wTurn 0xB 0 { wEng { EngState.init with replays := [wReplay] } with cores := [(0, { wCore with exports := [⟨1, 2, 0, ⟨List.replicate 64 1, 0, false, false⟩⟩] })] },
    0, 1, 0, 2, 0, by decide +kernel⟩
  , ⟨wRun, 0, 1, 0, 1, 0, 4, none, false, false, 0, [], 0, by decide +kernel⟩
  , ⟨wRun, 0, 1, 0, 1, 0, 4, none, false, false, 0, [], 0, by decide +kernel⟩
  , ⟨wRun, 0, 1, 0, 1, 0, 4, none, false, false, 0, [], 0, by decide +kernel⟩
  , ⟨wRun, 0, 1, 0, 1, 0, 4, none, false, false, 0, [], 0, by decide +kernel⟩
  , ⟨CasTile.clear 0 1, [⟨0, List.replicate 64 5, []⟩], 63, by decide +kernel⟩
  , ⟨CasTile.clear 0 1, [⟨0, List.replicate 64 (2 ^ 95), []⟩], 0, by decide +kernel⟩
  , ⟨{ CasTile.clear 0 1 with bound := [63] }, [], 63, by decide +kernel⟩
  , ⟨wCas { CasTile.clear 0 1 with members := [⟨0, List.replicate 64 1, []⟩] }, 0, 0, 0, by decide +kernel⟩
  , ⟨wRun, 0, 0, by decide +kernel⟩
  , ⟨wRun, 0, 0, 0, by decide +kernel⟩
  , ⟨wRun, 0, 0, [(0, [(0, 1), (1, 1)])], ⟨0, by decide +kernel⟩⟩
  , ⟨wTurn 9 0 (wCas (CasTile.clear 0 1)), 0, 0, none, false, false, 0, 0, _, by decide +kernel,
    by decide +kernel, by decide +kernel, by decide +kernel, rfl, by decide +kernel⟩
  , ⟨wTurn 0xA 0 (wCas (CasTile.clear 0 1)), 0, 1, 0, 0, 0, _, by decide +kernel, by decide +kernel,
    by decide +kernel, by decide +kernel, rfl, by decide +kernel⟩
  , ⟨wTurn 0xA 0 { wRun with cores := [(0, { wCore with stopped := true })] }, 0, 1, 0, 0, [], 0,
    by decide +kernel⟩
  ,
    ⟨wTurn 0xB 0 { wRun with cores := [(0, { wCore with tiles := [(0, CasTile.clear 0 1)], exports := [⟨1, 2, 0, ⟨List.replicate 64 1, 0, false, false⟩⟩] })] },
    0, 1, 0, 2, 0, _, ⟨1, 2, 0, ⟨List.replicate 64 1, 0, false, false⟩⟩, by decide +kernel, by decide +kernel,
    by decide +kernel, by decide +kernel, rfl, by decide +kernel, by decide +kernel, by decide +kernel⟩⟩

theorem witness_SnapshotCapture :
    (∃ (s : State), ∃ (h : Hdr), ∃ (c : CoreIx), ∃ (v m : Word), Admitted s h (.tileSelWrite h c v m)
      ∧ (s.heard h).enabled c.val = true)
    ∧ (∃ (s : State), ∃ (g : GroupIx), ∃ (_clock : Nat), ∃ (c : CoreIx), ∃ (n : Nat), (s.grp g.val).running = true
      ∧ s.workDone g.val = true ∧ s.tokensDone g.val = true ∧ c.val ∈ (s.grp g.val).placed
      ∧ n = fieldOfInt 96 ((s.tile c.val ((s.reg ((Blk.cas c).at 0x40)).toNat % 64)).lanes.getD ((s.reg ((Blk.cas c).at 0x40)).toNat / 64 % 64) 0)) :=
  ⟨⟨wOn, wHdr, 205, 5, 0xFFFFFFFF, admitted_of (by decide +kernel), by decide +kernel⟩
  , ⟨{ wRun with groups := wRun.groups.map (fun p => (p.1, { p.2 with running := true, bind := [(0, 205)] })) },
    0, 7, 205, 0, by decide +kernel, by decide +kernel, by decide +kernel, by decide +kernel, by decide +kernel⟩⟩

theorem witness_VectorCommands :
    (∃ (s : State), ∃ (c : CoreIx), ∃ (src : VReg), ∃ (_blk : Nat), ∃ (engs : List (EngIx × Nat)),
      ∃ (rho : Option (Fin 5)), ∃ (_set : List VReg), ∃ (_store : Option Nat), ∃ (e : EngIx), ∃ (n : Nat),
      ∃ (q : ActBlock), s.mayIssue c.val clsQuant 0 = true ∧ s.compat c.val = false
      ∧ q = quantise (s.block c.val src) (rhoOf rho) false false ∧ q.exceeded = false ∧ (e, n) ∈ engs)
    ∧ (∃ (s : State), ∃ (c : CoreIx), ∃ (src : VReg), ∃ (_blk : Nat), ∃ (_e : EngIx), ∃ (_n : Nat),
      ∃ (rho : Option (Fin 5)), ∃ (_set : List VReg), ∃ (_store : Option Nat), ∃ (q : ActBlock),
      s.mayIssue c.val clsQuant 0 = true ∧ s.compat c.val = false
      ∧ q = quantise (s.block c.val src) (rhoOf rho) true false)
    ∧ (∃ (s : State), ∃ (c : CoreIx), ∃ (src : VReg), ∃ (_blk : Nat), ∃ (_e : EngIx), ∃ (_n : Nat),
      ∃ (rho : Option (Fin 5)), ∃ (_set : List VReg), ∃ (_store : Option Nat), s.mayIssue c.val clsQuant 0 = true
      ∧ s.compat c.val = false ∧ (quantise (s.block c.val src) (rhoOf rho) false false).exceeded = true)
    ∧ (∃ (s : State), ∃ (c : CoreIx), ∃ (src : VReg), ∃ (_blk : Nat), ∃ (_e : EngIx), ∃ (_n : Nat),
      ∃ (_rho : Option (Fin 5)), ∃ (set : List VReg), ∃ (_store : Option Nat), ∃ (q : ActBlock),
      s.mayIssue c.val clsQuant 0 = true ∧ s.compat c.val = true
      ∧ (quantiseSet (s.block c.val src :: set.map (s.block c.val))).head? = some q)
    ∧ (∃ (s : State), ∃ (c : CoreIx), ∃ (_off _blk : Nat), ∃ (_e : EngIx), ∃ (_n : Nat),
      ∃ (_rho : Option (Fin 5)), ∃ (_set : List VReg), ∃ (_store : Option Nat),
      s.mayIssue c.val clsQuant 0 = true)
    ∧ (∃ (s : State), ∃ (c : CoreIx), ∃ (k : Fin 4), s.mayIssue c.val clsAoa k.val = true ∧ s.compat c.val = true)
    ∧ (∃ (s : State), ∃ (c : CoreIx), ∃ (k : Fin 4), ∃ (_dst : VReg), s.mayIssue c.val clsAoa k.val = true
      ∧ s.compat c.val = true)
    ∧ (∃ (s : State), ∃ (c : CoreIx), ∃ (k : Fin 4), ∃ (_dst : VReg),
      (s.compat c.val = false ∨ s.mayIssue c.val clsAoa k.val = false))
    ∧ (∃ (s : State), ∃ (c : CoreIx), ∃ (_fn : VecFn), ∃ (_n : Nat), ∃ (_srcs : List VReg), ∃ (_dst : VReg),
      s.mayIssue c.val clsVecElem 0 = false)
    ∧ (∃ (s : State), ∃ (c : CoreIx), ∃ (_fn : VecFn), ∃ (_n : Nat), ∃ (_srcs : List VReg), ∃ (_dst : VReg),
      s.mayIssue c.val clsVecTrans 0 = false)
    ∧ (∃ (s : State), ∃ (c : CoreIx), ∃ (_fn : VecFn), ∃ (_n : Nat), ∃ (_srcs : List VReg), ∃ (_dst : VReg),
      s.mayIssue c.val clsVecReduce 0 = false)
    ∧ (∃ (s : State), ∃ (c : CoreIx), ∃ (_fn : VecFn), ∃ (_n : Nat), ∃ (_srcs : List VReg), ∃ (_dst : VReg),
      s.mayIssue c.val clsVecElem 0 = true)
    ∧ (∃ (s : State), ∃ (c : CoreIx), ∃ (_fn : VecFn), ∃ (_n : Nat), ∃ (_srcs : List VReg), ∃ (_dst : VReg),
      s.mayIssue c.val clsVecTrans 0 = true)
    ∧ (∃ (s : State), ∃ (c : CoreIx), ∃ (_fn : VecFn), ∃ (_n : Nat), ∃ (_srcs : List VReg), ∃ (_dst : VReg),
      s.mayIssue c.val clsVecReduce 0 = true)
    ∧ (∃ (s : State), ∃ (c : CoreIx), s.mayIssue c.val clsSync 0 = true)
    ∧ (∃ (s : State), ∃ (c : CoreIx), s.mayIssue c.val clsSync 0 = false)
    ∧ (∃ (s : State), ∃ (c : CoreIx), ∃ (_src : QuantSrc), ∃ (_blk : Nat), ∃ (_engs : List (EngIx × Nat)),
      ∃ (_rho : Option (Fin 5)), ∃ (_wide : Bool), ∃ (_set : List VReg), ∃ (_store : Option Nat),
      s.mayIssue c.val clsQuant 0 = false) :=
  ⟨⟨wTurn 0x10 0 wRun, 0, 0, 0, [(3, 5)], none, [], none, 3, 5, _, by decide +kernel, by decide +kernel, rfl,
    by decide +kernel, by decide +kernel⟩
  , ⟨wTurn 0x10 0 wRun, 0, 0, 0, 0, 0, none, [], none, _, by decide +kernel, by decide +kernel, rfl⟩
  , ⟨wTurn 0x10 0 wMany, 0, 0, 0, 0, 0, some 0, [], none, by decide +kernel⟩
  , ⟨wTurn 0x10 0 wOld, 0, 0, 0, 0, 0, none, [], none, _, by decide +kernel, by decide +kernel,
    w_get (by decide +kernel)⟩
  , ⟨wTurn 0x10 0 wRun, 0, 0, 0, 0, 0, none, [], none, by decide +kernel⟩
  , ⟨wTurn 0x30 0 wOld, 0, 0, by decide +kernel⟩
  , ⟨wTurn 0x30 0 wOld, 0, 0, 0, by decide +kernel⟩
  , ⟨wRun, 0, 0, 0, by decide +kernel⟩
  , ⟨wRun, 0, .maximum, 1, [3], 0, by decide +kernel⟩
  , ⟨wRun, 0, .maximum, 1, [3], 0, by decide +kernel⟩
  , ⟨wRun, 0, .maximum, 1, [3], 0, by decide +kernel⟩
  , ⟨wTurn 0x11 0 wRun, 0, .maximum, 1, [3], 0, by decide +kernel⟩
  , ⟨wTurn 0x12 0 wRun, 0, .maximum, 1, [3], 0, by decide +kernel⟩
  , ⟨wTurn 0x13 0 wRun, 0, .maximum, 1, [3], 0, by decide +kernel⟩
  , ⟨wTurn 0x3F 0 wRun, 0, by decide +kernel⟩
  , ⟨wRun, 0, by decide +kernel⟩
  , ⟨wRun, 0, .values 0, 0, [], none, false, [], none, by decide +kernel⟩⟩

theorem witness_RoutingCommands :
    (∃ (s : State), ∃ (c : CoreIx), ∃ (g : GroupIx), ∃ (layer : Nat), ∃ (_rows : List RouteIn), ∃ (m : MoeEnt),
      s.mayIssue c.val clsRoute 0 = true ∧ s.moeEntry g.val layer = some m)
    ∧ (∃ (s : State), ∃ (c : CoreIx), ∃ (_g : GroupIx), ∃ (_layer : Nat), ∃ (_rows : List RouteIn),
      s.mayIssue c.val clsRoute 0 = false)
    ∧ (∃ (s : State), ∃ (c : CoreIx), ∃ (g : GroupIx), ∃ (layer : Nat), ∃ (m : MoeEnt),
      s.mayIssue c.val clsAssign 0 = true ∧ s.moeEntry g.val layer = some m
      ∧ (s.grp g.val).bind.get? m.router = some c.val)
    ∧ (∃ (s : State), ∃ (c : CoreIx), ∃ (g : GroupIx), ∃ (layer : Nat), ∃ (m : MoeEnt),
      s.moeEntry g.val layer = some m
      ∧ ((s.grp g.val).bind.get? m.router ≠ some c.val ∨ s.mayIssue c.val clsAssign 0 = false))
    ∧ (∃ (s : State), ∃ (op : FireOp), ∃ (g : GroupIx), ∃ (p : Nat), ∃ (_nib : Bool), ∃ (tiles : List ExpertTile),
      s.runOpen op g.val p tiles = true
      ∧ (tiles.flatMap (fun t => s.loadAddrs t.desc)).find? (fun a => decide (deviceGranules ≤ a)) = none)
    ∧ (∃ (s : State), ∃ (op : FireOp), ∃ (g : GroupIx), ∃ (p : Nat), ∃ (_nib : Bool), ∃ (tiles : List ExpertTile),
      ∃ (a : Nat), s.runOpen op g.val p tiles = true
      ∧ (tiles.flatMap (fun t => s.loadAddrs t.desc)).find? (fun a => decide (deviceGranules ≤ a)) = some a)
    ∧ (∃ (s : State), ∃ (op : FireOp), ∃ (g : GroupIx), ∃ (p : Nat), ∃ (_nib : Bool), ∃ (tiles : List ExpertTile),
      s.runOpen op g.val p tiles = false)
    ∧ (∃ (s : State), ∃ (op : FireOp), ∃ (g q : Nat), ∃ (tiles : List ExpertTile), s.runOpen op g q tiles = true)
    ∧ (∃ (m : MoeEnt), ∃ (placed : List (Nat × Nat × Bool × Word)), ∃ (q i : Nat),
      (placed.filter (fun p => p.2.1 == q * m.groupSize + i && !p.2.2.1)).length ≤ m.capacity)
    ∧ (∃ (s : State), ∃ (c e : Nat), ∃ (i : RunItem), ∃ (rest : List RunItem),
      (s.eng (c * 16 + e)).run = i :: rest ∧ s.runWaits c e i = true)
    ∧ (∃ (s : State), ∃ (c e : Nat), ∃ (d : LoadDesc), ∃ (errs : List GranErr), ∃ (late : Nat),
      ∃ (rest : List RunItem), (s.eng (c * 16 + e)).run = .load d errs late :: rest
      ∧ s.runWaits c e (.load d errs late) = false)
    ∧ (∃ (s : State), ∃ (c e : Nat), ∃ (op : FireOp), ∃ (nib : Bool), ∃ (f : SlotFire), ∃ (r : Nat),
      ∃ (rest : List RunItem), (s.eng (c * 16 + e)).run = .slot op nib f :: rest
      ∧ s.runWaits c e (.slot op nib f) = false ∧ f.row = some r)
    ∧ (∃ (s : State), ∃ (c e : Nat), ∃ (op : FireOp), ∃ (nib : Bool), ∃ (f : SlotFire), ∃ (rest : List RunItem),
      (s.eng (c * 16 + e)).run = .slot op nib f :: rest ∧ s.runWaits c e (.slot op nib f) = false ∧ f.row = none) :=
  ⟨⟨wTurn 0x14 0 wRun, 0, 0, 0, [], wMoe, by decide +kernel⟩
  , ⟨wRun, 0, 0, 0, [], by decide +kernel⟩
  , ⟨wTurn 0x15 0 wRun, 0, 0, 0, wMoe, by decide +kernel⟩
  , ⟨wRun, 1, 0, 0, wMoe, by decide +kernel⟩
  , ⟨wTurn 5 0 wRun, wOp, 0, 0, false, wTiles wDesc, by decide +kernel⟩
  , ⟨wTurn 5 0 wRun, wOp, 0, 0, false, wTiles { wDesc with addr := 30000000000 }, 30000000000, by decide +kernel⟩
  , ⟨wRun, wOp, 0, 0, false, [], by decide +kernel⟩
  , ⟨wTurn 5 0 wRun, wOp, 0, 0, wTiles wDesc, by decide +kernel⟩
  , ⟨wMoe, [], 0, 0, by decide +kernel⟩
  , ⟨wEng { EngState.init with split := [wSplit], run := [.load wDesc [] 0] }, 0, 0, .load wDesc [] 0, [],
    by decide +kernel⟩
  , ⟨wEng { EngState.init with run := [.load wDesc [] 0] }, 0, 0, wDesc, [], 0, [], by decide +kernel⟩
  , ⟨wEng { EngState.init with run := [.slot wOp false (wSlot (some 1))] }, 0, 0, wOp, false, wSlot (some 1), 1,
    [], by decide +kernel⟩
  , ⟨wEng { EngState.init with run := [.slot wOp false (wSlot none)] }, 0, 0, wOp, false, wSlot none, [],
    by decide +kernel⟩⟩

theorem witness_StreamCommands :
    (∃ (s : State), ∃ (g : GroupIx), ∃ (layer : Nat), ∃ (kv : Bool), ∃ (gs : List Nat), ∃ (dst : MemUnit),
      ∃ (off n : Nat), s.memRuns dst = true ∧ s.readsInto g.val layer kv dst off (32 * gs.length) = true ∧ n ≤ 4
      ∧ off + 32 * gs.length ≤ memSize dst ∧ (∀ a ∈ gs, a < deviceGranules ∧ s.poison.contains a = false))
    ∧ (∃ (s : State), ∃ (g : GroupIx), ∃ (layer : Nat), ∃ (kv : Bool), ∃ (gs : List Nat),
      ∃ (_errs : List GranErr), ∃ (dst : MemUnit), ∃ (off n : Nat), s.memRuns dst = true
      ∧ s.readsInto g.val layer kv dst off (32 * gs.length) = true ∧ 4 < n ∧ off + 32 * gs.length ≤ memSize dst
      ∧ (∀ a ∈ gs, a < deviceGranules))
    ∧ (∃ (s : State), ∃ (g : GroupIx), ∃ (layer : Nat), ∃ (kv : Bool), ∃ (gs : List Nat),
      ∃ (_errs : List GranErr), ∃ (dst : MemUnit), ∃ (off _n a : Nat), s.memRuns dst = true
      ∧ s.readsInto g.val layer kv dst off (32 * gs.length) = true
      ∧ gs.find? (fun a => decide (deviceGranules ≤ a)) = some a)
    ∧ (∃ (s : State), ∃ (g : GroupIx), ∃ (layer : Nat), ∃ (kv : Bool), ∃ (gs : List Nat),
      ∃ (_errs : List GranErr), ∃ (dst : MemUnit), ∃ (off _n : Nat),
      (s.memRuns dst = false ∨ s.readsInto g.val layer kv dst off (32 * gs.length) = false))
    ∧ (∃ (s : State), ∃ (g : GroupIx), ∃ (layer ctx pos : Nat), ∃ (c : CoreIx), ∃ (_src : List VReg),
      ∃ (a : AttnEnt), ∃ (e : Pte), ∃ (x : Ctx), s.unitRuns c.val = true
      ∧ s.streams g.val clsMemWrite layer true = true ∧ s.attnEntry g.val layer = some a ∧ s.ctx? ctx = some x
      ∧ (s.writePage a ctx pos x).1 = some e)
    ∧ (∃ (s : State), ∃ (g : GroupIx), ∃ (layer ctx pos : Nat), ∃ (c : CoreIx), ∃ (_src : List VReg),
      ∃ (a : AttnEnt), ∃ (x : Ctx), s.unitRuns c.val = true ∧ s.streams g.val clsMemWrite layer true = true
      ∧ s.attnEntry g.val layer = some a ∧ s.ctx? ctx = some x ∧ (s.writePage a ctx pos x).1 = none)
    ∧ (∃ (s : State), ∃ (g : GroupIx), ∃ (layer _ctx _pos : Nat), ∃ (c : CoreIx), ∃ (_src : List VReg),
      (s.unitRuns c.val = false ∨ s.streams g.val clsMemWrite layer true = false))
    ∧ (∃ (_s : State), ∃ (a : AttnEnt), ∃ (_ctx pos : Nat), ∃ (x : Ctx), a.cross = false ∧ x.length ≤ pos
      ∧ pos < x.length + x.grow.length)
    ∧ (∃ (_s : State), ∃ (a : AttnEnt), ∃ (_ctx pos : Nat), ∃ (x : Ctx), a.cross = false
      ∧ (pos < x.length ∨ x.length + x.grow.length ≤ pos))
    ∧ (∃ (_s : State), ∃ (a : AttnEnt), ∃ (_ctx pos : Nat), ∃ (x : Ctx), a.cross = true
      ∧ (x.tables.getD a.layer []).any (fun e => e.page == pos / 128) = false
      ∧ x.budget ≤ (x.tables.getD a.layer []).length)
    ∧ (∃ (s : State), ∃ (a : AttnEnt), ∃ (x : Ctx), ∃ (frame p b : Nat), ∃ (_v : KvBlock), memWf s.mem = true
      ∧ a.kv8 = false
      ∧ frameGranule (s.frameStacks x) frame (p * a.nb + b) ≠ frameGranule (s.frameStacks x) frame (a.scaleBase + (p * a.nb + b) / 32))
    ∧ (∃ (s : State), ∃ (src dst : MemUnit), ∃ (o q n : Nat), ∃ (_d : Bool), ((∃ c, transferCore src dst = some c
      ∧ s.nextTransfer c src dst o q = true ∧ s.mayIssue c clsXfer 0 = true) ∨ (transferCore src dst = none
      ∧ s.memRuns src = true)) ∧ s.memStopped dst = false ∧ o + n ≤ memSize src ∧ q + n ≤ memSize dst)
    ∧ (∃ (s : State), ∃ (src dst : CoreIx), ∃ (o q _n : Nat), ∃ (_d : Bool),
      s.nextTransfer src.val (.core src) (.core dst) o q = true ∧ s.mayIssue src.val clsXfer 0 = true
      ∧ (s.core dst.val).stopped = true)
    ∧ (∃ (s : State), ∃ (src : CoreIx), ∃ (dst : MemUnit), ∃ (o q n : Nat), ∃ (_errs : List GranErr),
      ∃ (_d : Bool), s.nextTransfer src.val (.core src) dst o q = true ∧ s.owesRecord src.val clsXfer 0 = true
      ∧ q + n ≤ memSize dst)
    ∧ (∃ (s : State), ∃ (src dst : MemUnit), ∃ (o q _n : Nat), ∃ (_errs : List GranErr), ∃ (_d : Bool),
      ∃ (c : Nat), transferCore src dst = some c
      ∧ (s.nextTransfer c src dst o q = false ∨ (s.mayIssue c clsXfer 0 = false
      ∧ s.owesRecord c clsXfer 0 = false)))
    ∧ (∃ (s : State), ∃ (src dst : MemUnit), ∃ (n : Nat),
      s.fabric.transfers.any (fun t => t.names src dst n && t.delivered) = true)
    ∧ (∃ (s : State), ∃ (src dst : MemUnit), ∃ (n : Nat),
      s.fabric.transfers.any (fun t => t.names src dst n && t.delivered) = false)
    ∧ (∃ (s : State), ∃ (src dst : MemUnit), ∃ (n : Nat), ∃ (_d : Bool), ∃ (x : Transfer),
      s.fabric.transfers.find? (fun t => t.names src dst n) = some x ∧ x.resends < 4)
    ∧ (∃ (s : State), ∃ (src dst : MemUnit), ∃ (n : Nat), ∃ (_d : Bool), ∃ (x : Transfer),
      s.fabric.transfers.find? (fun t => t.names src dst n) = some x ∧ 4 ≤ x.resends
      ∧ x.dstOff + x.data.length ≤ memSize dst)
    ∧ (∃ (s : State), ∃ (src dst : MemUnit), ∃ (n : Nat), ∃ (_d : Bool),
      s.fabric.transfers.find? (fun t => t.names src dst n) = none) :=
  ⟨⟨wTurn 0x18 0 wRun, 0, 0, false, [0, 29999999999], .core 0, 0, 4, by decide +kernel⟩
  , ⟨wTurn 0x18 0 wRun, 0, 0, false, [0], [], .core 0, 0, 5, by decide +kernel⟩
  , ⟨wTurn 0x18 0 wRun, 0, 0, false, [0, 30000000000], [], .core 0, 0, 0, 30000000000, by decide +kernel⟩
  , ⟨wRun, 0, 0, false, [0], [], .core 0, 0, 0, by decide +kernel⟩
  , ⟨wWrite [7], 0, 0, 9, 100, 0, [], wAttn, wPte, { wCtxA with length := 100, grow := [7] }, by decide +kernel⟩
  , ⟨wWrite [], 0, 0, 9, 100, 0, [], wAttn, { wCtxA with length := 100 }, by decide +kernel⟩
  , ⟨wRun, 0, 0, 9, 0, 0, [], by decide +kernel⟩
  , ⟨wRun, wAttn, 9, 128, { wCtxA with grow := [7] }, by decide +kernel⟩
  , ⟨wRun, wAttn, 9, 128, wCtxA, by decide +kernel⟩
  , ⟨wRun, { wAttn with flags := 4 }, 9, 0, { wCtxA with budget := 0, tables := [] }, by decide +kernel⟩
  , ⟨wAtt, wAttn, wCtxA, 0, 127, 0, ⟨[], 127, false, false⟩, by decide +kernel⟩
  , ⟨wTurn 0x1A 0 wRun, .core 0, .core 1, 0x17FFE0, 0x17FFE0, 32, true, Or.inl ⟨0, by decide +kernel⟩,
    by decide +kernel, by decide +kernel, by decide +kernel⟩
  , ⟨wTurn 0x1A 0 { wRun with cores := [(0, wCore), (1, { CoreState.init with stopped := true })] }, 0, 1, 0, 0,
    32, true, by decide +kernel⟩
  , ⟨wTurn 0x1A 0 { wRun with cores := [(0, { wCore with stopped := true })] }, 0, .core 1, 0, 0, 32, [], true,
    by decide +kernel⟩
  , ⟨wRun, .core 0, .core 1, 0, 0, 32, [], true, 0, by decide +kernel⟩
  , ⟨wXfer 0 true, .core 0, .core 1, 0, by decide +kernel⟩
  , ⟨wRun, .core 0, .core 1, 0, by decide +kernel⟩
  , ⟨wXfer 3 false, .core 0, .core 1, 0, false, ⟨.core 0, .core 1, 0, 0, [], 3, false⟩, by decide +kernel⟩
  , ⟨wXfer 4 false, .core 0, .core 1, 0, false, ⟨.core 0, .core 1, 0, 0, [], 4, false⟩, by decide +kernel⟩
  , ⟨wRun, .core 0, .core 1, 0, true, by decide +kernel⟩⟩

theorem witness_AttentionCommands :
    (∃ (s : State), ∃ (g : GroupIx), ∃ (ctx layer : Nat), ∃ (pre : Bool), ∃ (lcore span : Nat), ∃ (_late : Bool),
      ∃ (c : Ctx), ∃ (a : AttnEnt), ∃ (k w : Nat), ∃ (ds : List PageDesc), (s.grp g.val).running = true
      ∧ (if pre then k = 0 else (s.grp g.val).walkSlots.find? (fun p => p.2 == ctx) = some (k, ctx))
      ∧ w = (if pre then ctx else k) % 8 ∧ (s.walkList g.val w)[(s.grp g.val).walked.getD w 0]? = some (layer,
      ctx, pre, k) ∧ s.ctx? ctx = some c ∧ s.attnEntry g.val layer = some a ∧ (∀ x,
      (s.inst g.val).active = some x → x.lostLayers.contains layer = false)
      ∧ (pre = true ∨ span + 1 = a.spanCores) ∧ ds = s.walkDescs g.val ctx layer pre k lcore span c a
      ∧ (∀ j ∈ s.frameStacks c, (s.stack j).descs.length + ds.length ≤ 4096))
    ∧ (∃ (s : State), ∃ (g : GroupIx), ∃ (ctx layer _lcore _span : Nat), ∃ (_late : Bool),
      ((s.grp g.val).running = false ∨ (s.walkList g.val (ctx % 8))[(s.grp g.val).walked.getD (ctx % 8) 0]? ≠ some (layer,
      ctx, true, 0)))
    ∧ (∃ (s : State), ∃ (g : GroupIx), ∃ (ctx layer _lcore _span : Nat), ∃ (_late : Bool), (∀ k,
      (s.grp g.val).walkSlots.find? (fun p => p.2 == ctx) = some (k,
      ctx) → (s.grp g.val).running = false ∨ (s.walkList g.val (k % 8))[(s.grp g.val).walked.getD (k % 8) 0]? ≠ some (layer,
      ctx, false, k)))
    ∧ (∃ (s : State), ∃ (g ctx layer : Nat), ∃ (pre : Bool), ∃ (k lcore span : Nat), ∃ (_late : Bool),
      ∃ (c : Ctx), ∃ (a : AttnEnt), ∃ (j : Nat), s.ctx? ctx = some c ∧ s.attnEntry g layer = some a ∧ (∀ x,
      (s.inst g).active = some x → x.lostLayers.contains layer = false) ∧ j ∈ s.frameStacks c
      ∧ 4096 < (s.stack j).descs.length + (s.walkDescs g ctx layer pre k lcore span c a).length)
    ∧ (∃ (d : PageDesc), d.frame < 2 ^ 35 ∧ d.granules < 2 ^ 12 ∧ d.fill < 2 ^ 8 ∧ d.start < 2 ^ 7
      ∧ d.posBase < 2 ^ 31 ∧ d.ctx < 2 ^ 12 ∧ d.layer < 2 ^ 10 ∧ d.slot < 2 ^ 11 ∧ d.lcore < 2 ^ 10
      ∧ d.span < 2 ^ 4 ∧ d.pte < 2 ^ 9 ∧ d.tag < 2 ^ 8 ∧ d.group < 2 ^ 4)
    ∧ (∃ (s : State), ∃ (k : StackIx), ∃ (w : Nat), ∃ (_errs : List GranErr), (s.stack k.val).descs.head? = some w
      ∧ s.descLive (PageDesc.ofWord w) = false)
    ∧ (∃ (s : State), ∃ (k : StackIx), ∃ (w : Nat), ∃ (c : Ctx), ∃ (gs : List Nat),
      (s.stack k.val).descs.head? = some w ∧ s.descLive (PageDesc.ofWord w) = true
      ∧ s.ctx? (PageDesc.ofWord w).ctx = some c
      ∧ gs = s.frameGranules c (PageDesc.ofWord w).frame (PageDesc.ofWord w).granules ∧ (∀ x ∈ gs,
      s.poison.contains x = false))
    ∧ (∃ (s : State), ∃ (k : StackIx), ∃ (w : Nat), ∃ (_errs : List GranErr),
      (s.stack k.val).descs.head? ≠ some w)
    ∧ (∃ (s : State), ∃ (c : CoreIx), ∃ (q : List VReg), ∃ (_cur : VReg), ∃ (_wait _out : Nat), ∃ (_bf16 : Bool),
      ∃ (p : PageIn), ∃ (d : PageDesc), ∃ (a : AttnEnt), ∃ (x : Ctx), ∃ (v : Walk),
      (s.core c.val).nextPage = some p ∧ p.complete = true ∧ s.mayIssue c.val clsAttn 0 = true
      ∧ d = PageDesc.ofWord p.desc ∧ s.attnEntry d.group d.layer = some a ∧ s.ctx? d.ctx = some x
      ∧ s.openWalk c.val d (s.carried c.val d a q).length = some v ∧ d.last = false)
    ∧ (∃ (s : State), ∃ (c : CoreIx), ∃ (q : List VReg), ∃ (_cur : VReg), ∃ (_wait _out : Nat), ∃ (_bf16 : Bool),
      ∃ (p : PageIn), ∃ (d : PageDesc), ∃ (a : AttnEnt), ∃ (x : Ctx), ∃ (v : Walk), ∃ (hs : List HeadAcc),
      (s.core c.val).nextPage = some p ∧ p.complete = true ∧ s.mayIssue c.val clsAttn 0 = true
      ∧ d = PageDesc.ofWord p.desc ∧ s.attnEntry d.group d.layer = some a ∧ s.ctx? d.ctx = some x
      ∧ s.openWalk c.val d (s.carried c.val d a q).length = some v ∧ d.last = true
      ∧ hs = (s.takePage d.group a d p.read (v.heads.zip (s.carried c.val d a q))).1)
    ∧ (∃ (s : State), ∃ (c : CoreIx), ∃ (q : List VReg), ∃ (_cur : VReg), ∃ (_wait _out : Nat), ∃ (_bf16 : Bool),
      ∃ (p : PageIn), ∃ (d : PageDesc), ∃ (a : AttnEnt), (s.core c.val).nextPage = some p ∧ p.complete = true
      ∧ s.mayIssue c.val clsAttn 0 = true ∧ d = PageDesc.ofWord p.desc ∧ s.attnEntry d.group d.layer = some a
      ∧ s.openWalk c.val d (s.carried c.val d a q).length = none)
    ∧ (∃ (s : State), ∃ (c : CoreIx), ∃ (w : Nat), ∃ (_q : List VReg), ∃ (_cur : VReg), ∃ (_wait _out : Nat),
      ∃ (_bf16 : Bool), ((∀ p,
      (s.core c.val).nextPage = some p → p.desc ≠ w ∨ p.complete = false) ∨ s.mayIssue c.val clsAttn 0 = false)) :=
  ⟨⟨wWalk, 0, 9, 0, false, 0, 0, false, wCtxA, wAttn, 0, _, _, by decide +kernel, by decide +kernel, rfl,
    by decide +kernel, by decide +kernel, by decide +kernel, wAtt_active, by decide +kernel, rfl,
    by decide +kernel⟩
  , ⟨wOn, 0, 0, 0, 0, 0, false, by decide +kernel⟩
  , ⟨wOn, 0, 0, 0, 0, 0, false, (fun _ _ => Or.inl rfl)⟩
  , ⟨{ wAtt with stackTbl := [(0, { StackState.init with descs := List.replicate 4096 0 })] }, 0, 9, 0, false, 0,
    0, 0, false, wCtxA, wAttn, 0, by decide +kernel, by decide +kernel, wAtt_active, by decide +kernel,
    by decide +kernel⟩
  , ⟨wPage, by decide +kernel⟩
  , ⟨wDescs [PageDesc.word { wPage with tag := 2 }], 0, PageDesc.word { wPage with tag := 2 }, [],
    by decide +kernel⟩
  , ⟨wDescs [PageDesc.word wPage], 0, PageDesc.word wPage, wCtxA, _, by decide +kernel, by decide +kernel,
    by decide +kernel, rfl, by decide +kernel⟩
  , ⟨wOn, 0, 0, [], by decide +kernel⟩
  , ⟨wStream wPage, 0, [], 0, 0, 0, false, wPageIn wPage, _, wAttn, wCtxA, _, by decide +kernel,
    by decide +kernel, by decide +kernel, rfl, by decide +kernel, by decide +kernel, w_get (by decide +kernel),
    by decide +kernel⟩
  , ⟨wStream { wPage with last := true }, 0, [], 0, 0, 0, false, wPageIn { wPage with last := true }, _, wAttn,
    wCtxA, _, _, by decide +kernel, by decide +kernel, by decide +kernel, rfl, by decide +kernel,
    by decide +kernel, w_get (by decide +kernel), by decide +kernel, rfl⟩
  , ⟨wStream { wPage with first := false }, 0, [], 0, 0, 0, false, wPageIn { wPage with first := false }, _,
    wAttn, by decide +kernel, by decide +kernel, by decide +kernel, rfl, by decide +kernel, by decide +kernel⟩
  , ⟨wRun, 0, 0, [], 0, 0, 0, false, Or.inr (by decide +kernel)⟩⟩

theorem witness_PageCommands :
    (∃ (t : List Pte), ∃ (v : Pte), victimOf t = some v)
    ∧ (∃ (s : State), ∃ (g : GroupIx), ∃ (ctx : Nat), ∃ (c : Ctx), ∃ (start n : Nat), s.ctx? ctx = some c
      ∧ (s.grp g.val).running = true ∧ c.group = g.val ∧ c.truncate = none ∧ start = c.length + c.grow.length
      ∧ n = (s.nextRows g.val ctx).1)
    ∧ (∃ (s : State), ∃ (g : GroupIx), ∃ (ctx : Nat), ∃ (c : Ctx), s.ctx? ctx = some c
      ∧ (s.grp g.val).running = true ∧ c.group = g.val)
    ∧ (∃ (s : State), ∃ (g : GroupIx), ∃ (_ctx : Nat), (s.grp g.val).running = false)
    ∧ (∃ (s : State), ∃ (k : StackIx), ∃ (ctx layer page : Nat), ∃ (q : Spill), ∃ (c : Ctx), ∃ (a : AttnEnt),
      s.spill.queue.find? (fun x => x.names ctx layer page && !x.writing) = some q ∧ s.ctx? ctx = some c
      ∧ s.attnEntry c.group layer = some a ∧ k.val ∈ s.frameStacks c
      ∧ (s.spillPlace c.group a page).1 + (s.spillPlace c.group a page).2 ≤ c.backing.len
      ∧ s.targetUsable c.backing.target c.backing.ns = true)
    ∧ (∃ (s : State), ∃ (k : StackIx), ∃ (ctx layer page : Nat), ∃ (q : Spill), ∃ (c : Ctx), ∃ (a : AttnEnt),
      s.spill.queue.find? (fun x => x.names ctx layer page && !x.writing) = some q ∧ s.ctx? ctx = some c
      ∧ s.attnEntry c.group layer = some a ∧ k.val ∈ s.frameStacks c
      ∧ (c.backing.len < (s.spillPlace c.group a page).1 + (s.spillPlace c.group a page).2 ∨ s.targetUsable c.backing.target c.backing.ns = false))
    ∧ (∃ (s : State), ∃ (ctx layer page : Nat), ∃ (q : Spill), ∃ (c : Ctx), ∃ (_ok : Bool),
      s.spill.queue.find? (fun x => x.names ctx layer page && x.writing) = some q ∧ s.ctx? ctx = some c)
    ∧ (∃ (s : State), ∃ (_k : StackIx), ∃ (ctx layer page : Nat), ∃ (_ok : Bool),
      s.spill.queue.find? (fun x => x.names ctx layer page && !x.writing) = none)
    ∧ (∃ (s : State), ∃ (_k : StackIx), ∃ (ctx layer page : Nat), ∃ (_ok : Bool),
      s.spill.queue.find? (fun x => x.names ctx layer page && x.writing) = none) :=
  ⟨⟨(List.range 5).map (fun k => { wPte with page := k }), wPte, by decide +kernel⟩
  , ⟨wAtt, 0, 9, wCtxA, _, _, by decide +kernel, by decide +kernel, by decide +kernel, by decide +kernel, rfl,
    rfl⟩
  , ⟨wAtt, 0, 9, wCtxA, by decide +kernel⟩
  , ⟨wIdle, 0, 9, by decide +kernel⟩
  , ⟨wSpills ⟨9, 0, 0, 0, 0, 132, false⟩ 64, 0, 9, 0, 0, ⟨9, 0, 0, 0, 0, 132, false⟩, _, wAttn, by decide +kernel,
    rfl, by decide +kernel, by decide +kernel, by decide +kernel, by decide +kernel⟩
  , ⟨wSpills ⟨9, 0, 0, 0, 0, 132, false⟩ 1, 0, 9, 0, 0, ⟨9, 0, 0, 0, 0, 132, false⟩, _, wAttn, by decide +kernel,
    rfl, by decide +kernel, by decide +kernel, by decide +kernel⟩
  , ⟨wSpills ⟨9, 0, 0, 0, 0, 132, true⟩ 64, 9, 0, 0, ⟨9, 0, 0, 0, 0, 132, true⟩, _, true, by decide +kernel, rfl⟩
  , ⟨wRun, 0, 9, 0, 0, true, by decide +kernel⟩
  , ⟨wRun, 0, 9, 0, 0, true, by decide +kernel⟩⟩

theorem witness_HopEvents :
    (∃ (_s : State), ∃ (_d : DieIx), ∃ (_south : Bool), ∃ (data : Nat), ∃ (errs : SymErrs), ∃ (_arb : FlitArb),
      ∃ (v : Nat), eccRead data errs = (some v, true))
    ∧ (∃ (_s : State), ∃ (_d : DieIx), ∃ (_south : Bool), ∃ (data : Nat), ∃ (errs : SymErrs), ∃ (bad : Bool),
      ∃ (_arb : FlitArb), (bad = true ∨ (eccRead data errs).1 = none))
    ∧ (∃ (_s : State), ∃ (_c : ClusterIx), ∃ (data : Nat), ∃ (errs : SymErrs), ∃ (_arb : FlitArb), ∃ (v : Nat),
      eccRead data errs = (some v, true))
    ∧ (∃ (_s : State), ∃ (_hop : HopUnit), ∃ (a : FlitArb), a.input < 64 ∧ (∀ i ∈ a.losers, i < 64)
      ∧ a.input ∉ a.losers ∧ a.losers.Nodup)
    ∧ (∃ (s : State), ∃ (c : ClusterIx), ∃ (port input i : Nat), input < 64 ∧ i < 64 ∧ input ≠ i
      ∧ s.fabric.losses.getD (lossKey (.router c) port i) 0 = 7)
    ∧ (∃ (s : State), ∃ (k : Nat), ∃ (_core : Option CoreIx), ∃ (data : Nat), ∃ (errs : List SymErrs), k < 36
      ∧ s.fabric.segTrained = true ∧ s.fabric.segDown.get? k = none ∧ s.hubsOverrun (segmentDie k) = false
      ∧ failedHops data (errs.take 4) < 4)
    ∧ (∃ (s : State), ∃ (k : Nat), ∃ (_core : Option CoreIx), ∃ (data : Nat), ∃ (errs : List SymErrs), k < 36
      ∧ s.fabric.segTrained = true ∧ s.fabric.segDown.get? k = none
      ∧ (s.hubsOverrun (segmentDie k) = true ∨ failedHops data (errs.take 4) = 4))
    ∧ (∃ (s : State), ∃ (k n : Nat), s.fabric.segDown.get? k = some n ∧ n < 3
      ∧ s.fabric.segReturning.contains k = false ∧ (∀ x,
      s.fabric.segTried.get? k = some x → x + 1000000000 ≤ s.time.ns))
    ∧ (∃ (s : State), ∃ (k n : Nat), s.fabric.segDown.get? k = some n ∧ n < 3
      ∧ s.fabric.segReturning.contains k = false ∧ (∀ x,
      s.fabric.segTried.get? k = some x → x + 1000000000 ≤ s.time.ns))
    ∧ (∃ (s : State), ∃ (k : Nat), ∃ (_ok : Bool), ∃ (x : Nat), s.fabric.segTried.get? k = some x
      ∧ s.time.ns < x + 1000000000)
    ∧ (∃ (s : State), ∃ (k : Nat), ∃ (_ok : Bool), s.fabric.segDown.get? k = some 3) :=
  ⟨⟨wOn, 0, false, 5, [(0, 1)], ⟨0, 0, []⟩, 5, by decide +kernel⟩
  , ⟨wOn, 0, false, 5, [(0, 1), (1, 1)], false, ⟨0, 0, []⟩, by decide +kernel⟩
  , ⟨wOn, 31, 5, [(35, 255)], ⟨0, 0, []⟩, 5, by decide +kernel⟩
  , ⟨wOn, .router 0, ⟨1, 0, [1, 63]⟩, by decide +kernel⟩
  , ⟨wSegs { wOn.fabric with losses := [(lossKey (.router 0) 1 2, 7)] }, 0, 1, 0, 2, by decide +kernel⟩
  , ⟨wSegs wOn.fabric, 35, none, 0, [[(0, 1), (1, 1)]], by decide +kernel⟩
  , ⟨wSegs wOn.fabric, 0, none, 0, List.replicate 4 [(0, 1), (1, 1)], by decide +kernel⟩
  , ⟨wSegs { wOn.fabric with segDown := [(3, 0)] }, 3, 0, by decide +kernel, by decide +kernel, by decide +kernel,
    (fun _ h => by cases h)⟩
  , ⟨wSegs { wOn.fabric with segDown := [(3, 2)] }, 3, 2, by decide +kernel, by decide +kernel, by decide +kernel,
    (fun _ h => by cases h)⟩
  , ⟨wSegs { wOn.fabric with segTried := [(3, 900)] }, 3, true, 900, by decide +kernel⟩
  , ⟨wSegs { wOn.fabric with segDown := [(3, 3)] }, 3, true, by decide +kernel⟩⟩

theorem witness_FabricFaults :
    (∃ (s : State), ∃ (c : CoreIx), (s.core c.val).stopped = false)
    ∧ (∃ (s : State), ∃ (c : ClusterIx), ∃ (dir : Nat), 1 ≤ dir ∧ dir ≤ 4 ∧ portKind c.val dir ≠ 0
      ∧ s.fabric.stageDead.contains (dirKey c.val dir) = false
      ∧ s.fabric.onStandby.contains (dirKey c.val dir) = false)
    ∧ (∃ (s : State), ∃ (c : ClusterIx), ∃ (dir : Nat), 1 ≤ dir ∧ dir ≤ 4 ∧ portKind c.val dir ≠ 0
      ∧ s.fabric.stageDead.contains (dirKey c.val dir) = false
      ∧ s.fabric.onStandby.contains (dirKey c.val dir) = true)
    ∧ (∃ (s : State), ∃ (k : StackIx), (s.stack k.val).failed = false
      ∧ s.fabric.lostStacks.contains k.val = false)
    ∧ (∃ (_s : State), ∃ (d : DieIx), ∃ (c : Fin 8), ∃ (dir : Nat), portKind (8 * d.val + c.val) dir = 1)
    ∧ (∃ (s : State), s.clocks.safe = false)
    ∧ (∃ (s : State), ∃ (_n r g : Nat), s.usher.computing = some (r, g))
    ∧ (∃ (s : State), ∃ (_n : Nat), s.usher.computing = none)
    ∧ (∃ (s : State), ∃ (d : DieIx), ∃ (south : Bool), s.fabric.linkWorks d.val south = false
      ∧ s.linkClockOk d.val south = true ∧ s.linkClockOk (linkPeer d.val south) (!south) = true)
    ∧ (∃ (s : State), ∃ (d : DieIx), ∃ (south : Bool), s.fabric.linkWorks d.val south = false)
    ∧ (∃ (s : State), ∃ (d : DieIx), ∃ (south _ok : Bool), s.fabric.linkWorks d.val south = true) :=
  ⟨⟨wRun, 0, by decide +kernel⟩
  , ⟨wOn, 0, 4, by decide +kernel⟩
  , ⟨{ wOn with fabric := { wOn.fabric with onStandby := [dirKey 0 4] } }, 0, 4, by decide +kernel⟩
  , ⟨wOn, 11, by decide +kernel⟩
  , ⟨wOn, 0, 0, 2, by decide +kernel⟩
  , ⟨wOn, by decide +kernel⟩
  , ⟨{ wOn with usher := { wOn.usher with computing := some (1, 0) } }, 100, 1, 0, by decide +kernel⟩
  , ⟨wOn, 100, by decide +kernel⟩
  , ⟨wOn, 0, false, by decide +kernel⟩
  , ⟨wOn, 0, true, by decide +kernel⟩
  , ⟨{ wOn with fabric := { wOn.fabric with linkUp := 255 } }, 3, true, false, by decide +kernel⟩⟩

theorem witness_CalibrationEvents :
    (∃ (s : State), ∃ (c : CoreIx), ∃ (e : EngIx), ∃ (b : Bool), s.queueHead = some (arrKey c e b))
    ∧ (∃ (s : State), ∃ (c : CoreIx), ∃ (e : EngIx), ∃ (b : Bool), s.queueHead ≠ some (arrKey c e b))
    ∧ (∃ (s : State), ∃ (c : CoreIx), ∃ (e : EngIx), ∃ (b : Bool), ∃ (_sweep : SweepReads), ∃ (_rows : RowReads),
      ∃ (r0 : CalRun), s.stepMay (arrKey c e b) .sampling 1692 = true ∧ (s.arr (arrKey c e b)).cal.run = some r0)
    ∧ (∃ (s : State), ∃ (_k : Nat), s.groups.any (fun p => p.2.ticking) = true)
    ∧ (∃ (s : State), ∃ (_k : Nat), s.groups.any (fun p => p.2.ticking) = false)
    ∧ (∃ (s : State), ∃ (c : CoreIx), ∃ (e : EngIx), ∃ (b : Bool), ∃ (_reads : SweepReads), ∃ (r : CalRun),
      s.stepMay (arrKey c e b) .stepped 1476 = true ∧ (s.arr (arrKey c e b)).cal.run = some r)
    ∧ (∃ (s : State), ∃ (c : CoreIx), ∃ (e : EngIx), ∃ (b : Bool), ∃ (_reads : List (Nat × Int)), ∃ (r : CalRun),
      s.stepMay (arrKey c e b) .stepped 996 = true ∧ (s.arr (arrKey c e b)).cal.run = some r ∧ r.needRows = true)
    ∧ (∃ (s : State), ∃ (c : CoreIx), ∃ (e : EngIx), ∃ (b : Bool), ∃ (r : CalRun),
      s.abandonDue (arrKey c e b) = true ∧ (s.arr (arrKey c e b)).cal.run = some r ∧ s.clocks.safe = false
      ∧ s.thermal.tripped = false ∧ (s.core c.val).fenced = false)
    ∧ (∃ (s : State), ∃ (c : CoreIx), ∃ (e : EngIx), ∃ (b : Bool), ∃ (r : CalRun),
      s.abandonDue (arrKey c e b) = true ∧ (s.arr (arrKey c e b)).cal.run = some r ∧ s.clocks.safe = false
      ∧ s.thermal.tripped = false ∧ (s.core c.val).fenced = true)
    ∧ (∃ (s : State), ∃ (c : CoreIx), ∃ (e : EngIx), ∃ (b : Bool), ∃ (r : CalRun),
      s.abandonDue (arrKey c e b) = true ∧ (s.arr (arrKey c e b)).cal.run = some r
      ∧ (s.clocks.safe = true ∨ s.thermal.tripped = true))
    ∧ (∃ (s : State), ∃ (c : CoreIx), ∃ (e : EngIx), ∃ (b : Bool), s.abandonDue (arrKey c e b) = false)
    ∧ (∃ (s : State), ∃ (c : CoreIx), ∃ (e : EngIx), ∃ (b : Bool), s.calAuto = true ∧ s.good c.val = true
      ∧ (s.arr (arrKey c e b)).cal.lastCommit + s.calInterval ≤ s.opS ∧ (s.arr (arrKey c e b)).cal.run = none)
    ∧ (∃ (s : State), ∃ (c : CoreIx), ∃ (e : EngIx), ∃ (b : Bool),
      s.opS < (s.arr (arrKey c e b)).cal.lastCommit + s.calInterval) :=
  ⟨⟨wCal wCalRun, 0, 0, false, by decide +kernel⟩
  , ⟨wOn, 575, 15, true, by decide +kernel⟩
  , ⟨wCal { wCalRun with phase := .sampling }, 0, 0, false, [], [], { wCalRun with phase := .sampling },
    by decide +kernel⟩
  , ⟨wRun, 0, by decide +kernel⟩
  , ⟨wOn, 0, by decide +kernel⟩
  , ⟨wCal { wCalRun with phase := .stepped, need := [5] }, 0, 0, false, [],
    { wCalRun with phase := .stepped, need := [5] }, by decide +kernel⟩
  , ⟨wCal { wCalRun with phase := .stepped, needRows := true }, 0, 0, false, [],
    { wCalRun with phase := .stepped, needRows := true }, by decide +kernel⟩
  , ⟨wCal { wCalRun with phase := .sampling, ticks := 4096 }, 0, 0, false,
    { wCalRun with phase := .sampling, ticks := 4096 }, by decide +kernel⟩
  , ⟨{ wCal { wCalRun with phase := .sampling } with cores := [(0, { CoreState.init with fenced := true })] }, 0,
    0, false, { wCalRun with phase := .sampling }, by decide +kernel⟩
  , ⟨(let s := wCal { wCalRun with phase := .sampling }; { s with clocks := { s.clocks with safe := true } }), 0,
    0, false, { wCalRun with phase := .sampling }, by decide +kernel⟩
  , ⟨wCal { wCalRun with phase := .sampling }, 0, 0, false, by decide +kernel⟩
  , ⟨{ wOn with time := { wOn.time with ns := 10 ^ 18 } }, 0, 0, false, by decide +kernel⟩
  , ⟨wOn, 0, 0, false, by decide +kernel⟩⟩

theorem witness_UpkeepEvents :
    (∃ (s : State), ∃ (c : CoreIx), ∃ (_failed : Option Nat), ∃ (_reads : List StartupReads),
      (s.core c.val).testing = false)
    ∧ (∃ (s : State), ∃ (c : CoreIx), ∃ (_n : Nat), ∃ (_reads : List StartupReads), (s.core c.val).testing = true)
    ∧ (∃ (s : State), ∃ (_pack : Option (List Byte)), s.probe.loading = none)
    ∧ (∃ (s : State), ∃ (f : ProbeFetch), s.probe.loading = some f ∧ s.probe.fetches < 4)
    ∧ (∃ (s : State), ∃ (f : ProbeFetch), ∃ (bs : List Byte), ∃ (st : Status), s.probe.loading = some f
      ∧ s.checkPack bs = .error st)
    ∧ (∃ (s : State), ∃ (p : ProbePack), s.probe.held = some p ∧ s.probe.sweeping = false
      ∧ (s.probe.lastSweep = 0 ∨ s.probe.lastSweep + p.interval * 1000000000 ≤ s.time.ns))
    ∧ (∃ (s : State), s.probe.held = none)
    ∧ (∃ (s : State), ∃ (c : CoreIx), ∃ (n : Nat), ∃ (results : List Int), ∃ (p : ProbePack), ∃ (x : ProbeSeg),
      s.probe.held = some p ∧ p.segments[n]? = some x ∧ s.probe.sweeping = true
      ∧ s.probe.ran.contains c.val = false ∧ s.probe.failedCores.contains c.val = false
      ∧ s.probe.nextSeg.getD c.val 0 = n ∧ s.probeMay c.val x.kind = true ∧ s.probe.retry.get? c.val = none
      ∧ x.passes results = true ∧ n + 1 < p.segments.length)
    ∧ (∃ (_s : State), ∃ (_c _n : Nat), ∃ (x : ProbeSeg), x.kind ≠ 0)
    ∧ (∃ (_s : State), ∃ (_c _n : Nat), ∃ (x : ProbeSeg), x.kind = 0)
    ∧ (∃ (s : State), ∃ (c : CoreIx), ∃ (n : Nat), ∃ (results : List Int), ∃ (p : ProbePack), ∃ (x : ProbeSeg),
      s.probe.held = some p ∧ p.segments[n]? = some x ∧ s.probe.sweeping = true
      ∧ s.probe.ran.contains c.val = false ∧ s.probe.failedCores.contains c.val = false
      ∧ s.probe.nextSeg.getD c.val 0 = n ∧ s.probeMay c.val x.kind = true ∧ s.probe.retry.get? c.val = none
      ∧ x.passes results = true ∧ n + 1 = p.segments.length)
    ∧ (∃ (s : State), ∃ (c : CoreIx), ∃ (n : Nat), ∃ (results : List Int), ∃ (p : ProbePack), ∃ (x : ProbeSeg),
      s.probe.held = some p ∧ p.segments[n]? = some x ∧ s.probe.sweeping = true
      ∧ s.probe.ran.contains c.val = false ∧ s.probe.failedCores.contains c.val = false
      ∧ s.probe.nextSeg.getD c.val 0 = n ∧ s.probeMay c.val x.kind = true ∧ s.probe.retry.get? c.val = none
      ∧ x.passes results = false)
    ∧ (∃ (s : State), ∃ (c : CoreIx), ∃ (n : Nat), ∃ (results : List Int), ∃ (p : ProbePack), ∃ (x : ProbeSeg),
      ∃ (k : Nat), s.probe.held = some p ∧ p.segments[n]? = some x ∧ s.probe.sweeping = true
      ∧ s.probe.ran.contains c.val = false ∧ s.probe.failedCores.contains c.val = false
      ∧ s.probe.nextSeg.getD c.val 0 = n ∧ s.probeMay c.val x.kind = true ∧ s.probe.retry.get? c.val = some k
      ∧ (k ≠ s.coreTick c.val ∨ s.coreTick c.val = 0) ∧ x.passes results = false)
    ∧ (∃ (s : State), ∃ (k : StackIx), ∃ (errs _errs2 : SymErrs), ∃ (_w : Bool), ∃ (_holds : ScrubHolds),
      ∃ (v : Nat), (s.stack k.val).inService = true
      ∧ s.readOnce (2500000000 * k.val + (s.stack k.val).scrubPos) errs = (some v, false))
    ∧ (∃ (s : State), ∃ (k : StackIx), ∃ (errs _errs2 : SymErrs), ∃ (_w : Bool), ∃ (_holds : ScrubHolds),
      ∃ (v : Nat), (s.stack k.val).inService = true
      ∧ s.readOnce (2500000000 * k.val + (s.stack k.val).scrubPos) errs = (some v, true))
    ∧ (∃ (s : State), ∃ (k : StackIx), ∃ (errs errs2 : SymErrs), ∃ (_w : Bool), ∃ (_holds : ScrubHolds),
      (s.stack k.val).inService = true
      ∧ (s.readOnce (2500000000 * k.val + (s.stack k.val).scrubPos) errs).1 = none
      ∧ (s.readOnce (2500000000 * k.val + (s.stack k.val).scrubPos) errs2).1 = none)
    ∧ (∃ (s : State), ∃ (k : StackIx), ∃ (_errs _errs2 : SymErrs), ∃ (_w : Bool), ∃ (_holds : ScrubHolds),
      (s.stack k.val).inService = false) :=
  ⟨⟨wOn, 0, none, [], by decide +kernel⟩
  , ⟨{ wOn with cores := [(0, { CoreState.init with fenced := true, testing := true })] }, 0, 7, [],
    by decide +kernel⟩
  , ⟨wOn, none, by decide +kernel⟩
  , ⟨wProbe { wOn.probe with loading := some wFetching, fetches := 3 }, wFetching, by decide +kernel⟩
  , ⟨wProbe { wOn.probe with loading := some wFetching }, wFetching, [], .notAuthorised, by decide +kernel,
    w_err (by decide +kernel)⟩
  , ⟨wProbe { wOn.probe with held := some wPack }, wPack, by decide +kernel⟩
  , ⟨wOn, by decide +kernel⟩
  , ⟨wProbe wSweep, 0, 0, [1], wPack, ⟨0, [1], 0, 1⟩, by decide +kernel⟩
  , ⟨wOn, 0, 0, ⟨1, [], 0, 0⟩, by decide +kernel⟩
  , ⟨wOn, 0, 0, ⟨0, [], 0, 0⟩, by decide +kernel⟩
  , ⟨wProbe { wSweep with nextSeg := [(0, 1)] }, 0, 1, [1], wPack, ⟨0, [1], 0, 1⟩, by decide +kernel⟩
  , ⟨wProbe wSweep, 0, 0, [2], wPack, ⟨0, [1], 0, 1⟩, by decide +kernel⟩
  , ⟨wProbe { wSweep with retry := [(0, 7)] }, 0, 0, [2], wPack, ⟨0, [1], 0, 1⟩, 7, by decide +kernel⟩
  , ⟨wStack { StackState.init with inService := true }, 0, [], [], true, .free, 0, by decide +kernel⟩
  , ⟨wStack { StackState.init with inService := true }, 0, [(0, 1)], [], true, .free, 0, by decide +kernel⟩
  , ⟨wStack { StackState.init with inService := true }, 0, [(0, 1), (1, 1)], [(0, 1), (1, 1)], true, .free,
    by decide +kernel⟩
  , ⟨wOn, 0, [], [], true, .free, by decide +kernel⟩⟩

theorem witness_ThermalEvents :
    (∃ (old : Nat), ∃ (l : List Judged), levelOf old l = 0 ∧ 1 ≤ old)
    ∧ (∃ (s : State), ∃ (d : DieIx), ∃ (n : Fin 4), ∃ (_code _value e i : Nat), s.counting = true
      ∧ s.thermal.tripped = false ∧ (s.therm d.val).calBusy = false ∧ s.seqEntries d.val n.val = [(e, i)])
    ∧ (∃ (s : State), ∃ (_d : DieIx), ∃ (_n : Fin 4), ∃ (_code _value : Nat), s.thermal.tripped = true)
    ∧ (∃ (s : State), ∃ (k : StackIx), ∃ (c : Int), s.counting = true ∧ s.thermal.tripped = false
      ∧ (s.stack k.val).sensorFail = false ∧ c < 105)
    ∧ (∃ (s : State), ∃ (k : StackIx), ∃ (c : Int), s.counting = true ∧ s.thermal.tripped = false
      ∧ (s.stack k.val).sensorFail = false ∧ 105 ≤ c)
    ∧ (∃ (s : State), ∃ (k : StackIx), s.counting = true ∧ s.thermal.tripped = false
      ∧ 2 ≤ (s.stack k.val).sensorFails)
    ∧ (∃ (s : State), ∃ (_d : DieIx), ∃ (_c : Fin 8), s.counting = true ∧ s.thermal.tripped = false)
    ∧ (∃ (s : State), ∃ (_d : DieIx), ∃ (_c : Fin 8), s.thermal.tripped = true)
    ∧ (∃ (s : State), ∃ (_d : DieIx), ∃ (_c : Fin 8), s.thermal.tripped = false ∧ s.pins.pwrgdCore = true
      ∧ s.outOfReset = false)
    ∧ (∃ (s : State), ∃ (d : DieIx), ∃ (v n : Nat), ∃ (_cap : List (Nat × Nat)), s.pipesRun d.val = true ∧ 0 < n
      ∧ v < (s.reg ((Blk.mon d).at Reg.PIPE_CTRL)).toNat % 4096)
    ∧ (∃ (s : State), ∃ (d : DieIx), ∃ (v _n : Nat), ∃ (_cap : List (Nat × Nat)),
      (s.reg ((Blk.mon d).at Reg.PIPE_CTRL)).toNat % 4096 ≤ v)
    ∧ (∃ (s : State), ∃ (_snaps : List (Nat × Nat)), ∃ (x : Nat), s.counting = true ∧ s.trigDue = some x ∧ (∀ l,
      s.thermal.trigLast = some l → l + 1000 ≤ x))
    ∧ (∃ (s : State), ∃ (_snaps : List (Nat × Nat)), ∃ (x l : Nat), s.counting = true ∧ s.trigDue = some x
      ∧ s.thermal.trigLast = some l ∧ x < l + 1000)
    ∧ (∃ (s : State), ∃ (d : DieIx), ∃ (_f : List (Nat × Nat)), (s.therm d.val).calBusy = true)
    ∧ (∃ (s : State), ∃ (d : DieIx), ∃ (_f : List (Nat × Nat)), (s.therm d.val).calBusy = false)
    ∧ (∃ (s : State), ∃ (l : List Int), s.boot.hold = true ∧ s.allSensors = some l ∧ (∀ x ∈ l, x < 704))
    ∧ (∃ (s : State), ∃ (l : List Int), ∃ (x : Int), s.allSensors = some l ∧ x ∈ l ∧ 704 ≤ x)
    ∧ (∃ (s : State), s.boot.hold = true ∧ s.boot.holdTicks ≠ 599)
    ∧ (∃ (s : State), s.boot.hold = false) :=
  ⟨⟨1, [], by decide +kernel⟩
  , ⟨wSeq, 3, 3, 100, 200, 15, 15, by decide +kernel⟩
  , ⟨{ wOn with thermal := { wOn.thermal with tripped := true } }, 0, 0, 0, 0, by decide +kernel⟩
  , ⟨wOn, 11, 104, by decide +kernel⟩
  , ⟨wOn, 11, 105, by decide +kernel⟩
  , ⟨wStack { StackState.init with sensorFails := 2 }, 0, by decide +kernel⟩
  , ⟨wOn, 3, 7, by decide +kernel⟩
  , ⟨{ wOn with thermal := { wOn.thermal with tripped := true } }, 3, 7, by decide +kernel⟩
  , ⟨{ wOn with pins := { wOn.pins with rstN := false } }, 0, 0, by decide +kernel⟩
  , ⟨wOn.setReg ((Blk.mon 0).at Reg.PIPE_CTRL) 700, 0, 699, 1, [], by decide +kernel⟩
  , ⟨wOn.setReg ((Blk.mon 0).at Reg.PIPE_CTRL) 700, 0, 700, 1, [], by decide +kernel⟩
  , ⟨wTrig none, [], 900, by decide +kernel, by decide +kernel, (fun l h => by cases h)⟩
  , ⟨wTrig (some 500), [], 900, 500, by decide +kernel⟩
  , ⟨{ wOn with thermal := { wOn.thermal with dies := [(0, { DieTherm.init with calBusy := true })] } }, 0, [],
    by decide +kernel⟩
  , ⟨wOn, 0, [], by decide +kernel⟩
  , ⟨{ wTherm 703 with boot := { wOn.boot with hold := true } }, _, by decide +kernel, w_get (by decide +kernel),
    by decide +kernel⟩
  , ⟨wTherm 704, _, 704, w_get (by decide +kernel), by decide +kernel, by decide +kernel⟩
  , ⟨{ wOn with boot := { wOn.boot with hold := true } }, by decide +kernel⟩
  , ⟨wOn, by decide +kernel⟩⟩

theorem witness_ClockEvents :
    (∃ (s : State), ∃ (w : ClockWindow), s.counting = true ∧ w.ring ≠ 0 ∧ (s.mon w.die.val).armed = true
      ∧ w.lost = false ∧ 1532 ≤ w.count ∧ w.count ≤ 1593 ∧ w.unlocked = none)
    ∧ (∃ (s : State), ∃ (w : ClockWindow), s.counting = true ∧ w.ring ≠ 0 ∧ (s.mon w.die.val).armed = true
      ∧ s.clocks.safe = false ∧ (w.lost = true ∨ w.count < 1532 ∨ 1593 < w.count ∨ w.unlocked.isSome = true))
    ∧ (∃ (s : State), ∃ (w : ClockWindow), s.counting = true ∧ w.ring = 0)
    ∧ (∃ (s : State), ∃ (d : DieIx), ∃ (up : Bool), s.counting = true ∧ (s.mon d.val).armed = true
      ∧ (s.mon d.val).lost = false ∧ s.clocks.hrefFault = false
      ∧ 100 * (((if up then (s.mon d.val).window + 1 else (s.mon d.val).window - 1 : Nat) : Int) - (s.mon d.val).start).natAbs + 100 ≤ 3 * (s.mon d.val).start)
    ∧ (∃ (s : State), ∃ (d : DieIx), s.counting = true ∧ (s.mon d.val).ringFault = true)
    ∧ (∃ (s : State), ∃ (d : DieIx), (s.mon d.val).ringFault = false)
    ∧ (∃ (s : State), s.portOn = true)
    ∧ (∃ (s : State), ∃ (a : PtpAnn), s.portOpen = true ∧ 3 ≤ s.port.disc ∧ a.domain = s.cfg.ptpDomain
      ∧ (s.time.master = none ∨ ∃ m, s.time.master = some m ∧ m.identity ≠ a.identity ∧ annBetter a m = true))
    ∧ (∃ (s : State), ∃ (a m : PtpAnn), s.time.master = some m ∧ m.identity ≠ a.identity ∧ annBetter a m = false)
    ∧ (∃ (s : State), ∃ (a : PtpAnn), a.domain ≠ s.cfg.ptpDomain)
    ∧ (∃ (s : State), ∃ (_off _del _adj : Int), s.portOpen = true ∧ s.time.master.isSome = true)
    ∧ (∃ (s : State), ∃ (_off _del _adj : Int), s.time.master = none)
    ∧ (∃ (s : State), s.time.master.isSome = true ∧ s.time.ptp = 2)
    ∧ (∃ (s : State), s.time.master = none)
    ∧ (∃ (s : State), s.boot.phase = 14 ∧ (s.time.ptp = 2 ∨ s.boot.noMaster = true))
    ∧ (∃ (s : State), s.boot.phase ≠ 14) :=
  ⟨⟨wMon wMonitor, ⟨0, 1562, none, false, 1000⟩, by decide +kernel⟩
  , ⟨wMon wMonitor, ⟨0, 1594, none, false, 1000⟩, by decide +kernel⟩
  , ⟨wOn, ⟨3, 1562, none, false, 0⟩, by decide +kernel⟩
  , ⟨wMon wMonitor, 0, true, by decide +kernel⟩
  , ⟨wMon { wMonitor with ringFault := true }, 0, by decide +kernel⟩
  , ⟨wOn, 0, by decide +kernel⟩
  , ⟨wOn, by decide +kernel⟩
  , ⟨wPort { wOn.port with disc := 3 }, { wAnn 4 with domain := wOn.cfg.ptpDomain }, by decide +kernel,
    by decide +kernel, by decide +kernel, Or.inl rfl⟩
  , ⟨wSync (some (wAnn 1)) 2, wAnn 2, wAnn 1, by decide +kernel⟩
  , ⟨wOn, { wAnn 1 with domain := wOn.cfg.ptpDomain + 1 }, by decide +kernel⟩
  , ⟨wSync (some (wAnn 1)) 2, 5, 6, 7, by decide +kernel⟩
  , ⟨wOn, 5, 6, 7, by decide +kernel⟩
  , ⟨wSync (some (wAnn 1)) 2, by decide +kernel⟩
  , ⟨wOn, by decide +kernel⟩
  , ⟨{ wSync (some (wAnn 1)) 2 with boot := { wOn.boot with phase := 14 } }, by decide +kernel⟩
  , ⟨wOn, by decide +kernel⟩⟩

theorem witness_PortEvents :
    (∃ (s : State), ∃ (_l : Fin 256), s.portOn = true ∧ s.port.linkUp = false ∧ s.port.disc = 1)
    ∧ (∃ (s : State), ∃ (_l : Fin 256), s.port.linkUp = true)
    ∧ (∃ (s : State), s.ethUp = true)
    ∧ (∃ (s : State), s.ethUp = false)
    ∧ (∃ (s : State), s.ethUp = true)
    ∧ (∃ (s : State), ∃ (_c ttl : Nat), s.ethUp = true ∧ 0 < ttl)
    ∧ (∃ (s : State), s.ethUp = true ∧ s.port.neighbour.isSome = true)
    ∧ (∃ (s : State), ∃ (_ok : Bool), s.ethUp = true ∧ s.cfg.macPolicy ≠ 0 ∧ s.port.macsecUp = false)
    ∧ (∃ (s : State), s.port.addr4 ≠ 0 ∧ s.port.addr6 = 0 ∧ 4 < s.port.disc)
    ∧ (∃ (s : State), s.port.addr4 ≠ 0 ∧ s.port.addr6 ≠ 0)
    ∧ (∃ (s : State), ∃ (a : Nat), s.portOn = true ∧ s.port.disc = 4 ∧ s.cfg.ipv4 = .dynamic ∧ a % 2 ^ 32 ≠ 0)
    ∧ (∃ (s : State), s.portOpen = true ∧ 6 ≤ s.port.disc ∧ s.port.addr4 ≠ 0 ∧ s.port.addr6 = 0)
    ∧ (∃ (s : State), s.port.disc < 5)
    ∧ (∃ (s : State), ∃ (f : Frame), s.ethUp = true ∧ f.fcsOk = false)
    ∧ (∃ (s : State), ∃ (f : Frame), s.ethUp = true ∧ f.fcsOk = true ∧ f.bytes ≤ 9216 ∧ f.isProtected = true
      ∧ s.port.macsecUp = true ∧ f.icvOk = false)
    ∧ (∃ (s : State), ∃ (f : Frame), ∃ (src sess : Nat), ∃ (signed tag : List Byte), ∃ (x : Session),
      s.ethUp = true ∧ f.fcsOk = true ∧ f.bytes ≤ 9216 ∧ f.isProtected = false ∧ s.cfg.macPolicy ≠ 2
      ∧ f.vlan = s.cfg.vlan ∧ f.kind = .mct src signed tag ∧ sess = headField signed 8 4 ∧ sess ≠ 0
      ∧ headField signed 0 4 = 0x3154434D ∧ s.session? sess = some x ∧ (Crypto.hmac x.h2d signed).take 16 = tag)
    ∧ (∃ (s : State), ∃ (f : Frame), s.ethUp = true ∧ f.fcsOk = true ∧ f.bytes ≤ 9216 ∧ f.isProtected = false
      ∧ f.kind ≠ .lldp ∧ f.kind ≠ .mka ∧ (s.cfg.macPolicy = 2 ∨ f.vlan ≠ s.cfg.vlan))
    ∧ (∃ (s : State), ∃ (_f : Frame), s.ethUp = false)
    ∧ (∃ (s : State), ∃ (qp r : Nat), s.port.rates.get? qp = some r ∧ r + 4096 < 65536)
    ∧ (∃ (s : State), ∃ (qp r : Nat), s.port.rates.get? qp = some r ∧ 65536 ≤ r + 4096) :=
  ⟨⟨wPort { wOn.port with linkUp := false, disc := 1 }, 255, by decide +kernel⟩
  , ⟨wOn, 0, by decide +kernel⟩
  , ⟨wOn, by decide +kernel⟩
  , ⟨State.reset, by decide +kernel⟩
  , ⟨wOn, by decide +kernel⟩
  , ⟨wOn, 1, 120, by decide +kernel⟩
  , ⟨wPort { wOn.port with neighbour := some 3 }, by decide +kernel⟩
  , ⟨{ wOn with cfg := { wOn.cfg with macPolicy := 1 } }, true, by decide +kernel⟩
  , ⟨wOn, by decide +kernel⟩
  , ⟨wPort { wOn.port with addr6 := 1 }, by decide +kernel⟩
  , ⟨{ wOn with port := { wOn.port with disc := 4 }, cfg := { wOn.cfg with ipv4 := .dynamic } }, 5,
    by decide +kernel⟩
  , ⟨wOn, by decide +kernel⟩
  , ⟨wPort { wOn.port with disc := 4 }, by decide +kernel⟩
  , ⟨wOn, { wFrame .lldp with fcsOk := false }, by decide +kernel⟩
  , ⟨wPort { wOn.port with macsecUp := true }, { wFrame .lldp with isProtected := true, icvOk := false },
    by decide +kernel⟩
  , ⟨wOn, wFrame (.mct 0 wHead wTag), 0, 5, wHead, wTag, wSess, by decide +kernel⟩
  , ⟨wOn, { wFrame .arp with vlan := some 5 }, by decide +kernel⟩
  , ⟨State.reset, wFrame .lldp, by decide +kernel⟩
  , ⟨wPort { wOn.port with rates := [(3, 61439)] }, 3, 61439, by decide +kernel⟩
  , ⟨wPort { wOn.port with rates := [(3, 61440)] }, 3, 61440, by decide +kernel⟩⟩

theorem witness_SessionTimers :
    (∃ (s : State), s.portOpen = true)
    ∧ (∃ (s : State), ∃ (n : Nat), ∃ (x : Session), s.session? n = some x ∧ x.isOpen = true
      ∧ x.lastRx + s.departAfter ≤ s.time.ns)
    ∧ (∃ (s : State), ∃ (n : Nat), ∃ (x : Session), s.session? n = some x ∧ s.time.ns < x.lastRx + s.departAfter)
    ∧ (∃ (s : State), ∃ (n d : Nat), ∃ (x : Session), ∃ (u : Unacked), s.session? n = some x
      ∧ x.unacked.find? (fun u => u.seq == d) = some u)
    ∧ (∃ (s : State), ∃ (n : Nat), ∃ (x : Session), s.session? n = some x ∧ x.telPeriod ≠ 0 ∧ x.isOpen = true
      ∧ x.unacked.length < 256)
    ∧ (∃ (s : State), ∃ (n : Nat), ∃ (x : Session), s.session? n = some x ∧ x.telPeriod = 0)
    ∧ (∃ (s : State), s.portOpen = true)
    ∧ (∃ (s : State), ∃ (k : Fin 16), s.port.connected.testBit k.val = true)
    ∧ (∃ (s : State), ∃ (n : Nat), s.port.connected.testBit n = false)
    ∧ (∃ (s : State), ∃ (_l : List (Nat × List (Nat × Nat))), s.portOpen = true ∧ 13 ≤ s.boot.phase
      ∧ 6 ≤ s.port.disc) :=
  ⟨⟨wOn, by decide +kernel⟩
  , ⟨{ wOn with time := { wOn.time with ns := 10 ^ 10 } }, 5, wSess, by decide +kernel⟩
  , ⟨wOn, 5, wSess, by decide +kernel⟩
  , ⟨wAt { wSess with unacked := [⟨1, .notice 0 0 .ok [], 100⟩] }, 5, 1,
    { wSess with unacked := [⟨1, .notice 0 0 .ok [], 100⟩] }, ⟨1, .notice 0 0 .ok [], 100⟩, by decide +kernel⟩
  , ⟨wAt { wSess with telPeriod := 1 }, 5, { wSess with telPeriod := 1 }, by decide +kernel⟩
  , ⟨wOn, 5, wSess, by decide +kernel⟩
  , ⟨wOn, by decide +kernel⟩
  , ⟨wDisk, 15, by decide +kernel⟩
  , ⟨wOn, 16, by decide +kernel⟩
  , ⟨wOn, [], by decide +kernel⟩⟩

theorem witness_StartEvents :
    (∃ (s : State), s.pins.rstN = true)
    ∧ (∃ (s : State), s.pins.rstN = false)
    ∧ (∃ (s : State), s.pins.pwrgdMem = true)
    ∧ (∃ (s : State), s.pins.pwrgdCore = true)
    ∧ (∃ (s : State), ∃ (_w : List Nat), s.boot.released = false ∧ s.clocks.safe = false
      ∧ s.nvm.trips.find? slotUnconsumed = none ∧ s.nvm.cfgOk = true ∧ s.nvm.secretsOk = true ∧ s.nvm.mapA = true)
    ∧ (∃ (s : State), ∃ (b : Bool), ∃ (_w : List Nat), s.boot.released = false ∧ s.clocks.safe = false
      ∧ (b = false ∨ s.nvm.secretsOk = false ∨ (s.nvm.mapA = false ∧ s.nvm.mapB = false)))
    ∧ (∃ (s : State), ∃ (_b : Bool), ∃ (_w : List Nat), s.boot.released = true)
    ∧ (∃ (s : State), ∃ (_l : List Nat), s.inPhase 2 = true ∧ s.fabric.segDown = [])
    ∧ (∃ (s : State), ∃ (l : List (DieIx × Bool × Nat)), s.inPhase 3 = true ∧ (∀ x ∈ l, x.2.2 < 3))
    ∧ (∃ (s : State), s.inPhase 4 = true)
    ∧ (∃ (s : State), ∃ (_k : StackIx), ∃ (n : Nat), s.inPhase 4 = true ∧ 3 ≤ n)
    ∧ (∃ (s : State), s.inPhase 5 = true)
    ∧ (∃ (s : State), ∃ (c : CoreIx), ∃ (_n : Nat), s.inPhase 5 = true ∧ s.good c.val = true ∧ (∀ p ∈ s.groups,
      p.2.ticking = false) ∧ (s.core c.val).fenced = false)
    ∧ (∃ (s : State), ∃ (_reads : List StartupReads), s.inPhase 12 = true ∧ (∀ d, d < 4 → (s.therm d).state = 0))
    ∧ (∃ (s : State), ∃ (_reads : List StartupReads), ∃ (d : Nat), s.inPhase 12 = true ∧ d < 4
      ∧ (s.therm d).state ≠ 0)
    ∧ (∃ (s : State), s.inPhase 15 = true ∧ s.boot.isDone = false ∧ s.portOpen = true ∧ s.switching = false
      ∧ 256 ≤ s.placesFree)
    ∧ (∃ (s : State), ∃ (p : Nat), ∃ (_l : List Nat), s.boot.phase ≠ p)
    ∧ (∃ (s : State), ∃ (p : Nat), ∃ (_l : List Nat), s.boot.phase ≠ p ∧ p = 2) :=
  ⟨⟨wOn, by decide +kernel⟩
  , ⟨State.reset, by decide +kernel⟩
  , ⟨wOn, by decide +kernel⟩
  , ⟨wOn, by decide +kernel⟩
  , ⟨State.reset, [], by decide +kernel⟩
  , ⟨State.reset, false, [], by decide +kernel⟩
  , ⟨wOn, true, [], by decide +kernel⟩
  , ⟨wPhase 2, [], by decide +kernel⟩
  , ⟨wPhase 3, [], by decide +kernel⟩
  , ⟨wPhase 4, by decide +kernel⟩
  , ⟨wPhase 4, 11, 3, by decide +kernel⟩
  , ⟨wPhase 5, by decide +kernel⟩
  , ⟨wPhase 5, 575, 4, by decide +kernel⟩
  , ⟨wPhase 12, [], by decide +kernel⟩
  , ⟨{ wPhase 12 with thermal := { wOn.thermal with dies := [(3, { DieTherm.init with state := 1 })] } }, [], 3,
    by decide +kernel⟩
  , ⟨wPhase 15, by decide +kernel⟩
  , ⟨wOn, 2, [], by decide +kernel⟩
  , ⟨wOn, 2, [], by decide +kernel⟩⟩

theorem witness_PowerCycleCount :
    (∃ (s : State), ∃ (_ok : Bool), ∃ (_l : List Nat), s.boot.released = false)
    ∧ (∃ (s : State), ∃ (_sev _code _unit : Nat), ∃ (_bytes : List Byte), s.recorder.staging.length < 256)
    ∧ (∃ (s : State), ∃ (g : Nat), ∃ (x : Gen), (s.inst g).next = some x)
    ∧ (∃ (s s' : State), ∃ (g g' : Nat), ∃ (x x' : Gen), (s.inst g).next = some x ∧ (s'.inst g').next = some x'
      ∧ s.activations + 1 < 2 ^ 32 ∧ s'.activations + 1 < 2 ^ 32 ∧ (s.nvm.bootCount,
      s.activations) ≠ (s'.nvm.bootCount, s'.activations)) :=
  ⟨⟨State.reset, true, [], by decide +kernel⟩
  , ⟨State.reset, 0, 0, 0, [], by decide +kernel⟩
  , ⟨wNext wGen, 0, wGen, by decide +kernel⟩
  , ⟨wNext wGen, ({ wNext wGen with activations := 1 } : State), 0, 0, wGen, wGen, by decide +kernel⟩⟩

theorem witness_ResetState :
    ∃ (b : Blk), ∃ (o : Nat), locate ((Blk.base b) + o) = some (b, o) ∧ ∃ (r : RegDesc), b.find o = some r :=
  ⟨.identity, 0, by decide +kernel, ⟨_, rfl⟩⟩

theorem witness_RecordEvents :
    (∃ (s : State), s.sec.building = true)
    ∧ (∃ (s : State), s.sec.building = false)
    ∧ (∃ (s : State), s.counting = true)
    ∧ (∃ (s : State), s.recorder.staging = [])
    ∧ (∃ (s : State), ∃ (r : EvRec), ∃ (rest : List EvRec), s.recorder.staging = r :: rest
      ∧ (s.nvm.records.map EvRec.size).sum + r.size ≤ recorderSlots)
    ∧ (∃ (n m : Nvm), ∃ (r : EvRec), ∃ (k : Nat), (n.records.map (·.seq)).Nodup ∧ Nvm.makeRoom r k n = some m)
    ∧ (∃ (s : State), ∃ (_sev _code _unit : Nat), ∃ (_bytes : List Byte), s.recorder.staging.length < 256)
    ∧ (∃ (s : State), ∃ (_sev _code _unit : Nat), ∃ (_bytes : List Byte), 256 ≤ s.recorder.staging.length) :=
  ⟨⟨{ wOn with sec := { wOn.sec with building := true } }, by decide +kernel⟩
  , ⟨wOn, by decide +kernel⟩
  , ⟨wOn, by decide +kernel⟩
  , ⟨wOn, by decide +kernel⟩
  , ⟨{ wOn with recorder := { wOn.recorder with staging := [wRec] } }, wRec, [], by decide +kernel⟩
  , ⟨wOn.nvm, _, wRec, 0, by decide +kernel, rfl⟩
  , ⟨wOn, 0, 0, 0, [], by decide +kernel⟩
  , ⟨{ wOn with recorder := { wOn.recorder with staging := List.replicate 256 wRec } }, 0, 0, 0, [],
    by decide +kernel⟩⟩

theorem witness_EccAndMemory :
    (∃ (data i v : Nat), data < 2 ^ 256 ∧ i < 36 ∧ 0 < v ∧ v < 256)
    ∧ (∃ (_data i j v w : Nat), i < j ∧ j < 36 ∧ 0 < v ∧ v < 256 ∧ 0 < w ∧ w < 256)
    ∧ (∃ (_data i j k u v w : Nat), i < j ∧ j < k ∧ k < 36 ∧ 0 < u ∧ u < 256 ∧ 0 < v ∧ v < 256 ∧ 0 < w ∧ w < 256)
    ∧ (∃ (m : List Host.Cell), ∃ (_a : Nat), ∃ (_b : Byte), memWf m = true)
    ∧ (∃ (_m : List Host.Cell), ∃ (a : Nat), ∃ (_b : Byte), ∃ (k : Nat), k ≠ a)
    ∧ (∃ (m n : List Host.Cell), memWf m = true ∧ memWf n = true ∧ (∀ a, memByte m a = memByte n a))
    ∧ (∃ (s : State), ∃ (_g _v : Nat), memWf s.mem = true)
    ∧ (∃ (_s : State), ∃ (g h _v : Nat), h ≠ g) :=
  ⟨⟨0, 35, 255, by decide +kernel⟩
  , ⟨0, 0, 35, 1, 255, by decide +kernel⟩
  , ⟨0, 0, 1, 35, 1, 1, 255, by decide +kernel⟩
  , ⟨[(3, 1), (5, 2)], 3, 0, by decide +kernel⟩
  , ⟨[], 3, 0, 4, by decide +kernel⟩
  , ⟨[(3, 1)], [(3, 1)], by decide +kernel, by decide +kernel, (fun _ => rfl)⟩
  , ⟨wOn, 3, 5, by decide +kernel⟩
  , ⟨wOn, 3, 4, 5, by decide +kernel⟩⟩

theorem witness_StepKeeps :
    (∃ (s t : State), step s = .next t)
    ∧ (∃ (s t : State), step s = .next t ∧ memWf s.mem = true) :=
  ⟨⟨wOn, _, rfl⟩
  , ⟨wOn, _, rfl, by decide +kernel⟩⟩

/-- Bytes of a v3 plan of one variant with one record, a SYNC. -/
def wPlanBytes (worst : Byte) : List Byte :=
  let t : List (Nat × Byte) :=
    [(0, 0x33), (1, 0x4C), (2, 0x50), (3, 0x4D), (4, 3), (5, 1), (6, 1), (7, 1), (0x30, 1), (0x32, 1), (0x48, 0xE0)
    , (0x50, 0x10), (0x51, 1), (0x61, 1), (0x62, 0xE8), (0x63, 3), (0x64, 0x10), (0x65, 0x27), (0x6A, 100), (0x6C, worst)
    , (0x74, 0xF0), (0x78, 1), (0xE6, 0xFF), (0xE7, 0xFF), (0xF0, 0x3F), (0xFC, 1), (0x100, 0xFF), (0x101, 0xFF), (0x102, 0xFF), (0x103, 0xFF), (0x104, 0xFF)
    , (0x105, 0xFF), (0x106, 0xFF), (0x107, 0xFF)]
  (List.range 272).map (fun i => (t.lookup i).getD 0)

def wPlan3 : Plan :=
  { format := 3, stride := 1, nocRatio := 1, planId := 0, manifest := List.replicate 32 0, channels := 1, decodeRows := 0
    prefillRows := 0, spillSrc := 0, linold := 0, cores := [], regions := [], layers := [⟨0, 0, 0, 0, 0xFFFF, 0, 0⟩]
    moe := [], length := 272, descriptors := 0
    variants := [⟨0, 1000, 10000, 0, 100, 0, 0, [⟨0x3F, 0, 0, 0, 0, 1, 0, 0xFFFFFFFF, 0xFFFFFFFF, wOpArgs⟩], []⟩] }

/-- That plan committed to group 0, whose model has its manifest. -/
def wVerify (bs : List Byte) : State :=
  { wOn with
    groups := [(0, { wFormed with staged := some (wCommitted bs) })]
    insts := [(0, ⟨some { wGen with load := { wLoad with manifest := { wManifest with digest := List.replicate 32 0 } } }, none, [], 0⟩)] }

theorem wPlan3_parse (h : Config.opArgs = fun _ _ => some wOpArgs) : parsePlan (wPlanBytes 0) = some wPlan3 := by
  delta parsePlan parseVariant parseOp
  rw [h]
  decide +kernel

theorem wPlan3_accepted (h : Config.opArgs = fun _ _ => some wOpArgs) :
    verifyPlan (wPlanBytes 0) ((List.range 8).filter wSess.plans.testBit) 1 (Group.slots wFormed)
      ((wVerify (wPlanBytes 0)).bindingOk 0) 1400 = (.accept true, some wPlan3) := by
  have e : planFormat (wPlanBytes 0) = 3 := by decide +kernel
  unfold verifyPlan
  rw [e, wPlan3_parse h]
  decide +kernel
theorem witness_PlanVerification_accepted (h : Config.opArgs = fun _ _ => some wOpArgs) :
  ∃ (s : State), ∃ (g : GroupIx), ∃ (st : Staged), ∃ (bs : List Byte), ∃ (x : Session), ∃ (usable : Bool), ∃ (p : Plan), (s.grp g.val).staged = some st ∧ st.phase = .verifying ∧ st.upload.bytes = some bs ∧ Crypto.sha256 bs = st.upload.digest ∧ s.session? st.upload.sess = some x ∧ verifyPlan bs ((List.range 8).filter x.plans.testBit) (s.grp g.val).chans.length (s.grp g.val).slots (s.bindingOk g.val) s.pkgThrottle = (.accept usable, some p) :=
  ⟨wVerify (wPlanBytes 0), 0, wCommitted (wPlanBytes 0), wPlanBytes 0, wSess, true, wPlan3, rfl, rfl, by decide +kernel, rfl, by decide +kernel, wPlan3_accepted h⟩

/-! ### Signatures and tags: keys made to fit a signature -/

theorem w_bytesBE (n v : Nat) : (Crypto.bytesBE n v).length = n := by
  induction n with
  | zero => rfl
  | succ n ih => simp [Crypto.bytesBE, ih]

theorem w_sha256 (m : List Byte) : (Crypto.sha256 m).length = 32 := by
  simp [Crypto.sha256, w_bytesBE]

theorem w_climb (i p t : List Byte) (n node : Nat) (h : t.length = 32) : (Crypto.climb i n node p t).length = 32 := by
  induction n generalizing node p t with
  | zero => exact h
  | succ n ih => exact ih _ _ _ (w_sha256 _)

def wSig : List Byte :=
  List.replicate 4 0 ++ [0, 0, 0, 3] ++ List.replicate 2176 0 ++ [0, 0, 0, 8] ++ List.replicate 640 0

/-- The root that makes the signature one of a message. -/
def wRoot (msg : List Byte) : List Byte :=
  Crypto.climb (List.replicate 16 0) 20 (2 ^ 20 + Crypto.natBE (Crypto.slice wSig 0 4)) (Crypto.slice wSig 2188 640)
    (Crypto.sha256 (List.replicate 16 0 ++ Crypto.bytesBE 4 (2 ^ 20 + Crypto.natBE (Crypto.slice wSig 0 4))
      ++ [0x82, 0x82] ++ Crypto.otsCandidate (List.replicate 16 0) (Crypto.slice wSig 0 4) (Crypto.slice wSig 4 2180) msg))

def wLmsPub (msg : List Byte) : List Byte := [0, 0, 0, 8, 0, 0, 0, 3] ++ List.replicate 16 0 ++ wRoot msg

theorem wRoot_length (msg : List Byte) : (wRoot msg).length = 32 := w_climb _ _ _ _ _ (w_sha256 _)

theorem wLmsPub_length (msg : List Byte) : (wLmsPub msg).length = 56 := by simp [wLmsPub, wRoot_length]

theorem wLms (msg : List Byte) : Crypto.lmsVerify (wLmsPub msg) wSig msg = true := by
  have e1 : Crypto.slice (wLmsPub msg) 8 16 = List.replicate 16 0 := rfl
  have e2 : Crypto.slice (wLmsPub msg) 24 32 = wRoot msg := by
    show List.take 32 (wRoot msg) = wRoot msg
    exact List.take_of_length_le (Nat.le_of_eq (wRoot_length msg))
  have e3 : Crypto.natBE (Crypto.slice (wLmsPub msg) 0 4) = 8 := rfl
  have e4 : Crypto.natBE (Crypto.slice (wLmsPub msg) 4 4) = 3 := rfl
  have e5 : (wSig.length == 2828 && Crypto.natBE (Crypto.slice wSig 4 4) == 3
      && Crypto.natBE (Crypto.slice wSig 2184 4) == 8
      && decide (Crypto.natBE (Crypto.slice wSig 0 4) < 2 ^ 20)) = true := by decide +kernel
  simp only [Bool.and_eq_true] at e5
  unfold Crypto.lmsVerify
  simp only [e1, e2, e3, e4, e5.1.1.1, e5.1.1.2, e5.1.2, e5.2, wLmsPub_length, Bool.and_true, Bool.true_and, beq_self_eq_true]
  exact beq_self_eq_true (wRoot msg)

def wPub (msg : List Byte) : List Byte := [0, 0, 0, 1] ++ wLmsPub msg

theorem wHss (msg : List Byte) : Crypto.hssVerify (wPub msg) 1 ([0, 0, 0, 0] ++ wSig) msg = true := by
  have e1 : Crypto.slice (wPub msg) 4 56 = wLmsPub msg := by
    show List.take 56 (wLmsPub msg) = wLmsPub msg
    exact List.take_of_length_le (Nat.le_of_eq (wLmsPub_length msg))
  have e2 : Crypto.natBE (Crypto.slice (wPub msg) 0 4) = 1 := rfl
  have e3 : Crypto.slice ([0, 0, 0, 0] ++ wSig) 4 2828 = wSig := by decide +kernel
  have e4 : (([0, 0, 0, 0] ++ wSig).length == 2832
      && Crypto.natBE (Crypto.slice ([0, 0, 0, 0] ++ wSig) 0 4) + 1 == 1) = true := by decide +kernel
  simp only [Bool.and_eq_true] at e4
  unfold Crypto.hssVerify
  simp only [e1, e2, e3, e4.1, e4.2, wLms, if_true, Bool.and_true, beq_self_eq_true]

/-- Bytes with some of them set. -/
def wBytes (n : Nat) (t : List (Nat × Byte)) : List Byte := (List.range n).map (fun i => (t.lookup i).getD 0)


theorem w_signed (body : List Byte) (k : OpKey) (hl : k.levels = 1) (hp : k.pub = wPub body) :
    signedBy (body ++ ([0, 0, 0, 0] ++ wSig)) body.length k = true := by
  have e : ([0, 0, 0, 0] ++ wSig).length = 2832 := by decide +kernel
  have e2 : (body ++ ([0, 0, 0, 0] ++ wSig)).length = body.length + 2832 := by rw [List.length_append, e]
  unfold signedBy
  simp only [List.drop_left, List.take_left, hl, hp, wHss, e2, Bool.and_true]
  simp

/-- A manifest of a kind with one shard, before its signature, which follows at 200. -/
def wBody (kind : Byte) (attn : Byte) : List Byte :=
  wBytes 200
    [(0, 0x4D), (1, 0x4D), (2, 0x4E), (3, 0x46), (4, 2), (5, kind), (6, 1), (0x10, 1), (0x20, 7), (0x28, 1), (0x70, 0x88)
    , (0x74, 0xC8), (0x78, attn), (0x7C, 0xC8), (0x84, 0xD8), (0x85, 0x0B), (0x8C, 1)]

def wFile (kind attn : Byte) : List Byte := wBody kind attn ++ ([0, 0, 0, 0] ++ wSig)

def wSigner (body : List Byte) : OpKey := ⟨7, List.replicate 32 1, 7, 1, wPub body, false⟩

/-- Key 7 signs with a key made to fit; target 15 holds what it signed. -/
def wSigned (body : List Byte) : State := { wDisk with nvm := { wOn.nvm with keys := [(1, wSigner body)] } }

/-- The session once it has been heard. -/
def wSeen : Session := { wSess with lastRx := 1000, expect := 2, calls := [(1, 0, 0)] }

def wBase : Gen :=
  { wGen with load := { wLoad with manifest := { wManifest with baseDigest := [], digest := List.replicate 32 0 } } }

theorem wManifest_ok (kind attn : Byte) (s : State) (g : Nat) (x : Session)
    (hx : x.key = 7) (hv : x.manifests.testBit 2 = true) (hk : s.keyOf 7 = some (wSigner (wBody kind attn)))
    (h : (decide ((parseManifest (wFile kind attn)).format = 2) && decide ((parseManifest (wFile kind attn)).keyId = 7)
      && decide (le (wFile kind attn) 0x7C 4 = (wBody kind attn).length)
      && manifestRanges (wFile kind attn) (parseManifest (wFile kind attn)) kind.toNat
      && decide ((parseManifest (wFile kind attn)).deviceBytes ≤ s.freeBytes g)) = true) :
    s.checkManifest x g kind.toNat (wFile kind attn) = none := by
  simp only [Bool.and_eq_true, decide_eq_true_eq] at h
  obtain ⟨⟨⟨⟨h1, h2⟩, h3⟩, h4⟩, h5⟩ := h
  have hs : signedBy (wFile kind attn) (wBody kind attn).length (wSigner (wBody kind attn)) = true :=
    w_signed _ _ rfl rfl
  have hr : (wSigner (wBody kind attn)).roles.testBit 1 = true := show (7 : Nat).testBit 1 = true by decide
  have hl : (wSigner (wBody kind attn)).levels = 1 := rfl
  unfold State.checkManifest
  simp only [h1, h2, h3, h4, hk, hs, hv, hx, hr, hl, Nat.not_lt.mpr h5]
  simp

theorem witness_ModelCommands_loads :
    ∃ (s : State), ∃ (h : Hdr), ∃ (g : Nat), ∃ (loc : StorageLoc), ∃ (reads : Reads), ∃ (x : Session), ∃ (bs : List Byte),
      Admitted s h (.modelLoad h g loc reads) ∧ g < 12 ∧ ((s.heard h).grp g).formed = true
      ∧ (s.heard h).session? h.sess = some x ∧ ((s.heard h).inst g).next = none
      ∧ (s.heard h).fetchManifest loc reads = some bs ∧ (s.heard h).checkManifest x g 0 bs = none :=
  ⟨wSigned (wBody 0 0xC8), wHdr, 0, ⟨15, 1, 0, 3032⟩, [some (wFile 0 0xC8)], wSeen, wFile 0 0xC8
    , admitted_of (by decide +kernel), by decide +kernel, by decide +kernel, by decide +kernel, by decide +kernel
    , by decide +kernel, wManifest_ok 0 0xC8 _ _ _ rfl rfl rfl (by decide +kernel)⟩

theorem witness_AdapterCommands_loads :
    ∃ (s : State), ∃ (h : Hdr), ∃ (g ident tenant : Nat), ∃ (loc : StorageLoc), ∃ (reads : Reads), ∃ (x : Session),
      ∃ (base : Gen), ∃ (bs : List Byte), AtOnce s h (.adapterLoad h g ident tenant loc reads) ∧ g < 12
      ∧ ((s.heard h).grp g).formed = true ∧ (s.heard h).session? h.sess = some x
      ∧ ((s.heard h).inst g).active = some base ∧ ident ≠ 0 ∧ base.load.manifest.adapterSlots ≠ 0
      ∧ ((s.heard h).inst g).adapters.get? ident = none ∧ ((s.heard h).inst g).adapters.length < 64
      ∧ (s.heard h).fetchManifest loc reads = some bs ∧ (s.heard h).checkManifest x g 1 bs = none
      ∧ adapterFits (parseManifest bs) base.load.manifest = true :=
  ⟨{ wSigned (wBody 1 0) with insts := [(0, ⟨some wBase, none, [], 0⟩)] }, wHdr, 0, 6, 3, ⟨15, 1, 0, 3032⟩
    , [some (wFile 1 0)], wSeen, wBase, wFile 1 0
    , atOnce_of (by decide +kernel), by decide +kernel, by decide +kernel, by decide +kernel, by decide +kernel
    , by decide +kernel, by decide +kernel, by decide +kernel, by decide +kernel, by decide +kernel
    , wManifest_ok 1 0 _ _ _ rfl rfl rfl (by decide +kernel), by decide +kernel⟩

/-! ### A signature of any message under one key -/

theorem w_chain (i q k : List Byte) (a b j : Nat) (x : List Byte) :
    Crypto.chain i q k (a + b) j x = Crypto.chain i q k b (j + a) (Crypto.chain i q k a j x) := by
  induction a generalizing j x with
  | zero => simp [Crypto.chain]
  | succ a ih =>
    rw [Nat.succ_add, Crypto.chain, Crypto.chain, ih]
    congr 1
    omega

theorem w_chain_length (i q k : List Byte) (a j : Nat) (x : List Byte) (h : x.length = 32) :
    (Crypto.chain i q k a j x).length = 32 := by
  induction a generalizing j x with
  | zero => exact h
  | succ a ih => exact ih _ _ (w_sha256 _)

theorem w_flat {α : Type} (f : Nat → List α) (hf : ∀ x, (f x).length = 32) (l : List Nat) (k : Nat) (h : k < l.length) :
    ((l.flatMap f).drop (32 * k)).take 32 = f l[k] := by
  induction l generalizing k with
  | nil => simp at h
  | cons x l ih =>
    cases k with
    | zero =>
      simp only [List.flatMap_cons, Nat.mul_zero, List.drop_zero, List.getElem_cons_zero]
      exact List.take_left' (hf x)
    | succ k =>
      rw [List.flatMap_cons, Nat.mul_succ, Nat.add_comm, ← List.drop_drop, List.drop_left' (hf x)]
      exact ih k (by simpa using h)

theorem w_nibbles (bs : List Byte) : ∀ x ∈ Crypto.nibbles bs, x ≤ 15 := by
  intro x h
  simp only [Crypto.nibbles, List.mem_flatMap, List.mem_cons, List.not_mem_nil, or_false] at h
  obtain ⟨b, -, rfl | rfl⟩ := h
  · have := b.isLt; omega
  · omega

/-- The digits a one-time signature spells for a message. -/
def wDigits (msg : List Byte) : List Nat :=
  let ds := Crypto.nibbles (Crypto.sha256 (List.replicate 16 0 ++ List.replicate 4 0 ++ [0x81, 0x81] ++ List.replicate 32 0 ++ msg))
  let sum := ds.foldl (fun a d => a + (15 - d)) 0
  ds ++ (Crypto.nibbles (Crypto.bytesBE 2 (16 * sum))).take 3

theorem wDigits_le (msg : List Byte) (k : Nat) : (wDigits msg).getD k 0 ≤ 15 := by
  rw [List.getD_eq_getElem?_getD]
  cases e : (wDigits msg)[k]? with
  | none => simp
  | some d =>
    have hm := List.mem_of_getElem? e
    simp only [wDigits, List.mem_append] at hm
    rcases hm with hm | hm
    · exact w_nibbles _ _ hm
    · exact w_nibbles _ _ (List.mem_of_mem_take hm)

def wLink (n k : Nat) : List Byte :=
  Crypto.chain (List.replicate 16 0) (List.replicate 4 0) (Crypto.bytesBE 2 k) n 0 (List.replicate 32 0)

theorem wLink_length (n k : Nat) : (wLink n k).length = 32 := w_chain_length _ _ _ _ _ _ (by decide)

/-- The signature of a message. -/
def wSignOf (msg : List Byte) : List Byte :=
  List.replicate 4 0 ++ ([0, 0, 0, 3] ++ List.replicate 32 0
    ++ (List.range 67).flatMap (fun k => wLink ((wDigits msg).getD k 0) k)) ++ ([0, 0, 0, 8] ++ List.replicate 640 0)

def wLeaf : List Byte :=
  Crypto.sha256 (List.replicate 16 0 ++ List.replicate 4 0 ++ [0x80, 0x80] ++ (List.range 67).flatMap (fun k => wLink 15 k))

def wTop : List Byte :=
  Crypto.climb (List.replicate 16 0) 20 (2 ^ 20) (List.replicate 640 0)
    (Crypto.sha256 (List.replicate 16 0 ++ Crypto.bytesBE 4 (2 ^ 20) ++ [0x82, 0x82] ++ wLeaf))

def wVendor : List Byte := [0, 0, 0, 8, 0, 0, 0, 3] ++ List.replicate 16 0 ++ wTop

theorem wTop_length : wTop.length = 32 := w_climb _ _ _ _ _ (w_sha256 _)

theorem w_flatMap_length (f : Nat → List Byte) (hf : ∀ x, (f x).length = 32) (l : List Nat) :
    (l.flatMap f).length = 32 * l.length := by
  induction l with
  | nil => rfl
  | cons x l ih => rw [List.flatMap_cons, List.length_append, hf, ih, List.length_cons]; omega

def wOts (msg : List Byte) : List Byte :=
  [0, 0, 0, 3] ++ List.replicate 32 0 ++ (List.range 67).flatMap (fun k => wLink ((wDigits msg).getD k 0) k)

theorem wOts_length (msg : List Byte) : (wOts msg).length = 2180 := by
  simp only [wOts, List.length_append, w_flatMap_length _ (fun k => wLink_length _ k), List.length_range]
  rfl

theorem wSignOf_length (msg : List Byte) : (wSignOf msg).length = 2828 := by
  have e : wSignOf msg = List.replicate 4 0 ++ wOts msg ++ ([0, 0, 0, 8] ++ List.replicate 640 0) := rfl
  rw [e, List.length_append, List.length_append, wOts_length]
  simp only [List.length_append, List.length_replicate, List.length_cons, List.length_nil]

theorem wOts_candidate (msg : List Byte) :
    Crypto.otsCandidate (List.replicate 16 0) (List.replicate 4 0) (wOts msg) msg = wLeaf := by
  have e1 : Crypto.slice (wOts msg) 4 32 = List.replicate 32 0 := rfl
  have e2 : ∀ k, k < 67 → Crypto.slice (wOts msg) (36 + 32 * k) 32 = wLink ((wDigits msg).getD k 0) k := by
    intro k hk
    have := w_flat (fun k => wLink ((wDigits msg).getD k 0) k) (fun k => wLink_length _ k) (List.range 67) k
      (by simpa using hk)
    rw [List.getElem_range] at this
    rw [← this]
    unfold Crypto.slice
    rw [← List.drop_drop]
    rfl
  unfold Crypto.otsCandidate wLeaf
  simp only [e1]
  congr 2
  rw [List.flatMap_def, List.flatMap_def]
  congr 1
  apply List.map_congr_left
  intro k hk
  have hd := wDigits_le msg k
  rw [e2 k (List.mem_range.mp hk)]
  have := w_chain (List.replicate 16 0) (List.replicate 4 0) (Crypto.bytesBE 2 k) ((wDigits msg).getD k 0)
    (15 - (wDigits msg).getD k 0) 0 (List.replicate 32 0)
  rw [Nat.add_sub_cancel' hd, Nat.zero_add] at this
  exact this.symm

theorem wVendor_length : wVendor.length = 56 := by simp [wVendor, wTop_length]

theorem wVendor_signs (msg : List Byte) : Crypto.lmsVerify wVendor (wSignOf msg) msg = true := by
  have s : wSignOf msg = List.replicate 4 0 ++ wOts msg ++ ([0, 0, 0, 8] ++ List.replicate 640 0) := rfl
  have e1 : Crypto.slice wVendor 8 16 = List.replicate 16 0 := rfl
  have e2 : Crypto.slice wVendor 24 32 = wTop := by
    show List.take 32 wTop = wTop
    exact List.take_of_length_le (Nat.le_of_eq wTop_length)
  have e3 : Crypto.natBE (Crypto.slice wVendor 0 4) = 8 := rfl
  have e4 : Crypto.natBE (Crypto.slice wVendor 4 4) = 3 := rfl
  have e5 : Crypto.slice (wSignOf msg) 0 4 = List.replicate 4 0 := rfl
  have e6 : Crypto.slice (wSignOf msg) 4 2180 = wOts msg := by
    show List.take 2180 (wOts msg ++ _) = wOts msg
    exact List.take_left' (wOts_length msg)
  have d : (wSignOf msg).drop 2184 = [0, 0, 0, 8] ++ List.replicate 640 0 := by
    rw [s]
    exact List.drop_left' (by rw [List.length_append, wOts_length]; rfl)
  have e7 : Crypto.slice (wSignOf msg) 2188 640 = List.replicate 640 0 := by
    unfold Crypto.slice
    rw [show 2188 = 2184 + 4 from rfl, ← List.drop_drop, d]
    decide +kernel
  have e8 : Crypto.natBE (Crypto.slice (wSignOf msg) 2184 4) = 8 := by
    unfold Crypto.slice
    rw [d]
    rfl
  have e9 : Crypto.natBE (Crypto.slice (wSignOf msg) 4 4) = 3 := rfl
  have n0 : Crypto.natBE (List.replicate 4 0) = 0 := by decide
  unfold Crypto.lmsVerify
  simp only [e1, e2, e3, e4, e5, e6, e7, e8, e9, n0, wSignOf_length, wVendor_length, wOts_candidate, Bool.true_and,
    beq_self_eq_true, Nat.add_zero]
  exact Bool.and_eq_true_iff.mpr ⟨by decide, beq_self_eq_true wTop⟩

/-- An image signed by that key. -/
def wImageBody : List Byte :=
  wBytes 32 [(0, 0x4D), (1, 0x46), (2, 0x57), (3, 0x38), (0xC, 0x64), (0xD, 0x0B), (0x10, 0x58)] ++ wVendor

def wImage : List Byte := wImageBody ++ wSignOf wImageBody

theorem wImageBody_length : wImageBody.length = 88 := by
  rw [wImageBody, List.length_append, wVendor_length]
  decide

theorem wImage_length : wImage.length = 2916 := by
  rw [wImage, List.length_append, wImageBody_length, wSignOf_length]

theorem w_le {a b : List Byte} (off n : Nat) (h : off + n ≤ a.length) : le (a ++ b) off n = le a off n := by
  have h2 : off + n ≤ (a ++ b).length := Nat.le_trans h (by simp)
  simp only [le, leAt, h, h2, if_true]
  rw [List.drop_append_of_le_length (by omega), List.take_append_of_le_length (by simp; omega)]

theorem wImage_le (off n : Nat) (h : off + n ≤ 32) :
    le wImage off n = le (wBytes 32 [(0, 0x4D), (1, 0x46), (2, 0x57), (3, 0x38), (0xC, 0x64), (0xD, 0x0B), (0x10, 0x58)]) off n := by
  rw [wImage, wImageBody, List.append_assoc]
  exact w_le off n (by simpa [wBytes] using h)

theorem wImage_ok (s : State) (u : Upload) (hu : u.digest = Crypto.sha256 wImage) (hf : s.nvm.floor = 0)
    (hv : Config.vendorHash 0 = Crypto.sha256 wVendor) : s.checkImage u wImage = none := by
  have e0 : le wImage 0 4 = 0x3857464D := by rw [wImage_le 0 4 (by decide)]; decide
  have e1 : le wImage 0xC 4 = 2916 := by rw [wImage_le 0xC 4 (by decide)]; decide
  have e2 : le wImage 0x10 4 = 88 := by rw [wImage_le 0x10 4 (by decide)]; decide
  have e3 : le wImage 8 4 = 0 := by rw [wImage_le 8 4 (by decide)]; decide
  have e4 : Crypto.slice wImage 0x20 56 = wVendor := by
    have : wImage.drop 0x20 = wVendor ++ wSignOf wImageBody := by
      rw [wImage, wImageBody, List.append_assoc]
      exact List.drop_left' (by decide)
    rw [Crypto.slice, this]
    exact List.take_left' wVendor_length
  have e5 : wImage.drop 88 = wSignOf wImageBody := List.drop_left' wImageBody_length
  have e6 : wImage.take 88 = wImageBody := List.take_left' wImageBody_length
  unfold State.checkImage
  simp only [e0, e1, e2, e3, e4, e5, e6, hu, hf, hv, wImage_length, wVendor_signs]
  simp

theorem w_range (f : Nat → Option Byte) (bs : List Byte) (n j : Nat) (hn : bs.length = j + n)
    (hf : ∀ k, k < bs.length → f k = bs[k]?) : (List.range' j n).mapM f = some (bs.drop j) := by
  induction n generalizing j with
  | zero =>
    rw [List.drop_eq_nil_of_le (Nat.le_of_eq (by simpa using hn))]
    rfl
  | succ n ih =>
    have hj : j < bs.length := by omega
    have e : f j = some bs[j] := by rw [hf j hj, List.getElem?_eq_getElem hj]
    rw [List.range'_succ, List.mapM_cons, e, ih (j + 1) (by omega), List.drop_eq_getElem_cons hj]
    rfl

theorem wImage_whole : (⟨5, 2916, Crypto.sha256 wImage, [(0, wImage)]⟩ : Upload).bytes = some wImage := by
  unfold Upload.bytes
  rw [List.range_eq_range']
  refine w_range _ wImage 2916 0 (by rw [wImage_length]) (fun k hk => ?_)
  simp only [partByte, Nat.zero_le, Nat.zero_add, hk, and_self, if_true, Nat.sub_zero]

theorem witness_FirmwareCommands_commits (hv : Config.vendorHash 0 = Crypto.sha256 wVendor) :
    (∃ (s : State), ∃ (h : Hdr), ∃ (u : Upload), ∃ (bs : List Byte), Admitted s h (.fwCommit h)
      ∧ (s.heard h).boot.upload = some u ∧ u.sess = h.sess ∧ u.bytes = some bs ∧ (s.heard h).checkImage u bs = none)
    ∧ (∃ (s : State), ∃ (u : Upload), ∃ (bs : List Byte), s.checkImage u bs = none) :=
  ⟨⟨wBoot (some ⟨5, 2916, Crypto.sha256 wImage, [(0, wImage)]⟩), wHdr, ⟨5, 2916, Crypto.sha256 wImage, [(0, wImage)]⟩
    , wImage, admitted_of (by decide +kernel), rfl, rfl, wImage_whole, wImage_ok _ _ rfl rfl hv⟩
  , ⟨wOn, ⟨5, 2916, Crypto.sha256 wImage, [(0, wImage)]⟩, wImage, wImage_ok _ _ rfl rfl hv⟩⟩

/-! ### Start-up calibration that reads nominally -/

def wNominal (l : List Nat) : Tbl Sweep := l.map (fun c => (c, Sweep.nominal))

theorem wNominal_get (l : List Nat) (c : Nat) : (wNominal l).getD c Sweep.nominal = Sweep.nominal := by
  unfold Tbl.getD wNominal
  induction l with
  | nil => rfl
  | cons x l ih =>
    rw [List.map_cons, Tbl.get?]
    split
    · rfl
    · exact ih

/-- A run whose columns read nominally. -/
def wNomRun : CalRun :=
  { CalRun.queuedRun 1 0 with sweeps := wNominal (List.range 530) }

theorem wNomRun_failures (b : Nat) : wNomRun.failures ArrayCal.init b = [] := by
  unfold CalRun.failures
  rw [List.filterMap_eq_nil_iff]
  intro c _
  have hs : wNomRun.sweeps.getD c Sweep.nominal = Sweep.nominal := by simp only [wNomRun, wNominal_get]
  have hf : (wNomRun.sums.getD c ColSums.zero).fit = none := by
    show ColSums.zero.fit = none
    decide +kernel
  have hm : wNomRun.measured c = (⟨1, 1⟩, ⟨0, 1⟩, ⟨0, 1⟩) := by
    unfold CalRun.measured
    rw [hf, hs]
    rfl
  have ht : wNomRun.target ArrayCal.init c = columnTarget ColVal.nominal Drift.init ⟨1, 1⟩ ⟨0, 1⟩ 100 := by
    unfold CalRun.target
    rw [hm, hs]
    rfl
  rw [ht, hm, hs]
  have h1 : ((⟨6, 100⟩ : Frac).lt (rawGain (columnTarget ColVal.nominal Drift.init ⟨1, 1⟩ ⟨0, 1⟩ 100) 100).abs) = false := by
    decide +kernel
  have h2 : (Frac.ofInt 12).lt (rawOffset (columnTarget ColVal.nominal Drift.init ⟨1, 1⟩ ⟨0, 1⟩ 100)).abs = false := by
    decide +kernel
  have h3 : (!(Sweep.nominal.mono && (⟨1, 2⟩ : Frac).le Sweep.nominal.pResp && Sweep.nominal.pResp.le ⟨1, 1⟩
      && (⟨1, 2⟩ : Frac).le Sweep.nominal.nResp && Sweep.nominal.nResp.le ⟨1, 1⟩
      && decide (50 ≤ Sweep.nominal.convStep) && decide (Sweep.nominal.convStep ≤ 150))) = false := by decide +kernel
  have h4 : (⟨(b * b : Nat), 16⟩ : Frac).lt ⟨0, 1⟩ = false := by
    simp only [Frac.lt, decide_eq_false_iff_not, Int.not_lt]
    simp
    exact Int.mul_nonneg (Int.natCast_nonneg b) (Int.natCast_nonneg b)
  unfold columnFails
  have hc : Sweep.nominal.convStep = 100 := rfl
  rw [hc, h1, h2]
  rw [hc] at h3
  simp only [h3, h4]
  rfl

theorem wNomRun_good (b : Nat) : wNomRun.badReason ArrayCal.init b = none := by
  unfold CalRun.badReason
  rw [wNomRun_failures]
  rfl

theorem wNomRun_swept : { CalRun.queuedRun 1 0 with
    sweeps := (List.range 530).map (fun c => (c, startupSweep (colVal ArrayCal.init c) c [])) } = wNomRun := by
  have e : (fun c => (c, startupSweep (colVal ArrayCal.init c) c [])) = (fun c => (c, Sweep.nominal)) := rfl
  unfold wNomRun wNominal
  rw [e]

theorem wNom_spares (b : Nat) (l : SweepReads) (n : Nat) (cal : ArrayCal) (r : CalRun) (h : r.need = []) :
    startupSpares b l n cal r = (cal, r, 0) := by
  cases n with
  | zero => rfl
  | succ n => simp [startupSpares, CalRun.candidates, h]

theorem w_startupRun (cal : ArrayCal) (b : Nat) (sweep : SweepReads) (rows : RowReads) (loc : List (Nat × Int)) (r : CalRun)
    (hr : { CalRun.queuedRun 1 0 with
      sweeps := (List.range 530).map (fun c => (c, startupSweep (colVal cal c) c sweep)) } = r)
    (hb : r.badReason cal b = none) (hf : r.failures cal b = []) (hn : rowNamed 256 (rowSums rows) = none) :
    startupRun cal b sweep [] rows loc = .ok ⟨r, cal.badSpares, 0, false⟩ := by
  subst hr
  unfold startupRun
  generalize (List.range 530).map (fun c => (c, startupSweep (colVal cal c) c sweep)) = l at hb hf ⊢
  simp only [hb, hf, hn, List.map_nil]
  rw [wNom_spares _ _ _ _ _ rfl]
  rfl

theorem wNom_startup (b : Nat) (loc : List (Nat × Int)) :
    startupRun ArrayCal.init b [] [] [] loc = .ok ⟨wNomRun, [], 0, false⟩ :=
  w_startupRun _ b _ _ _ _ wNomRun_swept (wNomRun_good b) (wNomRun_failures b) (by decide +kernel)

/-- A commit of that run leaves every core and every other array as it was, and its array in service. -/
theorem wNom_commit (s : State) (k : Nat) (hk : (s.arr k).cal = ArrayCal.init) (temp : Int) (load : Nat) :
    (s.commit k wNomRun temp load).cores = s.cores
      ∧ ((s.commit k wNomRun temp load).arr k).cal.exhausted = false
      ∧ ∀ j, j ≠ k → (s.commit k wNomRun temp load).arr j = s.arr j := by
  have hx : ∀ (y : CalRun) a b c, y.rowFound = [] → y.failing = [] →
      (commitRun ArrayCal.init y a b c).exhausted = false
      ∧ (commitRun ArrayCal.init y a b c).suspectCols = [] ∧ (commitRun ArrayCal.init y a b c).suspectRows = [] := by
    intro y a b c h1 h2
    unfold commitRun
    simp [h1, h2, ArrayCal.init]
  obtain ⟨h1, h2, h3⟩ := hx wNomRun temp load s.opS rfl rfl
  unfold State.commit
  simp only [hk, h1, h2, h3, Bool.false_and, List.isEmpty_nil, Bool.and_true, if_true]
  refine ⟨rfl, ?_, fun j hj => Tbl.getD_put_ne s.arrays _ _ hj⟩
  exact (congrArg (fun (x : ArrayState) => x.cal.exhausted) (Tbl.getD_put_self s.arrays k _ _)).trans h1

/-- The state in which a start-up run of that kind commits. -/
def wNomState (s : State) (k : Nat) : State :=
  (s.countCal k (65 * 256 + 56 * 0 + 36 * flag false) (1 + 0 + flag false)).updCal k (fun c => { c with
    suspectRows := wNomRun.rowFound, badSpares := [] })

theorem wNom_good (s : State) (k : Nat) : s.startupGood k ⟨wNomRun, [], 0, false⟩
    = (wNomState s k).commit k wNomRun ((wNomState s k).arrTemp k) (wNomState s k).startLoad := by
  have w : wNomRun.need = [] := by simp only [wNomRun]; rfl
  have e : ({ wNomRun with need := [] } : CalRun) = wNomRun := by
    have g : ∀ r : CalRun, r.need = [] → ({ r with need := [] } : CalRun) = r := by
      intro r hr
      cases r
      simp_all
    exact g _ w
  have en : wNomRun.need.isEmpty = true := by rw [w]; rfl
  unfold State.startupGood
  simp only [e, en, Bool.true_or, if_true]
  rfl

theorem wNomState_holds (s : State) (k : Nat) (hc : (s.arr k).cal = ArrayCal.init) :
    ((wNomState s k).arr k).cal = ArrayCal.init ∧ (wNomState s k).cores = s.cores
      ∧ ∀ j, j ≠ k → (wNomState s k).arr j = s.arr j := by
  have hw : wNomRun.rowFound = [] := by simp only [wNomRun]; rfl
  unfold wNomState
  generalize hs2 : s.countCal k _ _ = s2
  have e : (s2.arr k).cal = ArrayCal.init := by rw [← hs2]; exact hc
  refine ⟨?_, by rw [← hs2]; rfl, fun j hj => ?_⟩
  · simp only [State.updCal, State.updArr, State.arr, Tbl.upd, Tbl.getD_put_self, hw]
    simp only [State.arr] at e
    rw [e]
    rfl
  · simp only [State.updCal, State.updArr, State.arr, Tbl.upd]
    rw [Tbl.getD_put_ne _ _ _ hj, ← hs2]
    rfl

/-- What the start-up of an array leaves: the cores, and the calibration of every other array. -/
theorem wNom_array (s : State) (x : StartupReads) (hs : x.sweep = []) (hr : x.rows = [])
    (hc : (s.arr (arrKey x.core x.eng x.arrB)).cal = ArrayCal.init) :
    (s.startupArray x).2 = 0 ∧ (s.startupArray x).1.cores = s.cores
      ∧ ∀ j, j ≠ arrKey x.core x.eng x.arrB → (s.startupArray x).1.arr j = s.arr j := by
  unfold State.startupArray
  simp only [hc, hs, hr, List.filter_nil, List.map_nil, wNom_startup, wNom_good]
  generalize arrKey x.core x.eng x.arrB = k at hc ⊢
  obtain ⟨hk, hcores, harr⟩ := wNomState_holds s k hc
  obtain ⟨c1, c2, c3⟩ := wNom_commit (wNomState s k) k hk ((wNomState s k).arrTemp k) (wNomState s k).startLoad
  exact ⟨by rw [c2]; rfl, c1.trans hcores, fun j hj => (c3 j hj).trans (harr j hj)⟩

/-- The start-up of a core whose arrays read nominally, array by array. -/
def wNomAll (c : Nat) (l : List Nat) (acc : State × Nat) : State × Nat :=
  l.foldl (fun (acc : State × Nat) k =>
    let r := acc.1.startupArray ⟨coreIx c, engIx (arrEng k), arrIsB k, [], [], [], [], []⟩
    (r.1, max acc.2 r.2)) acc

theorem wNom_fold (c : Nat) (l : List Nat) (acc : State × Nat) (hl : l.Nodup)
    (hk : ∀ k ∈ l, arrKey (coreIx c) (engIx (arrEng k)) (arrIsB k) = k)
    (hc : ∀ k ∈ l, (acc.1.arr k).cal = ArrayCal.init) (hb : acc.2 = 0) :
    (wNomAll c l acc).2 = 0 ∧ (wNomAll c l acc).1.cores = acc.1.cores := by
  induction l generalizing acc with
  | nil => exact ⟨hb, rfl⟩
  | cons k l ih =>
    have e := hk k (List.mem_cons_self ..)
    obtain ⟨h1, h2, h3⟩ := wNom_array acc.1 ⟨coreIx c, engIx (arrEng k), arrIsB k, [], [], [], [], []⟩ rfl rfl
      (by rw [e]; exact hc k (List.mem_cons_self ..))
    simp only [e] at h3
    have hn := List.nodup_cons.mp hl
    obtain ⟨a, b⟩ := ih ((acc.1.startupArray ⟨coreIx c, engIx (arrEng k), arrIsB k, [], [], [], [], []⟩).1
        , max acc.2 (acc.1.startupArray ⟨coreIx c, engIx (arrEng k), arrIsB k, [], [], [], [], []⟩).2) hn.2
      (fun j hj => hk j (List.mem_cons_of_mem _ hj))
      (fun j hj => by
        rw [h3 j (fun he => hn.1 (he ▸ hj))]
        exact hc j (List.mem_cons_of_mem _ hj))
      (by rw [hb, h1]; rfl)
    dsimp only at b
    rw [h2] at b
    simp only [wNomAll, List.foldl_cons] at a b ⊢
    exact ⟨a, b⟩

theorem wNom_core (s : State) (c : Nat) : s.startupCore c [] = wNomAll c (coreArrays c) (s, 0) := by
  simp only [State.startupCore, wNomAll, List.find?_nil, Option.getD_none]

def wTesting : State := { wOn with cores := [(0, { CoreState.init with fenced := true, testing := true })] }

theorem wNom_testing : ∃ p : State × Nat, wTesting.startupCore 0 [] = p ∧ p.2 = 0 ∧ p.1.cores = wTesting.cores :=
  ⟨_, wNom_core wTesting 0
    , wNom_fold 0 (coreArrays 0) (wTesting, 0) (by decide +kernel) (by decide +kernel) (by decide +kernel) rfl⟩

theorem witness_UpkeepEvents_returns :
    ∃ (s : State), ∃ (c : CoreIx), ∃ (reads : List StartupReads), ∃ (u : State), (s.core c.val).testing = true
      ∧ s.startupCore c.val reads = (u, 0) ∧ (u.core c.val).due = 0 := by
  obtain ⟨⟨u, b⟩, h1, h2, h3⟩ := wNom_testing
  simp only at h2 h3
  subst h2
  have hd : (u.core 0).due = (wTesting.core 0).due := by
    unfold State.core
    rw [h3]
  exact ⟨wTesting, 0, [], u, by decide +kernel, h1, hd.trans (by decide +kernel)⟩

/-- A probe pack of key 7, before its signature. -/
def wPackBody : List Byte :=
  wBytes 40
    [(0, 0x4D), (1, 0x38), (2, 0x50), (3, 0x4B), (4, 1), (8, 2), (0x10, 7), (0x14, 0x38), (0x15, 0x0B), (0x18, 1)
    , (0x1C, 60), (0x20, 0x28), (0x24, 0x28)]

def wPackFile : List Byte := wPackBody ++ ([0, 0, 0, 0] ++ wSig)

/-- The pack is fetched. -/
def wPackFetch : State :=
  { wOn with
    nvm := { wOn.nvm with keys := [(1, wSigner wPackBody)] }
    probe := { wOn.probe with loading := some wFetching } }

theorem witness_UpkeepEvents_packs (hp : Config.probeSegments wPackFile 40 1 = some [⟨0, [1], 1, 4⟩]) :
    ∃ (s : State), ∃ (f : ProbeFetch), ∃ (bs : List Byte), ∃ (p : ProbePack),
      s.probe.loading = some f ∧ s.checkPack bs = .ok p := by
  refine ⟨wPackFetch, wFetching, wPackFile, ⟨2, 60, [⟨0, [1], 1, 4⟩], 7⟩, rfl, ?_⟩
  have hk : wPackFetch.keyOf 7 = some (wSigner wPackBody) := rfl
  have hs : signedBy wPackFile wPackBody.length (wSigner wPackBody) = true := w_signed _ _ rfl rfl
  have e : le wPackFile 0x10 4 = 7 ∧ le wPackFile 0x24 4 = wPackBody.length ∧ le wPackFile 0x18 4 = 1
      ∧ le wPackFile 0x1C 4 = 60 ∧ le wPackFile 0 4 = probeMagic ∧ le wPackFile 4 4 = 1
      ∧ le wPackFile 0x14 4 = wPackFile.length ∧ wPackFile.length ≤ 2 ^ 26 ∧ le wPackFile 0x20 4 = 40
      ∧ le wPackFile 8 8 = 2 := by decide +kernel
  obtain ⟨e1, e2, e3, e4, e5, e6, e7, e8, e9, e10⟩ := e
  have hq : parsePack wPackFile = some ⟨2, 60, [⟨0, [1], 1, 4⟩], 7⟩ := by
    unfold parsePack
    simp only [e3, e4, e5, e6, e7, e8, e9, e10, e1, hp]
    decide
  have hl : (wSigner wPackBody).levels = 1 := rfl
  have hr : (wSigner wPackBody).roles.testBit 2 = true := show (7 : Nat).testBit 2 = true by decide
  unfold State.checkPack
  simp only [e1, e2, hk, hs, hq, hl, hr]
  simp

/-- The tag of an AES-GCM text. -/
def wGcmTag (key nonce aad cipher : List Byte) : List Byte :=
  let h := BitVec.ofNat 128 (Crypto.natBE (Crypto.aes256 key (List.replicate 16 0)))
  let s := Crypto.ghash h (Crypto.pad16 aad ++ Crypto.pad16 cipher ++ Crypto.bytesBE 8 (8 * aad.length)
    ++ Crypto.bytesBE 8 (8 * cipher.length))
  List.zipWith (· ^^^ ·) (Crypto.bytesBE 16 s.toNat) (Crypto.aes256 key (nonce ++ Crypto.bytesBE 4 1))

theorem wGcm (key nonce aad cipher : List Byte) :
    ∃ p, Crypto.gcmOpen key nonce aad cipher (wGcmTag key nonce aad cipher) = some p := by
  unfold Crypto.gcmOpen
  exact ⟨_, if_pos rfl⟩

def wCakTag : List Byte :=
  wGcmTag (Crypto.hkdf [] (List.replicate 16 0) (Crypto.ascii "mct-cak") 32) (List.replicate 12 0)
    (Crypto.bytesLE 1 1 ++ List.replicate 16 1) (List.replicate 32 0)

theorem witness_DeviceCommands_macsec :
    ∃ (s : State), ∃ (h : Hdr), ∃ (p : Nat), ∃ (name nonce cipher tag cak : List Byte), ∃ (x : Session),
      Admitted s h (.cfgWrite h (.macsec p name nonce cipher tag))
      ∧ (CfgVal.macsec p name nonce cipher tag).inRange = true ∧ (s.heard h).session? h.sess = some x
      ∧ Crypto.gcmOpen (Crypto.hkdf x.h2d (s.heard h).serialBytes (Crypto.ascii "mct-cak") 32) nonce
        (Crypto.bytesLE 1 p ++ name) cipher tag = some cak := by
  obtain ⟨cak, hc⟩ := wGcm (Crypto.hkdf [] (List.replicate 16 0) (Crypto.ascii "mct-cak") 32) (List.replicate 12 0)
    (Crypto.bytesLE 1 1 ++ List.replicate 16 1) (List.replicate 32 0)
  exact ⟨wOn, wHdr, 1, List.replicate 16 1, List.replicate 12 0, List.replicate 32 0, wCakTag, cak, wSeen
    , admitted_of (by decide +kernel), by decide +kernel, by decide +kernel, hc⟩

/-- The start of an enrolment record for key 8, and the record with its tag. -/
def wEnrolHead : List Byte := wBytes 0x5C [(0, 0x4D), (1, 0x38), (2, 0x45), (3, 0x4B), (4, 8)]

def wEnrol : List Byte :=
  wEnrolHead ++ List.replicate 12 0 ++ List.replicate 32 0
    ++ wGcmTag (Crypto.hkdf [] (List.replicate 16 0) (Crypto.ascii "mct-enrol") 32) (List.replicate 12 0) wEnrolHead
      (List.replicate 32 0)

theorem witness_KeyCommands_enrols :
    (∃ (s : State), ∃ (h : Hdr), ∃ (r : List Byte), ∃ (x : Session), ∃ (slot : Nat), ∃ (secret : List Byte),
      Admitted s h (.keyEnrol h r) ∧ (s.heard h).session? h.sess = some x ∧ enrolFits r = true ∧ le r 0 4 = 0x4B45384D
      ∧ Crypto.slice r 0x10 16 = (s.heard h).serialBytes ∧ (s.heard h).keyOf (le r 4 4) = none
      ∧ (s.heard h).nvm.freeSlot = some slot ∧ (s.heard h).enrolSigned x r = true
      ∧ Crypto.gcmOpen (Crypto.hkdf x.h2d (s.heard h).serialBytes (Crypto.ascii "mct-enrol") 32) (Crypto.slice r 0x5C 12)
        (r.take 0x5C) (Crypto.slice r 0x68 32) (Crypto.slice r 0x88 16) = some secret)
    ∧ (∃ (s : State), ∃ (h : Hdr), ∃ (r : List Byte), ∃ (x : Session), Admitted s h (.keyEnrol h r)
      ∧ (s.heard h).session? h.sess = some x ∧ enrolFits r = true ∧ le r 0 4 = 0x4B45384D
      ∧ Crypto.slice r 0x10 16 = (s.heard h).serialBytes ∧ ((s.heard h).keyOf (le r 4 4)).isSome = true) := by
  refine ⟨?_, wOn, wHdr, wBytes 0x98 [(0, 0x4D), (1, 0x38), (2, 0x45), (3, 0x4B), (4, 7)], wSeen
    , admitted_of (by decide +kernel), by decide +kernel⟩
  obtain ⟨secret, hc⟩ := wGcm (Crypto.hkdf [] (List.replicate 16 0) (Crypto.ascii "mct-enrol") 32) (List.replicate 12 0)
    wEnrolHead (List.replicate 32 0)
  exact ⟨{ wOn with nvm := { wOn.nvm with keys := [(1, { wKey with custody := true })] } }, wHdr, wEnrol, wSeen, 0, secret
    , admitted_of (by decide +kernel), by decide +kernel, by decide +kernel, by decide +kernel, by decide +kernel
    , by decide +kernel, by decide +kernel, by decide +kernel, hc⟩

end

end Sys2Proof.Tests
end

section
/-!
SUPPORT. What a host command comes to by its place in the window of its session (R273), and where its processing on
receipt leaves the block.
-/

namespace Sys2Proof.Machine

open Sys2Proof

/-! ### The window of a session -/

theorem hostReceive_closed {s : State} (h : Hdr) (i : Instr) (hp : s.portOpen = false) : hostReceive h i s = s := by
  simp [hostReceive, hp]

theorem hostReceive_unknown {s : State} {h : Hdr} (i : Instr) (hp : s.portOpen = true) (hx : s.session? h.sess = none) :
    hostReceive h i s = s.dropBadTag := by
  simp [hostReceive, hp, hx]

theorem hostReceive_early {s : State} {h : Hdr} {i : Instr} {x : Session} (hp : s.portOpen = true)
    (hx : s.session? h.sess = some x) (hlo : x.expect < h.seq) (hhi : h.seq ≤ x.expect + 255)
    (hnew : x.early.any (fun j => seqOf j == h.seq) = false) :
    hostReceive h i s = (s.received h).updSession h.sess (fun y => { y with early := y.early ++ [i] }) := by
  have hne : h.seq ≠ x.expect := by omega
  simp [hostReceive, hp, hx, hne, hlo, hhi, hnew]

theorem hostReceive_repeated {s : State} {h : Hdr} (i : Instr) {x : Session} (hp : s.portOpen = true)
    (hx : s.session? h.sess = some x) (hlo : h.seq < x.expect) (hhi : x.expect ≤ h.seq + 256) :
    hostReceive h i s = (s.received h).resendReply x h.seq h.src h.opcode := by
  have hne : h.seq ≠ x.expect := by omega
  have hnot : ¬ x.expect < h.seq := by omega
  simp [hostReceive, hp, hx, hne, hnot, hlo, hhi]

theorem hostReceive_outside {s : State} {h : Hdr} (i : Instr) {x : Session} (hp : s.portOpen = true)
    (hx : s.session? h.sess = some x) (hout : x.expect + 255 < h.seq ∨ h.seq + 256 < x.expect) :
    hostReceive h i s = (s.received h).dropWindow := by
  have hne : h.seq ≠ x.expect := by omega
  have hahead : ¬ (x.expect < h.seq ∧ h.seq ≤ x.expect + 255) := by omega
  have hbehind : ¬ (h.seq < x.expect ∧ x.expect ≤ h.seq + 256) := by omega
  simp only [hostReceive, hp, hx, Bool.not_true, Bool.false_eq_true, if_false, if_neg hne, if_neg hahead, if_neg hbehind]

/-- A stored reply goes out again, marked as a repeat, to where the command has come from this time. -/
theorem State.resendReply_of_found (s : State) {x : Session} {seq : Nat} (src opcode : Nat) {a b d t : Nat} {st : Status}
    {body : List Nat} {rs : Bool}
    (hf : x.replies.find? (fun p => p.1 == seq) = some (seq, .reply a b st d t body rs)) :
    s.resendReply x seq src opcode = s.sendTo (.reply a b st d t body true) (some src) opcode := by
  simp [State.resendReply, hf]

/-! ### Processing on receipt -/

/-- An admitted command that is no boundary command completes with what its processing leaves. -/
theorem answered_of_runHost {s t : State} {h : Hdr} {i : Instr} {o : OpInfo} {st : Status} {body : List Nat}
    (ha : Admitted s h i) (he : exec i s = .next (hostReceive h i s)) (ho : opInfo i = some o) (hb : o.boundary = false)
    (hr : runHost (s.heard h) i = { s := t, st := st, body := body }) : Answered s h i t st body := by
  rw [Answered, he, hostReceive_atOnce ho hb ha, hr]
  simp [Ans.send]

end Sys2Proof.Machine
end

section
/-!
SUPPORT. An address lies at the offset that its block's table gives it, and what reading one address, or a run of them,
returns and changes (R10, R29).
-/

namespace Sys2Proof.Machine

open Sys2Proof

/-! ### The block of an address -/

theorem locateCore_at {c : CoreIx} {n o : Nat} {b : Blk} (h : locateCore c n = some (b, o)) :
    b.at o = coreBlock c.val + n := by
  unfold locateCore at h
  repeat' split at h
  all_goals cases h <;> simp only [Blk.at, Blk.base] <;> omega

theorem coreBlock_coreOf (d : DieIx) (i : Fin 144) :
    coreBlock (coreOf d i).val = dieWindow d.val + 0x01000000 + i.val * 0x10000 := by
  have hi := i.isLt
  have hq : (d.val * 144 + i.val) / 144 = d.val := by omega
  have hr : (d.val * 144 + i.val) % 144 = i.val := by omega
  simp only [coreBlock, coreOf, hq, hr]

/-- The per-core blocks and the two links of a die place their offsets by rules of their own; every other block starts
at a fixed offset of the die's window. -/
theorem locateDie_at {d : DieIx} {n o : Nat} {b : Blk} (h : locateDie d n = some (b, o)) :
    b.at o = dieWindow d.val + n := by
  have hd := d.isLt
  simp only [locateDie] at h
  by_cases hcore : 0x380000 ≤ n
  · repeat rw [if_neg (by omega)] at h
    split at h
    · have hc := locateCore_at h
      rw [coreBlock_coreOf] at hc
      simp only at hc
      omega
    · cases h
  by_cases hlink : 0x200000 ≤ n ∧ n < 0x220000
  · repeat rw [if_neg (by omega)] at h
    rw [if_pos hlink] at h
    obtain ⟨rfl, rfl⟩ := Prod.mk.inj (Option.some.inj h)
    simp only [Blk.at, Blk.base, decide_eq_true_eq]
    split <;> omega
  · have hno : ¬ (0x01000000 ≤ n ∧ (n - 0x01000000) / 0x10000 < 144) := by omega
    rw [if_neg hlink, dif_neg hno] at h
    repeat' split at h
    all_goals cases h <;> simp only [Blk.at, Blk.base, dieWindow] <;> omega

/-- The base of a block and the offset in it give back the address. -/
theorem locate_at {a o : Nat} {b : Blk} (h : locate a = some (b, o)) : b.at o = a := by
  unfold locate at h
  by_cases hpkg : a < 0xB0000
  · by_cases hgrp : 0x50100 ≤ a ∧ a < 0x50D00
    · iterate 5 rw [if_neg (by omega)] at h
      rw [if_pos (by omega), dif_pos (by omega)] at h
      obtain ⟨rfl, rfl⟩ := Prod.mk.inj (Option.some.inj h)
      simp only [Blk.at, Blk.base]
      omega
    · rw [dif_neg (by omega), dif_neg (by omega)] at h
      repeat' split at h
      all_goals
        obtain ⟨rfl, rfl⟩ := Prod.mk.inj (Option.some.inj h)
        simp only [Blk.at, Blk.base]
        omega
  · repeat rw [if_neg (by omega)] at h
    split at h
    · have hd := locateDie_at h
      simp only [dieWindow] at hd
      omega
    · exact absurd h (by simp)

/-! ### Reading one register -/

/-- The bank holds the reset value of a register that nothing has written (R9, R10). -/
theorem regReset_of_find {a o : Nat} {b : Blk} {r : RegDesc} (hl : locate a = some (b, o)) (hf : b.find o = some r) :
    regReset a = r.reset := by
  simp [regReset, hl, hf]

/-- An RC register that is read shows its reset value from then on (R10). -/
theorem State.reg_del_self {s : State} {a o : Nat} {b : Blk} {r : RegDesc} (hl : locate a = some (b, o))
    (hf : b.find o = some r) : ({ s with regs := s.regs.del a } : State).reg a = r.reset := by
  simp [State.reg, Tbl.getD, regReset_of_find hl hf]

/-- A register of the bank reads as the bank holds it. -/
theorem State.readReg_bank {s : State} {a o : Nat} {b : Blk} {r : RegDesc} (hl : locate a = some (b, o))
    (hf : b.find o = some r) (hd : s.blkDisabled b = false) (hw : r.acc ≠ .wo) (h64 : s.live64 b o = none)
    (hv : s.view b o = none) : s.readReg a = s.reg a := by
  simp [State.readReg, State.regValue, hl, hf, hd, hw, h64, hv, locate_at hl]

/-- The low half of a live count reads as the count's low word. -/
theorem State.readReg_live {s : State} {a o v : Nat} {b : Blk} {r : RegDesc} (hl : locate a = some (b, o))
    (hf : b.find o = some r) (hd : s.blkDisabled b = false) (hw : r.acc ≠ .wo) (h64 : s.live64 b o = some v) :
    s.readReg a = word v := by
  simp [State.readReg, State.regValue, hl, hf, hd, hw, h64]

theorem State.readEffect_rc {s : State} {a o : Nat} {b : Blk} {r : RegDesc} (hl : locate a = some (b, o))
    (hf : b.find o = some r) (hd : s.blkDisabled b = false) (hr : r.acc = .rc) (h64 : s.live64 b o = none) :
    s.readEffect a = { s with regs := s.regs.del a } := by
  simp [State.readEffect, hl, hf, hd, hr, h64]

/-- A low half latches its high half. -/
theorem State.readEffect_latch {s : State} {a o v : Nat} {b : Blk} {r : RegDesc} (hl : locate a = some (b, o))
    (hb : b ≠ .time) (hf : b.find o = some r) (hd : s.blkDisabled b = false) (hr : r.acc = .ro)
    (h64 : s.live64 b o = some v) : s.readEffect a = s.setReg (a + 4) (word (v / 2 ^ 32)) := by
  simp [State.readEffect, hl, hf, hd, hr, h64, hb]

/-- Device time latches its high half and its fraction (R310). -/
theorem State.readEffect_time (s : State) :
    s.readEffect 0x30004 = (s.setReg 0x30008 (word (s.time.ns / 2 ^ 32))).setReg 0x3000C
      (word (s.time.frac / 2 ^ 32)) := rfl

theorem State.readReg_time (s : State) : s.readReg 0x30004 = word s.time.ns := rfl

@[simp] theorem State.readWords_one (s : State) (a : Nat) : s.readWords 1 a = ([(s.readReg a).toNat], s.readEffect a) := rfl

@[simp] theorem word_toNat (n : Nat) : (word n).toNat = n % 2 ^ 32 := BitVec.toNat_ofNat n 32

/-! ### Reading a run of words -/

/-- Every word of a run lies in a block that can be read, or in none. -/
def State.runEnabled (s : State) (a n : Nat) : Prop :=
  ∀ i, i < n → ∀ b o, locate (a + 4 * i) = some (b, o) → s.blkDisabled b = false

theorem runRegRead_words {s : State} {a n : Nat} (ha : a % 4 = 0) (hpos : 0 < n) (hn : n ≤ 1024)
    (htop : a + 4 * (n - 1) ≤ 0xFFFFFFFC) (hen : s.runEnabled a n) :
    runRegRead s a n = { s := (s.readWords n a).2, st := .ok, body := (s.readWords n a).1 } := by
  rw [runRegRead, if_neg (by omega), if_neg]
  · rfl
  · rw [Bool.not_eq_true, List.any_eq_false]
    intro i hi
    split
    · simpa using hen i (List.mem_range.1 hi) _ _ ‹_›
    · simp

theorem runRegRead_disabled {s : State} {a n i o : Nat} {b : Blk} (ha : a % 4 = 0) (hn : n ≤ 1024)
    (htop : a + 4 * (n - 1) ≤ 0xFFFFFFFC) (hi : i < n) (hl : locate (a + 4 * i) = some (b, o))
    (hd : s.blkDisabled b = true) :
    runRegRead s a n = { s := s, st := .noResource, body := List.replicate n 0 } := by
  rw [runRegRead, if_neg (by omega), if_pos]
  exact List.any_eq_true.2 ⟨i, List.mem_range.2 hi, by simp [hl, hd]⟩

theorem runRegRead_malformed {s : State} {a n : Nat} (h : a % 4 ≠ 0 ∨ n = 0 ∨ 1024 < n) :
    runRegRead s a n = { s := s, st := .conflict } := by
  rw [runRegRead, if_pos (by omega)]
  rfl

/-- A run of one word: its value, and the effect of reading it. -/
theorem runRegRead_one {s : State} {a o : Nat} {b : Blk} (ha : a % 4 = 0) (htop : a ≤ 0xFFFFFFFC)
    (hl : locate a = some (b, o)) (hd : s.blkDisabled b = false) :
    runRegRead s a 1 = { s := s.readEffect a, st := .ok, body := [(s.readReg a).toNat] } := by
  have hen : s.runEnabled a 1 := by
    intro i hi b' o' hl'
    obtain rfl : i = 0 := by omega
    cases hl.symm.trans hl'
    exact hd
  rw [runRegRead_words ha (by omega) (by omega) (by omega) hen, State.readWords_one]

/-! ### Writing -/

/-- A masked write changes the bits that the mask and the register's fields both name. -/
theorem mergeWrite_getLsbD (old v m f : Word) (i : Nat) : (mergeWrite old v m f).getLsbD i
    = if m.getLsbD i && f.getLsbD i then v.getLsbD i else old.getLsbD i := by
  simp only [mergeWrite, BitVec.getLsbD_or, BitVec.getLsbD_and, BitVec.getLsbD_not]
  by_cases hi : i < 32
  · cases m.getLsbD i <;> cases f.getLsbD i <;> simp [hi]
  · have hz (x : Word) : x.getLsbD i = false := BitVec.getLsbD_of_ge x i (by omega)
    simp [hz]

theorem runRegWrite_unaligned {s : State} {a : Nat} (v m : Word) (h : a % 4 ≠ 0) :
    runRegWrite s a v m = { s := s, st := .conflict } := by
  rw [runRegWrite, if_pos (.inl h)]
  rfl

end Sys2Proof.Machine
end

section
/-! SUPPORT. The statements about the window of a session, the register commands and the state after reset. -/

namespace Sys2Proof.Machine

open Sys2Proof

/-- Settles O5, by the command's place in the window. -/
theorem sequenceWindow : Obligations.SequenceWindow := by
  intro s h i
  refine ⟨hostReceive_closed h i, hostReceive_unknown i, fun x hp hx => ⟨?early, ?repeated, hostReceive_outside i hp hx⟩⟩
  case early => exact hostReceive_early hp hx
  case repeated =>
    intro hlo hhi a b st d tg body rs hf
    rw [hostReceive_repeated i hp hx hlo hhi, State.resendReply_of_found _ _ _ hf]

/-- Settles O8, by what a run of words and a run of one come to. -/
theorem registerReads : Obligations.RegisterReads := by
  refine ⟨?words, ?disabled, ?malformed, ?rc, ?time, ?latch⟩
  case words =>
    intro s h a n hadm ha hpos hn htop hen
    exact answered_of_runHost hadm rfl rfl rfl (runRegRead_words ha hpos hn htop hen)
  case disabled =>
    intro s h a n i b o hadm ha _ hn htop hi hl hd
    exact answered_of_runHost hadm rfl rfl rfl (runRegRead_disabled ha hn htop hi hl hd)
  case malformed =>
    intro s h a n hadm hbad
    exact answered_of_runHost hadm rfl rfl rfl (runRegRead_malformed hbad)
  case rc =>
    intro s h a b o r hadm ha htop hl hf hr hd h64 hv
    refine ⟨answered_of_runHost hadm rfl rfl rfl ((runRegRead_one ha htop hl hd).trans ?_), State.reg_del_self hl hf⟩
    rw [State.readEffect_rc hl hf hd hr h64, State.readReg_bank hl hf hd (by simp [hr]) h64 hv]
  case time =>
    intro s h hadm
    have hl : locate 0x30004 = some (.time, 4) := locate_time 4 (by decide)
    refine answered_of_runHost hadm rfl rfl rfl ((runRegRead_one (by decide) (by decide) hl rfl).trans ?_)
    rw [State.readEffect_time, State.readReg_time, word_toNat]
  case latch =>
    intro s h a b o r v hadm ha htop hl hb hf hr hd h64
    refine answered_of_runHost hadm rfl rfl rfl ((runRegRead_one ha htop hl hd).trans ?_)
    rw [State.readEffect_latch hl hb hf hd hr h64, State.readReg_live hl hf hd (by simp [hr]) h64, word_toNat]

/-- Settles O9, by what a write comes to once its block and register are known. -/
theorem registerWrites : Obligations.RegisterWrites := by
  refine ⟨?plain, ?ignored, ?disabled, ?unaligned, mergeWrite_getLsbD⟩
  case plain =>
    intro s h a b o r v m hadm ha htop hl hd hf hacc hb
    exact regWrite_row hadm rfl rfl rfl ha htop (writeReg_plain _ v m hl hd hf hacc hb)
  case ignored =>
    intro s h a b o v m hadm ha htop hl hd hf
    exact regWrite_row hadm rfl rfl rfl ha htop (writeReg_ignored _ v m hl hd hf)
  case disabled =>
    intro s h a b o v m hadm ha htop hl hd
    exact regWrite_row hadm rfl rfl rfl ha htop (writeReg_disabled _ v m hl hd)
  case unaligned =>
    intro s h a v m hadm ha
    exact answered_of_runHost hadm rfl rfl rfl (runRegWrite_unaligned v m ha)

/-- After reset the bank is empty, so that every register has its reset value. -/
theorem State.reg_reset (a : Nat) : State.reset.reg a = regReset a := rfl

theorem step_reset : step State.reset = .next State.reset := rfl

/-- Settles O57: the bank, the tables and the queue are empty, and the block does not count. -/
theorem resetState : Obligations.ResetState := by
  refine ⟨State.reg_reset, fun b o hl r hf => ?_, rfl, rfl, rfl, rfl, rfl, rfl, rfl, rfl, rfl, fun _ => rfl, rfl, rfl, rfl
    , rfl, rfl, rfl, rfl, rfl, fun _ _ => ⟨rfl, rfl⟩, step_reset⟩
  rw [State.reg_reset]
  exact regReset_of_find (a := b.at o) hl hf

end Sys2Proof.Machine
end

section
/-!
SUPPORT. Rounding to the nearest integer with ties to even, the digital correction of a reading as one such rounding
(R102), and the operations of the replay reserve: what a charge, a refusal and a top-up leave, and what stands
(R110, R152, R153).
-/

namespace Sys2Proof.Machine

open Sys2Proof

/-! ### Rounding once -/

/-- A rounded fraction lies within half of its value, and is even where it lies at half. -/
theorem Frac.round_nearest (a : Frac) (hd : 0 < a.den) :
    2 * (a.round * a.den - a.num).natAbs ≤ a.den
      ∧ (2 * (a.round * a.den - a.num).natAbs = a.den → a.round % 2 = 0) := by
  have hdiv : a.num / a.den * a.den + a.num % a.den = a.num := Int.ediv_mul_add_emod _ _
  have hnonneg : 0 ≤ a.num % (a.den : Int) := Int.emod_nonneg _ (by omega)
  have hlt : a.num % (a.den : Int) < a.den := Int.emod_lt_of_pos _ (by omega)
  have hup : (a.num / a.den + 1) * (a.den : Int) = a.num / a.den * a.den + a.den := by
    rw [Int.add_mul, Int.one_mul]
  unfold Frac.round
  dsimp only
  generalize a.num / (a.den : Int) = q at *
  split
  · omega
  · split
    · split <;> omega
    · omega

/-! ### Correction -/

/-- The corrected reading is one fraction, over 2 ^ 32, rounded once. -/
theorem corrected_eq_round (cal : ArrayCal) (c : Nat) (d : Int) : corrected cal c d
    = Frac.round ⟨(4 * d - ((colVal cal c).o + cal.drift.oA)) * ((colVal cal c).g * cal.drift.gA), 2 ^ 32⟩ := by
  have hnum : d * 4 + -((colVal cal c).o + cal.drift.oA) * 1 = 4 * d - ((colVal cal c).o + cal.drift.oA) := by omega
  rw [← hnum]
  simp [corrected, Frac.sub, Frac.neg, Frac.add, Frac.mul, Frac.ofInt]

theorem corrected_nearest (cal : ArrayCal) (c : Nat) {d n : Int}
    (hn : n = (4 * d - ((colVal cal c).o + cal.drift.oA)) * ((colVal cal c).g * cal.drift.gA)) :
    2 * (corrected cal c d * 2 ^ 32 - n).natAbs ≤ 2 ^ 32
      ∧ (2 * (corrected cal c d * 2 ^ 32 - n).natAbs = 2 ^ 32 → corrected cal c d % 2 = 0) := by
  subst hn
  rw [corrected_eq_round]
  exact Frac.round_nearest ⟨_, 2 ^ 32⟩ (Nat.two_pow_pos 32)

/-! ### What an operation of the reserve can change -/

/-- Of the cores only one, of the groups only one, and of the parts of the state only those listed may differ. -/
def ReserveOnly (ps : List Part) (c g : Nat) (s t : State) : Prop :=
  OnlyKeys [c] s.cores t.cores ∧ OnlyKeys [g] s.groups t.groups ∧ OnlyChanges ps s t

theorem ReserveOnly.trans {ps : List Part} {c g : Nat} {s t u : State} (h : ReserveOnly ps c g s t)
    (k : ReserveOnly ps c g t u) : ReserveOnly ps c g s u := by
  obtain ⟨hcores, hgroups, hparts⟩ := h
  obtain ⟨kcores, kgroups, kparts⟩ := k
  exact ⟨hcores.trans kcores, hgroups.trans kgroups, hparts.trans kparts⟩

theorem ReserveOnly.mono {ps qs : List Part} {c g : Nat} {s t : State} (h : ReserveOnly ps c g s t)
    (hs : ∀ p ∈ ps, p ∈ qs) : ReserveOnly qs c g s t := by
  obtain ⟨hcores, hgroups, hparts⟩ := h
  exact ⟨hcores, hgroups, hparts.mono hs⟩

theorem State.updCore_reserve (s : State) (c g : Nat) (f : CoreState → CoreState) :
    ReserveOnly [.cores] c g s (s.updCore c f) :=
  ⟨OnlyKeys.upd _ _ _ _, fun _ _ => rfl, s.updCore_only c f⟩

theorem State.updGrp_reserve (s : State) (c g : Nat) (f : Group → Group) :
    ReserveOnly [.groups] c g s (s.updGrp g f) :=
  ⟨fun _ _ => rfl, OnlyKeys.upd _ _ _ _, s.updGrp_only g f⟩

theorem State.bump_reserve (s : State) (c g a n : Nat) : ReserveOnly [.regs] c g s (s.bump a n) :=
  ⟨fun _ _ => rfl, fun _ _ => rfl, s.bump_only a n⟩

/-- A change of the group and one of the core. -/
theorem State.updGrp_updCore_reserve (s : State) (c g : Nat) (f : Group → Group) (k : CoreState → CoreState) :
    ReserveOnly [.cores, .groups] c g s ((s.updGrp g f).updCore c k) :=
  ((s.updGrp_reserve c g f).mono (by simp)).trans ((State.updCore_reserve _ c g k).mono (by simp))

/-! ### Charging a core -/

theorem State.askTopup_of_group {s : State} {c g : Nat} (n : Nat) (hg : (s.core c).group = some g) :
    s.askTopup c n = (s.updGrp g (fun x => { x with topups := x.topups ++ [(c, n)] })).updCore c (fun k => { k with
      inflight := k.inflight + n }) := by
  simp only [State.askTopup, hg]

/-- A request for a top-up only adds to the requests of the group and to what the core awaits. -/
theorem State.askTopup_spec {s : State} {c g : Nat} (n : Nat) (hg : (s.core c).group = some g) :
    ((s.askTopup c n).core c).credit = (s.core c).credit ∧ ((s.askTopup c n).core c).waiting = (s.core c).waiting
      ∧ ((s.askTopup c n).grp g).charged = (s.grp g).charged ∧ ReserveOnly [.cores, .groups] c g s (s.askTopup c n) := by
  rw [State.askTopup_of_group n hg]
  exact ⟨by simp, by simp, by simp, s.updGrp_updCore_reserve c g _ _⟩

/-- The charge alone: the sum of the group's tick, the credit of the core and its count of clocks. -/
def State.debit (s : State) (c g n : Nat) : State :=
  ((s.updGrp g (fun x => { x with charged := x.charged + n })).updCore c (fun k => { k with
    credit := k.credit - n })).bump ((Blk.cor (coreIx c)).at Reg.REPLAY_CLOCKS) n

theorem State.debit_reserve (s : State) (c g n : Nat) :
    ReserveOnly [.cores, .groups, .regs] c g s (s.debit c g n) :=
  ((s.updGrp_updCore_reserve c g _ _).mono (by simp)).trans ((State.bump_reserve _ c g _ _).mono (by simp))

@[simp] theorem State.debit_core (s : State) (c g n : Nat) :
    (s.debit c g n).core c = { s.core c with credit := (s.core c).credit - n } := by
  simp [State.debit]

@[simp] theorem State.debit_grp (s : State) (c g n : Nat) :
    (s.debit c g n).grp g = { s.grp g with charged := (s.grp g).charged + n } := by
  simp [State.debit]

/-- A charge asks for a top-up of the dealt credit where the core's own falls below half of it, and else asks for
nothing. -/
theorem State.charge_cases {s : State} {c g : Nat} (n : Nat) (hg : (s.core c).group = some g) :
    s.charge c n = (s.debit c g n).askTopup c (s.deal g) ∨ s.charge c n = s.debit c g n := by
  simp only [State.charge, hg]
  split
  · exact .inl rfl
  · exact .inr rfl

theorem State.charge_spec {s : State} {c g : Nat} (n : Nat) (hg : (s.core c).group = some g) :
    ((s.charge c n).core c).credit = (s.core c).credit - n ∧ ((s.charge c n).core c).waiting = (s.core c).waiting
      ∧ ((s.charge c n).grp g).charged = (s.grp g).charged + n
      ∧ ReserveOnly [.cores, .groups, .regs] c g s (s.charge c n) := by
  have hframe := s.debit_reserve c g n
  obtain hc | hc := State.charge_cases n hg
  case inl =>
    have hg' : ((s.debit c g n).core c).group = some g := by simp [hg]
    obtain ⟨hcredit, hwaiting, hcharged, htop⟩ := State.askTopup_spec (s.deal g) hg'
    rw [hc]
    exact ⟨by simp [hcredit], by simp [hwaiting], by simp [hcharged], hframe.trans (htop.mono (by simp))⟩
  case inr =>
    rw [hc]
    exact ⟨by simp, by simp, by simp, hframe⟩

/-! ### Asking for a replay -/

/-- A core of no group replays freely. -/
theorem State.askReplay_free {s : State} {c : Nat} (n : Nat) (hg : (s.core c).group = none) :
    s.askReplay c n = (.served, s) := by
  simp only [State.askReplay, hg]

/-- A core that stops waiting for a top-up. -/
def State.endWait (s : State) (c : Nat) : State := s.updCore c (fun k => { k with waiting := false, waitClocks := 0 })

theorem State.endWait_reserve (s : State) (c g : Nat) : ReserveOnly [.cores] c g s (s.endWait c) :=
  s.updCore_reserve c g _

@[simp] theorem State.endWait_core (s : State) (c : Nat) :
    (s.endWait c).core c = { s.core c with waiting := false, waitClocks := 0 } := by
  simp [State.endWait]

@[simp] theorem State.endWait_grp (s : State) (c g : Nat) : (s.endWait c).grp g = s.grp g := by
  simp [State.endWait]

theorem State.askReplay_covered {s : State} {c n g : Nat} (hg : (s.core c).group = some g)
    (hn : (s.core c).noticed = false) (hc : ((n + (s.core c).waitClocks : Nat) : Int) ≤ (s.core c).credit) :
    s.askReplay c n = (.served, (s.endWait c).charge c (n + (s.core c).waitClocks)) := by
  simp only [State.askReplay, hg, hn, Bool.false_eq_true, if_false, if_pos hc]
  rfl

theorem State.askReplay_noticed {s : State} {c g : Nat} (n : Nat) (hg : (s.core c).group = some g)
    (hn : (s.core c).noticed = true) :
    s.askReplay c n = (.refused, ((s.endWait c).bump ((Blk.cor (coreIx c)).at Reg.REPLAYS_REFUSED) 1).updGrp g
      (fun x => { x with refused := true })) := by
  simp only [State.askReplay, hg, hn, if_true]
  rfl

/-! ### Top-ups -/

/-- The ledger grants the core's first request what it holds, up to what is asked. -/
theorem State.topup_granted {s : State} {c g k n : Nat} (waited : Nat) (hg : (s.core c).group = some g)
    (hf : (s.grp g).topups.find? (fun t => t.1 == c) = some (k, n)) :
    s.topup c waited = (s.updGrp g (fun y => { y with
        topups := y.topups.erase (k, n), ledger := y.ledger - min n (s.grp g).ledger })).updCore c (fun x => { x with
      credit := x.credit + (min n (s.grp g).ledger : Nat), inflight := x.inflight - n
      waitClocks := if x.waiting then min 96 (x.waitClocks + waited) else x.waitClocks }) := by
  simp only [State.topup, hg, hf]

/-! ### The commands -/

theorem exec_replayCreditTopup (c : CoreIx) (waited : Nat) (s : State) :
    exec (.replayCreditTopup c waited) s = .next (s.topup c.val waited) := rfl

theorem exec_exhaustedNotice (c : CoreIx) (s : State) : exec (.exhaustedNotice c) s = .next
    (if (s.groupOf c.val).refused then s.updCore c.val (fun k => { k with noticed := true, waitClocks := 0 }) else s) := rfl

end Sys2Proof.Machine
end

section
/-! SUPPORT. The statements about the digital correction of readings and the replay reserve. -/

namespace Sys2Proof.Machine

open Sys2Proof

/-- Settles O35, by the one rounding: an exact multiple of 2 ^ 32 has itself as the only integer within half, and so
has 2,046 for the largest reading at the largest gain. -/
theorem correctedReading : Obligations.CorrectedReading := by
  refine ⟨?nearest, ?neutral, ?largest, ?applied, fun _ _ _ _ => rfl, fun _ _ _ _ => rfl⟩
  case nearest =>
    intro cal c d n hn
    exact corrected_nearest cal c hn
  case neutral =>
    intro cal c d hg ho hgA hoA
    have hnear := (corrected_nearest cal c (d := d) rfl).1
    rw [hg, ho, hgA, hoA] at hnear
    omega
  case largest =>
    intro cal c hg ho hgA hoA
    have hnear := (corrected_nearest cal c (d := 1023) rfl).1
    rw [hg, ho, hgA, hoA] at hnear
    omega
  case applied =>
    intro a act dev c hc
    simp [readings, hc]

/-- Settles O39, by what a charge, a refusal and a granted top-up leave. -/
theorem ledgerCommands : Obligations.LedgerCommands := by
  refine ⟨fun s c n => State.askReplay_free n, ?covered, ?noticed, ?topup, ?notice, ?noNotice⟩
  case covered =>
    intro s c n g hg hn hc
    have hg' : ((s.endWait c).core c).group = some g := by simp [hg]
    obtain ⟨hcredit, hwaiting, hcharged, hframe⟩ := State.charge_spec (n + (s.core c).waitClocks) hg'
    refine ⟨_, State.askReplay_covered hg hn hc, by simpa using hcredit, by simpa using hwaiting, by simpa using hcharged
      , ?frame⟩
    case frame => exact ((s.endWait_reserve c g).mono (by simp)).trans hframe
  case noticed =>
    intro s c n g hg hn
    refine ⟨_, State.askReplay_noticed n hg hn, by simp, by simp, by simp, ?frame⟩
    case frame =>
      exact (((State.updCore_only _ _ _).mono (by simp)).then (State.bump_only _ _ _) (by simp)).then
        (State.updGrp_only _ _ _) (by simp)
  case topup =>
    intro s c waited g k n hg hf
    rw [exec_replayCreditTopup, State.topup_granted waited hg hf]
    exact ⟨_, rfl, by simp, by simp, by simp, by simp, fun hw => by simp [hw], s.updGrp_updCore_reserve c.val g _ _⟩
  case notice =>
    intro s c hr
    rw [exec_exhaustedNotice, if_pos hr]
  case noNotice =>
    intro s c hr
    rw [exec_exhaustedNotice, if_neg (by simp [hr])]

end Sys2Proof.Machine
end

section
/-!
SUPPORT. The calibration state of an array: how it is updated, how a run is requested and abandoned (R130, R131), and
what the records and fences that a run leads to leave as they were.
-/

namespace Sys2Proof.Machine

open Sys2Proof

/-! ### Reading through a bound -/

theorem OnlyChanges.arr {ps : List Part} {s t : State} (h : OnlyChanges ps s t) (hp : Part.arrays ∉ ps) (k : Nat) :
    t.arr k = s.arr k := by
  have he : t.arrays = s.arrays := h .arrays hp
  simp only [State.arr, he]

theorem OnlyChanges.core {ps : List Part} {s t : State} (h : OnlyChanges ps s t) (hp : Part.cores ∉ ps) (c : Nat) :
    t.core c = s.core c := by
  have he : t.cores = s.cores := h .cores hp
  simp only [State.core, he]

theorem OnlyChanges.reg {ps : List Part} {s t : State} (h : OnlyChanges ps s t) (hp : Part.regs ∉ ps) (a : Nat) :
    t.reg a = s.reg a := by
  have he : t.regs = s.regs := h .regs hp
  simp only [State.reg, he]

theorem OnlyKeys.refl {α : Type} (ks : List Nat) (a : Tbl α) : OnlyKeys ks a a := fun _ _ => rfl

theorem OnlyChanges.arrayKeys {ps : List Part} {s t : State} (h : OnlyChanges ps s t) (hp : Part.arrays ∉ ps)
    (ks : List Nat) : OnlyKeys ks s.arrays t.arrays := by
  have he : t.arrays = s.arrays := h .arrays hp
  rw [he]
  exact .refl _ _

/-! ### Unit numbers -/

@[simp] theorem arrCore_arrKey (c : CoreIx) (e : EngIx) (b : Bool) : arrCore (arrKey c e b) = c.val := by
  have he := e.isLt
  simp only [arrCore, arrKey, engKey]
  split <;> omega

@[simp] theorem arrEng_arrKey (c : CoreIx) (e : EngIx) (b : Bool) : arrEng (arrKey c e b) = e.val := by
  have he := e.isLt
  simp only [arrEng, arrKey, engKey]
  split <;> omega

@[simp] theorem coreIx_val (c : CoreIx) : coreIx c.val = c := Fin.ext (Nat.mod_eq_of_lt c.isLt)

@[simp] theorem engIx_val (e : EngIx) : engIx e.val = e := Fin.ext (Nat.mod_eq_of_lt e.isLt)

/-! ### Updating a calibration -/

theorem State.updCal_only (s : State) (k : Nat) (f : ArrayCal → ArrayCal) : OnlyChanges [.arrays] s (s.updCal k f) :=
  s.updArr_only k _

theorem State.updArr_keys (s : State) (k : Nat) (f : ArrayState → ArrayState) :
    OnlyKeys [k] s.arrays (s.updArr k f).arrays := OnlyKeys.upd _ _ _ _

theorem State.updCal_keys (s : State) (k : Nat) (f : ArrayCal → ArrayCal) :
    OnlyKeys [k] s.arrays (s.updCal k f).arrays := s.updArr_keys k _

@[simp] theorem State.arr_updCal_self (s : State) (k : Nat) (f : ArrayCal → ArrayCal) :
    (s.updCal k f).arr k = { s.arr k with cal := f (s.arr k).cal } := s.arr_updArr_self k _

theorem State.arr_updCal_ne (s : State) {k j : Nat} (f : ArrayCal → ArrayCal) (h : j ≠ k) :
    (s.updCal k f).arr j = s.arr j := s.arr_updArr_ne _ h

/-! ### Requests (R130) -/

theorem State.requestRun_idle {s : State} {k : Nat} (cls : Nat) (h : (s.arr k).cal.run = none) :
    s.requestRun k cls = { s.updCal k (fun c => { c with run := some (CalRun.queuedRun cls s.calOrder) }) with
      calOrder := s.calOrder + 1 } := by
  simp only [State.requestRun, h]

theorem State.requestRun_merges {s : State} {k : Nat} {r : CalRun} (cls : Nat) (h : (s.arr k).cal.run = some r) :
    s.requestRun k cls = s.updCal k (fun c => { c with run := some { r with cls := min r.cls cls } }) := by
  simp only [State.requestRun, h]

theorem State.setCalOrder_only (s : State) (n : Nat) : OnlyChanges [.calOrder] s { s with calOrder := n } := by
  intro p h
  cases p
  case calOrder => simp at h
  all_goals rfl

@[simp] theorem State.arr_setCalOrder (s : State) (n k : Nat) : ({ s with calOrder := n } : State).arr k = s.arr k := rfl

theorem State.requestRun_only (s : State) (k cls : Nat) :
    OnlyChanges [.arrays, .calOrder] s (s.requestRun k cls) := by
  have hu (f : ArrayCal → ArrayCal) : OnlyChanges [.arrays, .calOrder] s (s.updCal k f) :=
    (s.updCal_only k f).mono (by simp)
  cases hr : (s.arr k).cal.run with
  | none =>
    rw [State.requestRun_idle cls hr]
    exact (hu _).then (State.setCalOrder_only _ _) (by simp)
  | some r =>
    rw [State.requestRun_merges cls hr]
    exact hu _

theorem State.requestRun_keys (s : State) (k cls : Nat) : OnlyKeys [k] s.arrays (s.requestRun k cls).arrays := by
  cases hr : (s.arr k).cal.run with
  | none =>
    rw [State.requestRun_idle cls hr]
    exact s.updCal_keys k (fun c => { c with run := some (CalRun.queuedRun cls s.calOrder) })
  | some r =>
    rw [State.requestRun_merges cls hr]
    exact s.updCal_keys _ _

/-- The run of an array that had none is queued after every run requested before. -/
theorem State.requestRun_queues {s : State} {k : Nat} (cls : Nat) (h : (s.arr k).cal.run = none) :
    ((s.requestRun k cls).arr k).cal = { (s.arr k).cal with run := some (CalRun.queuedRun cls s.calOrder) }
      ∧ (s.requestRun k cls).calOrder = s.calOrder + 1 := by
  rw [State.requestRun_idle cls h]
  exact ⟨by simp, rfl⟩

/-- An array has a run, queued or begun, of a class at least as urgent as one. -/
def State.runAwaited (s : State) (cls k : Nat) : Prop := ∃ r, (s.arr k).cal.run = some r ∧ r.cls ≤ cls

theorem State.requestRun_awaited (s : State) (k cls : Nat) : (s.requestRun k cls).runAwaited cls k := by
  cases hr : (s.arr k).cal.run with
  | none =>
    rw [State.requestRun_idle cls hr]
    exact ⟨CalRun.queuedRun cls s.calOrder, by simp, Nat.le_refl _⟩
  | some r =>
    rw [State.requestRun_merges cls hr]
    exact ⟨{ r with cls := min r.cls cls }, by simp, Nat.min_le_right _ _⟩

theorem State.arr_requestRun_ne (s : State) {k j : Nat} (cls : Nat) (h : j ≠ k) :
    (s.requestRun k cls).arr j = s.arr j := by
  cases hr : (s.arr k).cal.run with
  | none =>
    rw [State.requestRun_idle cls hr, State.arr_setCalOrder]
    exact s.arr_updCal_ne _ h
  | some r =>
    rw [State.requestRun_merges cls hr]
    exact s.arr_updCal_ne _ h

/-! ### Abandonment (R131) -/

/-- An array without the run it had, which is counted. -/
def State.dropRun (s : State) (k : Nat) : State :=
  (s.updCal k (fun c => { c with run := none })).bump (Blk.cal.at Reg.RUNS_ABANDONED) 1

@[simp] theorem State.arr_dropRun_self (s : State) (k : Nat) :
    (s.dropRun k).arr k = { s.arr k with cal := { (s.arr k).cal with run := none } } := by
  simp [State.dropRun]

@[simp] theorem State.dropRun_calOrder (s : State) (k : Nat) : (s.dropRun k).calOrder = s.calOrder := rfl

theorem State.dropRun_counted (s : State) (k : Nat) : ((s.dropRun k).reg (Blk.cal.at Reg.RUNS_ABANDONED)).toNat
    = min 0xFFFFFFFF ((s.reg (Blk.cal.at Reg.RUNS_ABANDONED)).toNat + 1) :=
  State.reg_bump_self _ _ _

theorem State.dropRun_only (s : State) (k : Nat) : OnlyChanges [.arrays, .regs] s (s.dropRun k) :=
  ((s.updCal_only k _).mono (by simp)).then (State.bump_only _ _ _) (by simp)

theorem State.dropRun_keys (s : State) (k : Nat) : OnlyKeys [k] s.arrays (s.dropRun k).arrays :=
  s.updCal_keys k (fun c => { c with run := none })

theorem State.abandonRun_safe {s : State} {k : Nat} {r : CalRun} (hr : (s.arr k).cal.run = some r)
    (hs : s.clocks.safe = true ∨ s.thermal.tripped = true) : s.abandonRun k = s.dropRun k := by
  have hs' : (s.clocks.safe || s.thermal.tripped) = true := by simpa using hs
  simp only [State.abandonRun, hr, hs', if_true, State.dropRun]

theorem State.abandonRun_fenced {s : State} {k : Nat} {r : CalRun} (hr : (s.arr k).cal.run = some r)
    (hs : s.clocks.safe = false) (ht : s.thermal.tripped = false) (hf : (s.core (arrCore k)).fenced = true) :
    s.abandonRun k = (s.dropRun k).updCal k (fun c => { c with awaits := some r.cls }) := by
  simp only [State.abandonRun, hr, hs, ht, hf, Bool.or_false, Bool.false_eq_true, if_false, if_true, State.dropRun]

theorem State.abandonRun_again {s : State} {k : Nat} {r : CalRun} (hr : (s.arr k).cal.run = some r)
    (hs : s.clocks.safe = false) (ht : s.thermal.tripped = false) (hf : (s.core (arrCore k)).fenced = false) :
    s.abandonRun k = (s.dropRun k).requestRun k r.cls := by
  simp only [State.abandonRun, hr, hs, ht, hf, Bool.or_false, Bool.false_eq_true, if_false, State.dropRun]

theorem State.abandonRun_only (s : State) (k : Nat) :
    OnlyChanges [.arrays, .regs, .calOrder] s (s.abandonRun k) := by
  have hd : OnlyChanges [.arrays, .regs, .calOrder] s (s.dropRun k) := (s.dropRun_only k).mono (by simp)
  unfold State.abandonRun
  split
  · exact .refl _ _
  · dsimp only
    split
    · exact hd
    split
    · exact hd.then (State.updCal_only _ _ _) (by simp)
    · exact hd.then (State.requestRun_only _ _ _) (by simp)

/-! ### Records and the registers of the calibration block -/

theorem cal_at_lt {o : Nat} (ho : o < 0x10000) : 0x70000 ≤ Blk.cal.at o ∧ Blk.cal.at o < 0x80000 := by
  simp only [Blk.at, Blk.base]
  omega

/-- A record concerns the event and error blocks, and no register of the calibration block. -/
theorem State.reg_record_cal (s : State) (sev code unit : Nat) (bytes : List Byte) {o : Nat} (ho : o < 0x10000) :
    (s.record sev code unit bytes).reg (Blk.cal.at o) = s.reg (Blk.cal.at o) := by
  obtain ⟨hlo, hhi⟩ := cal_at_lt ho
  generalize Blk.cal.at o = a at hlo hhi
  have hevt : a ≠ evtCauseAt := by simp only [evtCauseAt, Blk.at, Blk.base, Reg.EVT_CAUSE]; omega
  have herr : a ≠ Blk.err.at Reg.LAST_ERROR := by simp only [Blk.at, Blk.base]; omega
  have hunit : a ≠ Blk.err.at Reg.LAST_UNIT := by simp only [Blk.at, Blk.base]; omega
  have hc (t : State) (b : Nat) : (t.setCause b).reg a = t.reg a := t.reg_setReg_ne _ hevt
  unfold State.record
  extract_lets r next n q s1 s2
  have h1 : s1.reg a = s.reg a := by
    simp only [s1]
    split <;> rfl
  have h2 : s2.reg a = s.reg a := by
    simp only [s2]
    repeat' split
    all_goals simp only [hc, h1]
  split
  · rw [State.reg_setReg_ne _ _ hunit, State.reg_setReg_ne _ _ herr, h2]
  · exact h2

theorem State.reg_note_cal (s : State) (sev : Nat) (what : String) (unit : Nat) (bytes : List Byte) {o : Nat}
    (ho : o < 0x10000) : (s.note sev what unit bytes).reg (Blk.cal.at o) = s.reg (Blk.cal.at o) :=
  s.reg_record_cal _ _ _ _ ho

theorem State.reg_error_cal (s : State) (sev code unit : Nat) (g l : Option Nat) (detail : Nat) {o : Nat}
    (ho : o < 0x10000) : (s.error sev code unit g l detail).reg (Blk.cal.at o) = s.reg (Blk.cal.at o) :=
  s.reg_record_cal _ _ _ _ ho

end Sys2Proof.Machine
end

section
/-!
SUPPORT. The steps of a calibration run (R118, R123): what a step's use of its engine leaves, and what the outcome of its
measurements may change.
-/

namespace Sys2Proof.Machine

open Sys2Proof

/-! ### The use of an engine -/

/-- Address of the count of an array's fires. -/
abbrev firesAt (k : Nat) : Nat := (Blk.eng (coreIx (arrCore k)) (engIx (arrEng k))).at Reg.FIRES_LO

theorem State.takeClocks_only (s : State) (e clocks : Nat) : OnlyChanges [.groups] s (s.takeClocks e clocks) := by
  unfold State.takeClocks
  split
  · exact s.updGrp_only _ _
  · exact .refl _ _

theorem State.countCal_only (s : State) (k fires loads : Nat) :
    OnlyChanges [.wide, .regs, .engines] s (s.countCal k fires loads) :=
  (((s.bumpWide_only _ _).mono (by simp)).then (State.bump_only _ _ _) (by simp)).then (State.updEng_only _ _ _) (by simp)

theorem State.useSlot_only (s : State) (k clocks fires : Nat) :
    OnlyChanges [.groups, .arrays, .wide, .regs, .engines] s (s.useSlot k clocks fires) :=
  (((s.takeClocks_only _ _).mono (by simp)).then (State.updArr_only _ _ _) (by simp)).then (State.countCal_only _ _ _ _)
    (by simp)

theorem State.useSlot_keys (s : State) (k clocks fires : Nat) :
    OnlyKeys [k] s.arrays (s.useSlot k clocks fires).arrays :=
  (((s.takeClocks_only _ _).arrayKeys (by simp) _).trans (State.updArr_keys _ _ _)).trans
    ((State.countCal_only _ _ _ _).arrayKeys (by simp) _)

/-- A step leaves its array without a tile, and its calibration as it was. -/
theorem State.arr_useSlot_self (s : State) (k clocks fires : Nat) : (s.useSlot k clocks fires).arr k = { s.arr k with
    phase := .empty, tile := none, cells := [], abandoned := false, lost := none, reread := none } := by
  rw [State.useSlot, (State.countCal_only _ _ _ _).arr (by simp), State.arr_updArr_self,
    (s.takeClocks_only _ _).arr (by simp)]

theorem State.wide_useSlot (s : State) (k clocks fires : Nat) :
    (s.useSlot k clocks fires).wide.getD (firesAt k) 0 = (s.wide.getD (firesAt k) 0 + fires) % 2 ^ 64 := by
  have hw : (s.takeClocks (k / 2) clocks).wide = s.wide := s.takeClocks_only _ _ .wide (by simp)
  refine (State.wide_bumpWide_self _ _ _).trans ?_
  simp only [State.updArr_wide, hw]

/-- The count of loads lies in the engine's block, which is no part of the calibration block. -/
theorem State.reg_useSlot_cal (s : State) (k clocks fires : Nat) {o : Nat} (ho : o < 0x10000) :
    (s.useSlot k clocks fires).reg (Blk.cal.at o) = s.reg (Blk.cal.at o) := by
  have hne : Blk.cal.at o ≠ (Blk.eng (coreIx (arrCore k)) (engIx (arrEng k))).at Reg.LOADS := by
    simp only [Blk.at, Blk.base, coreBlock, dieWindow]
    omega
  refine (State.reg_bump_ne _ 1 hne).trans ?_
  rw [State.reg_bumpWide, State.reg_updArr, (s.takeClocks_only _ _).reg (by simp)]

@[simp] theorem State.resBound_useSlot (s : State) (k clocks fires : Nat) :
    (s.useSlot k clocks fires).resBound = s.resBound := by
  simp only [State.resBound, s.reg_useSlot_cal k clocks fires (o := Reg.CAL_BOUNDS) (by decide)]

/-! ### What the outcome of a step may change -/

/-- Of the arrays only one may differ, which keeps its phase, its tile and its values in force; of the other parts only the
registers, the fences of cores and what the recorder holds may. -/
def RunSettles (k : Nat) (s t : State) : Prop :=
  (t.arr k).phase = (s.arr k).phase ∧ (t.arr k).tile = (s.arr k).tile ∧ (t.arr k).cal.inForce = (s.arr k).cal.inForce
    ∧ OnlyKeys [k] s.arrays t.arrays ∧ OnlyChanges [.arrays, .regs, .cores, .recorder, .nvm] s t

theorem RunSettles.trans {k : Nat} {s t u : State} (h : RunSettles k s t) (g : RunSettles k t u) : RunSettles k s u := by
  obtain ⟨hphase, htile, hforce, hkeys, hparts⟩ := h
  obtain ⟨gphase, gtile, gforce, gkeys, gparts⟩ := g
  exact ⟨gphase.trans hphase, gtile.trans htile, gforce.trans hforce, hkeys.trans gkeys, hparts.trans gparts⟩

theorem RunSettles.of_only {ps : List Part} {k : Nat} {s t : State} (h : OnlyChanges ps s t)
    (hs : ∀ p ∈ ps, p ∈ [Part.regs, .cores, .recorder, .nvm]) : RunSettles k s t := by
  have ha : t.arr k = s.arr k := h.arr (fun hp => by simpa using hs _ hp) k
  exact ⟨by rw [ha], by rw [ha], by rw [ha], h.arrayKeys (fun hp => by simpa using hs _ hp) _,
    h.mono (fun p hp => .tail _ (hs p hp))⟩

theorem State.updCal_settles (s : State) (k : Nat) {f : ArrayCal → ArrayCal}
    (hf : (f (s.arr k).cal).inForce = (s.arr k).cal.inForce) : RunSettles k s (s.updCal k f) :=
  ⟨by simp, by simp, by simp [hf], s.updCal_keys k f, (s.updCal_only k f).mono (by simp)⟩

/-- After the use of its engine a step leaves the tile empty, the values in force as they were, and its fires counted. -/
theorem RunSettles.after_useSlot {s t : State} {c : CoreIx} {e : EngIx} {b : Bool} {clocks fires : Nat}
    (h : RunSettles (arrKey c e b) (s.useSlot (arrKey c e b) clocks fires) t) :
    (t.arr (arrKey c e b)).phase = .empty ∧ (t.arr (arrKey c e b)).tile = none
      ∧ (t.arr (arrKey c e b)).cal.inForce = (s.arr (arrKey c e b)).cal.inForce
      ∧ t.wide.getD (engReg c.val e.val Reg.FIRES_LO) 0 = (s.wide.getD (engReg c.val e.val Reg.FIRES_LO) 0 + fires) % 2 ^ 64
      ∧ OnlyKeys [arrKey c e b] s.arrays t.arrays
      ∧ OnlyChanges [.arrays, .engines, .groups, .wide, .regs, .cores, .recorder, .nvm] s t := by
  have haddr : engReg c.val e.val Reg.FIRES_LO = firesAt (arrKey c e b) := by simp [engReg, firesAt]
  obtain ⟨hphase, htile, hforce, hkeys, hparts⟩ := h
  have hw : t.wide = (s.useSlot (arrKey c e b) clocks fires).wide := hparts .wide (by simp)
  rw [State.arr_useSlot_self] at hphase htile hforce
  refine ⟨hphase, htile, hforce, ?_, (s.useSlot_keys _ _ _).trans hkeys,
    ((s.useSlot_only _ _ _).mono (by simp)).then hparts (by simp)⟩
  rw [haddr, hw, State.wide_useSlot]

/-! ### An exhausted array and a bad run -/

theorem State.repairExhausted_only (s : State) (k : Nat) :
    OnlyChanges [.recorder, .nvm, .regs, .cores] (s.updCal k (fun x => { x with exhausted := true }))
      (s.repairExhausted k) :=
  ((State.error_only _ _ _ _ _ _ _).mono (by simp)).then (State.fence_only _ _ _) (by simp)

@[simp] theorem State.arr_repairExhausted_self (s : State) (k : Nat) :
    (s.repairExhausted k).arr k = { s.arr k with cal := { (s.arr k).cal with exhausted := true } } := by
  rw [(s.repairExhausted_only k).arr (by simp), State.arr_updCal_self]

theorem State.repairExhausted_settles (s : State) (k : Nat) : RunSettles k s (s.repairExhausted k) :=
  (s.updCal_settles k rfl).trans (.of_only (s.repairExhausted_only k) (by simp))

/-- A bad run counted and named: RUNS_BAD and LAST_BAD. -/
def State.countBad (s : State) (last : Nat) : State :=
  (s.bump (Blk.cal.at Reg.RUNS_BAD) 1).setReg (Blk.cal.at Reg.LAST_BAD) (word last)

theorem State.countBad_only (s : State) (last : Nat) : OnlyChanges [.regs] s (s.countBad last) :=
  (s.bump_only _ _).trans (State.setReg_only _ _ _)

theorem State.countBad_counted (s : State) (last : Nat) : ((s.countBad last).reg (Blk.cal.at Reg.RUNS_BAD)).toNat
    = min 0xFFFFFFFF ((s.reg (Blk.cal.at Reg.RUNS_BAD)).toNat + 1) := by
  rw [State.countBad, State.reg_setReg_ne _ _ (by decide), State.reg_bump_self]

/-- A calibration after a bad run (R123 step 1). -/
def ArrayCal.spoilt (c : ArrayCal) : ArrayCal := { c with run := none, badStreak := min 3 (c.badStreak + 1) }

/-- A bad run is counted and ends, and a record of it is written. -/
theorem State.recordBad_spec (s : State) (k reason : Nat) : ∃ last,
    OnlyChanges [.recorder, .nvm, .regs] ((s.countBad last).updCal k ArrayCal.spoilt) (s.recordBad k reason)
      ∧ ∀ o, o < 0x10000 → (s.recordBad k reason).reg (Blk.cal.at o) = (s.countBad last).reg (Blk.cal.at o) :=
  ⟨_, State.note_only _ _ _ _ _, fun _ ho => State.reg_note_cal _ _ _ _ _ ho⟩

/-- A third bad run in a row is recorded, and fences the core, and changes nothing else. -/
theorem State.badRun_spec (s : State) (k reason : Nat) :
    OnlyChanges [.recorder, .nvm, .regs, .cores] (s.recordBad k reason) (s.badRun k reason)
      ∧ ∀ o, o < 0x10000 → (s.badRun k reason).reg (Blk.cal.at o) = (s.recordBad k reason).reg (Blk.cal.at o) := by
  unfold State.badRun
  dsimp only
  split
  · exact ⟨((State.error_only _ _ _ _ _ _ _).mono (by simp)).then (State.fence_only _ _ _) (by simp),
      fun _ ho => State.reg_error_cal _ _ _ _ _ _ _ ho⟩
  · exact ⟨.refl _ _, fun _ _ => rfl⟩

theorem State.badRun_outcome (s : State) (k reason : Nat) :
    ((s.badRun k reason).arr k).cal.run = none
      ∧ ((s.badRun k reason).arr k).cal.badStreak = min 3 ((s.arr k).cal.badStreak + 1)
      ∧ ((s.badRun k reason).reg (Blk.cal.at Reg.RUNS_BAD)).toNat
        = min 0xFFFFFFFF ((s.reg (Blk.cal.at Reg.RUNS_BAD)).toNat + 1)
      ∧ RunSettles k s (s.badRun k reason) := by
  obtain ⟨last, hrec, hrecReg⟩ := s.recordBad_spec k reason
  obtain ⟨hbad, hbadReg⟩ := s.badRun_spec k reason
  have hcal : ((s.badRun k reason).arr k).cal = (s.arr k).cal.spoilt := by
    rw [hbad.arr (by simp), hrec.arr (by simp), State.arr_updCal_self, (s.countBad_only last).arr (by simp)]
  refine ⟨by rw [hcal]; rfl, by rw [hcal]; rfl, ?counted, ?frame⟩
  case counted => rw [hbadReg _ (by decide), hrecReg _ (by decide), State.countBad_counted]
  case frame =>
    exact (((RunSettles.of_only (s.countBad_only last) (by simp)).trans (State.updCal_settles _ k rfl)).trans
      (.of_only hrec (by simp))).trans (.of_only hbad (by simp))

/-! ### Settling a run -/

/-- Settling a run keeps all of it but its needs and its phase, and is ready where nothing is needed. -/
theorem State.settleRun_spec (s : State) (k : Nat) (r : CalRun) :
    (∃ need, ((s.settleRun k r).arr k).cal.run = some ({ r with need := need } : CalRun).advance)
      ∧ ((s.settleRun k r).arr k).cal.badSpares = (s.arr k).cal.badSpares ∧ RunSettles k s (s.settleRun k r) := by
  unfold State.settleRun
  extract_lets out r1 s1
  have hneed : ∃ need, r1 = { r with need := need } := by
    simp only [r1]
    split
    · exact ⟨[], rfl⟩
    · exact ⟨r.need, rfl⟩
  obtain ⟨need, hneed⟩ := hneed
  have hset : RunSettles k s s1 := s.updCal_settles k rfl
  split
  · exact ⟨⟨need, by simp [s1, hneed]⟩, by simp [s1], hset.trans (State.repairExhausted_settles _ _)⟩
  · exact ⟨⟨need, by simp [s1, hneed]⟩, by simp [s1], hset⟩

/-! ### The three steps -/

/-- A run with the sweep of its calibration step. -/
def CalRun.swept (r : CalRun) (cal : ArrayCal) (sweep : SweepReads) : CalRun :=
  { r with sweeps := (List.range 530).map (fun c => (c, nominalSweep (colVal cal c) c sweep)) }

theorem State.calStepDone_bad {s : State} {k reason : Nat} {r : CalRun} {sweep : SweepReads} (rows : RowReads)
    (hr : (s.arr k).cal.run = some r)
    (hbad : (r.swept (s.arr k).cal sweep).badReason (s.arr k).cal s.resBound = some reason) :
    s.calStepDone k sweep rows = s.badRun k reason := by
  simp only [CalRun.swept] at hbad
  simp only [State.calStepDone, hr, hbad]

theorem State.calStepDone_good {s : State} {k : Nat} {r : CalRun} {sweep : SweepReads} (rows : RowReads)
    (hr : (s.arr k).cal.run = some r)
    (hgood : (r.swept (s.arr k).cal sweep).badReason (s.arr k).cal s.resBound = none) :
    ∃ q : CalRun, s.calStepDone k sweep rows = s.settleRun k q ∧ q.cls = r.cls ∧ q.order = r.order := by
  simp only [CalRun.swept] at hgood
  simp only [State.calStepDone, hr, hgood]
  exact ⟨_, rfl, rfl, rfl⟩

/-- A spare that is tried leaves the repairs made before it. -/
theorem CalRun.repairs_trySpare (r : CalRun) (cal : ArrayCal) (resBound : Nat) (l : SweepReads) (p : Nat × Nat) :
    (r.trySpare cal resBound l p).repairs
      = if sparePasses cal p.2 resBound (spareSweep cal p.2 l) then r.repairs ++ [p] else r.repairs := by
  unfold CalRun.trySpare
  dsimp only
  split <;> rfl

/-- Of the spares tried, those that pass are mapped. -/
theorem CalRun.mem_repairs_foldl_trySpare (cal : ArrayCal) (resBound : Nat) (l : SweepReads) (ps : List (Nat × Nat))
    (r : CalRun) (p : Nat × Nat) :
    p ∈ (ps.foldl (fun r p => r.trySpare cal resBound l p) r).repairs
      ↔ p ∈ r.repairs ∨ (p ∈ ps ∧ sparePasses cal p.2 resBound (spareSweep cal p.2 l) = true) := by
  induction ps generalizing r with
  | nil => simp
  | cons q rest ih =>
    rw [List.foldl_cons, ih, CalRun.repairs_trySpare]
    split <;> grind

theorem State.spareStepDone_eq {s : State} {k : Nat} {r : CalRun} (l : SweepReads) (hr : (s.arr k).cal.run = some r) :
    s.spareStepDone k l = (s.updCal k (fun _ => (spareRound s.resBound l (s.arr k).cal r).1)).settleRun k
      (spareRound s.resBound l (s.arr k).cal r).2 := by
  simp only [State.spareStepDone, hr]

theorem State.rowStepDone_eq {s : State} {k : Nat} {r : CalRun} (reads : List (Nat × Int))
    (hr : (s.arr k).cal.run = some r) (hn : r.needRows = true) : s.rowStepDone k reads
      = s.settleRun k { r with rowFound := r.rowFound ++ rowsLocated reads, needRows := false } := by
  simp only [State.rowStepDone, hr, hn, Bool.not_true, Bool.false_eq_true, if_false]

/-! ### The events of a run -/

theorem exec_calRunStart (c : CoreIx) (e : EngIx) (b : Bool) (s : State) : exec (.calRunStart c e b) s
    = .next (if s.queueHead = some (arrKey c e b) then s.startRun (arrKey c e b) else s) := rfl

theorem exec_calStep {s : State} {c : CoreIx} {e : EngIx} {b : Bool} (sweep : SweepReads) (rows : RowReads)
    (hm : s.stepMay (arrKey c e b) .sampling 1692 = true) : exec (.calStep c e b sweep rows) s
    = .next (((s.useSlot (arrKey c e b) 1692 65).calStepDone (arrKey c e b) sweep rows).commitOff (arrKey c e b)) :=
  congrArg Host.Outcome.next (if_pos hm)

theorem exec_calSpareStep {s : State} {c : CoreIx} {e : EngIx} {b : Bool} (reads : SweepReads)
    (hm : s.stepMay (arrKey c e b) .stepped 1476 = true) : exec (.calSpareStep c e b reads) s
    = .next (((s.useSlot (arrKey c e b) 1476 56).spareStepDone (arrKey c e b) reads).commitOff (arrKey c e b)) :=
  congrArg Host.Outcome.next (if_pos hm)

theorem exec_calRowLocalisation {s : State} {c : CoreIx} {e : EngIx} {b : Bool} (reads : List (Nat × Int))
    (hm : s.stepMay (arrKey c e b) .stepped 996 = true) : exec (.calRowLocalisation c e b reads) s
    = .next (((s.useSlot (arrKey c e b) 996 36).rowStepDone (arrKey c e b) reads).commitOff (arrKey c e b)) :=
  congrArg Host.Outcome.next (if_pos hm)

theorem exec_calRunAbandon (c : CoreIx) (e : EngIx) (b : Bool) (s : State) : exec (.calRunAbandon c e b) s
    = .next (if s.abandonDue (arrKey c e b) then s.abandonRun (arrKey c e b) else s) := rfl

theorem exec_calIntervalRequest (c : CoreIx) (e : EngIx) (b : Bool) (s : State) : exec (.calIntervalRequest c e b) s
    = .next (if s.calAuto && s.good c.val
        && decide ((s.arr (arrKey c e b)).cal.lastCommit + s.calInterval ≤ s.opS) then s.requestRun (arrKey c e b) 5
      else s) := rfl

/-! ### What the steps find -/

/-- A spare step maps each candidate that passes and marks each that does not. -/
theorem State.spareStepDone_spec {s : State} {k : Nat} {r : CalRun} (l : SweepReads) (hr : (s.arr k).cal.run = some r) :
    ∃ q, ((s.spareStepDone k l).arr k).cal.run = some q
      ∧ (∀ p ∈ r.candidates (s.arr k).cal,
        if sparePasses (s.arr k).cal p.2 s.resBound (spareSweep (s.arr k).cal p.2 l)
        then p ∈ q.repairs else p.2 ∈ ((s.spareStepDone k l).arr k).cal.badSpares)
      ∧ RunSettles k s (s.spareStepDone k l) := by
  rw [State.spareStepDone_eq l hr]
  obtain ⟨⟨need, hrun⟩, hbad, hset⟩ := State.settleRun_spec
    (s.updCal k (fun _ => (spareRound s.resBound l (s.arr k).cal r).1)) k (spareRound s.resBound l (s.arr k).cal r).2
  refine ⟨_, hrun, ?found, (State.updCal_settles s k rfl).trans hset⟩
  case found =>
    intro p hp
    split
    case isTrue hpass => exact (CalRun.mem_repairs_foldl_trySpare _ _ _ _ r p).2 (.inr ⟨hp, hpass⟩)
    case isFalse hfail =>
      rw [hbad, State.arr_updCal_self]
      refine List.mem_append_right _ (List.mem_filter.2 ⟨List.mem_map_of_mem hp, ?_⟩)
      simpa using hfail

theorem State.rowStepDone_spec {s : State} {k : Nat} {r : CalRun} (reads : List (Nat × Int))
    (hr : (s.arr k).cal.run = some r) (hn : r.needRows = true) :
    ∃ q, ((s.rowStepDone k reads).arr k).cal.run = some q ∧ q.needRows = false
      ∧ q.rowFound = r.rowFound ++ rowsLocated reads ∧ RunSettles k s (s.rowStepDone k reads) := by
  rw [State.rowStepDone_eq reads hr hn]
  obtain ⟨⟨need, hrun⟩, _, hset⟩ := State.settleRun_spec s k
    { r with rowFound := r.rowFound ++ rowsLocated reads, needRows := false }
  exact ⟨_, hrun, rfl, rfl, hset⟩

/-- A calibration step that is not bad goes on with the run in its class and order. -/
theorem State.calStepDone_goes_on {s : State} {k : Nat} {r : CalRun} {sweep : SweepReads} (rows : RowReads)
    (hr : (s.arr k).cal.run = some r)
    (hgood : (r.swept (s.arr k).cal sweep).badReason (s.arr k).cal s.resBound = none) :
    (∃ q, ((s.calStepDone k sweep rows).arr k).cal.run = some q ∧ q.cls = r.cls ∧ q.order = r.order
      ∧ q.phase = (if q.need.isEmpty && !q.needRows then .ready else .stepped))
      ∧ RunSettles k s (s.calStepDone k sweep rows) := by
  obtain ⟨q, hq, hcls, horder⟩ := State.calStepDone_good rows hr hgood
  obtain ⟨⟨need, hrun⟩, _, hset⟩ := s.settleRun_spec k q
  rw [hq]
  exact ⟨⟨_, hrun, hcls, horder, rfl⟩, hset⟩

end Sys2Proof.Machine
end

section
/-!
SUPPORT. The maintenance commands of the host (R133, R345 to R347): a fence and what it leaves of the fences, and the
scope of a calibration command worked through array by array.
-/

namespace Sys2Proof.Machine

open Sys2Proof

/-! ### Commands applied at once -/

/-- A boundary command that waits for no boundary completes with what its processing leaves. -/
theorem answered_atOnce {s t : State} {h : Hdr} {i : Instr} {o : OpInfo} {st : Status} {body : List Nat}
    (ha : AtOnce s h i) (he : exec i s = .next (hostReceive h i s)) (ho : opInfo i = some o) (hb : o.boundary = true)
    (hs : submitOf i = none) (hr : runHost (s.heard h) i = { s := t, st := st, body := body }) :
    Answered s h i t st body := by
  rw [Answered, he, hostReceive_boundary ho hb hs ha, hr]
  simp [Ans.send]

/-! ### Fences (R345 to R347) -/

/-- Every core is fenced as before, for the causes and with the fences due as before. -/
def SameFences (s t : State) : Prop := ∀ c, (t.core c).causes = (s.core c).causes ∧ (t.core c).fenced = (s.core c).fenced
  ∧ (t.core c).due = (s.core c).due

theorem SameFences.refl (s : State) : SameFences s s := fun _ => ⟨rfl, rfl, rfl⟩

theorem SameFences.trans {s t u : State} (h : SameFences s t) (g : SameFences t u) : SameFences s u := by
  intro c
  obtain ⟨hcauses, hfenced, hdue⟩ := h c
  obtain ⟨gcauses, gfenced, gdue⟩ := g c
  exact ⟨gcauses.trans hcauses, gfenced.trans hfenced, gdue.trans hdue⟩

theorem SameFences.of_only {ps : List Part} {s t : State} (h : OnlyChanges ps s t) (hp : Part.cores ∉ ps) :
    SameFences s t := by
  intro c
  rw [h.core hp]
  exact ⟨rfl, rfl, rfl⟩

theorem State.updCore_sameFences (s : State) (k : Nat) {f : CoreState → CoreState}
    (hf : ∀ x, (f x).causes = x.causes ∧ (f x).fenced = x.fenced ∧ (f x).due = x.due) : SameFences s (s.updCore k f) := by
  intro c
  by_cases hc : c = k
  · subst hc
    simpa using hf (s.core c)
  · rw [s.core_updCore_ne f hc]
    exact ⟨rfl, rfl, rfl⟩

theorem State.setUsher_only (s : State) (u : Usher) : OnlyChanges [.usher] s { s with usher := u } := by
  intro p h
  cases p
  case usher => simp at h
  all_goals rfl

theorem State.startCompute_only (s : State) : OnlyChanges [.usher] s s.startCompute := by
  unfold State.startCompute
  split
  · exact .refl _ _
  · dsimp only
    split
    · exact s.setUsher_only _
    · exact .refl _ _

theorem State.needBind_only (s : State) (g reason : Nat) : OnlyChanges [.groups, .usher] s (s.needBind g reason) :=
  (((s.updGrp_only _ _).mono (by simp)).then (State.setUsher_only _ _) (by simp)).then (State.startCompute_only _)
    (by simp)

/-- A core that leaves its binding, or takes another's logical core over, stays fenced or not as it was. -/
theorem State.takeOverCore_sameFences (s : State) (g c : Nat) : SameFences s (s.takeOverCore g c) := by
  have hbind (t : State) (reason : Nat) : SameFences t (t.needBind g reason) := .of_only (t.needBind_only g reason) (by simp)
  have hgrp (t : State) (f : Group → Group) : SameFences t (t.updGrp g f) := .of_only (t.updGrp_only g f) (by simp)
  have hlost (t : State) : SameFences t (t.updCore c (fun k => { k with lcore := none, running := false })) :=
    t.updCore_sameFences c (fun _ => ⟨rfl, rfl, rfl⟩)
  have htake (t : State) (k l : Nat) : SameFences t (t.updCore k (fun z => { z with lcore := some l })) :=
    t.updCore_sameFences k (fun _ => ⟨rfl, rfl, rfl⟩)
  have hcount (t : State) (a n : Nat) : SameFences t (t.bump a n) := .of_only (t.bump_only a n) (by simp)
  unfold State.takeOverCore
  dsimp only
  split
  · split
    · exact ((hgrp s _).trans (hlost _)).trans (hbind _ _)
    · exact hgrp s _
  · split
    · split
      · exact hbind s _
      · exact (((hlost s).trans (hgrp _ _)).trans (htake _ _ _)).trans (hcount _ _ _)
    · exact hbind s _

theorem State.abandonRuns_sameFences (s : State) (ks : List Nat) : SameFences s (ks.foldl State.abandonRun s) :=
  .of_only (OnlyChanges.fold State.abandonRun State.abandonRun_only ks s) (by simp)

/-- A core with the fence that is due upon it, before anything follows from it. -/
def CoreState.shut (k : CoreState) : CoreState := { k with
  fenced := true, passThrough := true, causes := k.causes ||| k.due, due := 0
  permanent := k.permanent || (k.causes ||| k.due).testBit 4 || (k.causes ||| k.due).testBit 10 }

/-- A fence that takes effect shuts its core; what follows from it changes no fence. -/
theorem State.fenceNow_shuts {s : State} {c : Nat} (hd : (s.core c).due ≠ 0) (hf : (s.core c).fenced = false) :
    SameFences (s.updCore c (fun _ => (s.core c).shut)) (s.fenceNow c) := by
  unfold State.fenceNow
  extract_lets k mask runs s1 s2 s3 s4 s5
  have h2 : SameFences s1 s2 := .of_only (State.error_only _ _ _ _ _ _ _) (by simp)
  have h3 : SameFences s2 s3 := by
    simp only [s3]
    split
    · exact .refl _
    · exact .of_only (State.bump_only _ _ _) (by simp)
  have h4 : SameFences s3 s4 := s3.abandonRuns_sameFences runs
  have h5 : SameFences s4 s5 := by
    simp only [s5]
    split
    · exact s4.takeOverCore_sameFences _ c
    · exact .refl _
  have hall : SameFences s1 s5 := ((h2.trans h3).trans h4).trans h5
  rw [if_neg hd, if_neg (by simp [k, hf])]
  split
  · exact hall.trans (s5.updCore_sameFences c (fun _ => ⟨rfl, rfl, rfl⟩))
  · exact hall

theorem State.fence_unfenced {s : State} {c : Nat} (cause : Nat) (hf : (s.core c).fenced = false) :
    (s.fence c cause).core c = { s.core c with due := (s.core c).due ||| 2 ^ cause } := by
  simp [State.fence, hf]

/-- A fence at the host's word, with no boundary to come, shuts a core that had none due (cause 1). -/
theorem State.fenceSoon_shuts {s : State} {c : Nat} (hg : s.groups.any (fun p => p.2.ticking) = false)
    (hf : (s.core c).fenced = false) (hc : (s.core c).causes = 0) (hd : (s.core c).due = 0) :
    ((s.fenceSoon c 1).core c).causes = 2 ∧ ((s.fenceSoon c 1).core c).fenced = true
      ∧ ((s.fenceSoon c 1).core c).due = 0 := by
  have hcore := State.fence_unfenced 1 hf
  have hsoon : s.fenceSoon c 1 = (s.fence c 1).fenceNow c := if_neg (by simpa [State.fence] using hg)
  obtain ⟨hcauses, hfenced, hdue⟩ := State.fenceNow_shuts (s := s.fence c 1) (c := c) (by simp [hcore, hd])
    (by simp [hcore, hf]) c
  rw [State.core_updCore_self] at hcauses hfenced hdue
  rw [hsoon, hcauses, hfenced, hdue]
  simp [CoreState.shut, hcore, hc, hd]

/-! ### Arrays worked through one by one -/

/-- A fold that makes a property true of each thing in its turn, and breaks it of no other, makes it true of all. -/
theorem foldl_establishes {α β : Type} (P : β → α → Prop) (f : β → α → β) (hself : ∀ s x, P (f s x) x)
    (hother : ∀ s x y, y ≠ x → P s y → P (f s x) y) (l : List α) (s : β) : ∀ x ∈ l, P (l.foldl f s) x := by
  have hkeep (s : β) (x y : α) (h : P s y) : P (f s x) y := by
    by_cases hy : y = x
    · exact hy ▸ hself s x
    · exact hother s x y hy h
  have hrest (l : List α) (s : β) (y : α) (h : P s y) : P (l.foldl f s) y := by
    induction l generalizing s with
    | nil => exact h
    | cons x rest ih => exact ih _ (hkeep s x y h)
  induction l generalizing s with
  | nil => simp
  | cons x rest ih =>
    intro y hy
    obtain rfl | hy := List.mem_cons.1 hy
    · exact hrest rest _ y (hself s y)
    · exact ih _ y hy

/-- CAL_REQUEST asks for runs of class 3 (R130, R133). -/
def State.requestRuns (s : State) (ks : List Nat) : State := ks.foldl (fun (s : State) k => s.requestRun k 3) s

theorem State.requestRuns_awaited (s : State) (ks : List Nat) : ∀ k ∈ ks, (s.requestRuns ks).runAwaited 3 k := by
  refine foldl_establishes (fun (s : State) k => s.runAwaited 3 k) _ (fun s k => s.requestRun_awaited k 3) ?_ ks s
  intro s k j hj h
  simpa only [State.runAwaited, s.arr_requestRun_ne 3 hj] using h

theorem State.requestRuns_only (s : State) (ks : List Nat) : OnlyChanges [.arrays, .calOrder] s (s.requestRuns ks) :=
  .fold _ (fun s k => s.requestRun_only k 3) ks s

/-- A change made of the calibration of several arrays in turn. -/
def State.updCals (s : State) (f : ArrayCal → ArrayCal) (ks : List Nat) : State :=
  ks.foldl (fun (s : State) k => s.updCal k f) s

/-- What a change makes true of every calibration holds of the arrays it is made of. -/
theorem State.updCals_establishes {f : ArrayCal → ArrayCal} {P : ArrayCal → Prop} (hf : ∀ c, P (f c)) (s : State)
    (ks : List Nat) : ∀ k ∈ ks, P ((s.updCals f ks).arr k).cal := by
  refine foldl_establishes (fun (s : State) k => P (s.arr k).cal) _ (fun s k => ?_) (fun s k j hj h => ?_) ks s
  · simpa using hf _
  · simpa only [s.arr_updCal_ne f hj] using h

theorem State.updCals_only (s : State) (f : ArrayCal → ArrayCal) (ks : List Nat) :
    OnlyChanges [.arrays] s (s.updCals f ks) := .fold _ (fun s k => s.updCal_only k f) ks s

/-- A table without the keys that a test refuses holds nothing at them. -/
theorem Tbl.get?_filter_of_false {α : Type} (t : Tbl α) {p : Nat → Bool} {i : Nat} (h : p i = false) :
    Tbl.get? (t.filter (fun q => p q.1)) i = none := by
  induction t with
  | nil => rfl
  | cons q rest ih =>
    obtain ⟨j, v⟩ := q
    cases hj : p j with
    | false => simpa [hj] using ih
    | true =>
      have hne : j ≠ i := by
        rintro rfl
        simp [h] at hj
      simpa [hj, Tbl.get?, hne] using ih

theorem ArrayCal.get?_without (c : ArrayCal) {slots i : Nat} (hi : slots.testBit i = true) :
    (c.without slots).get? i = none :=
  Tbl.get?_filter_of_false c.sets (p := fun j => !slots.testBit j) (by simp [hi])

/-! ### The commands -/

theorem runCoreFence_good {s : State} {c : Nat} (hc : c < 576) (hg : s.good c = true)
    (hf : (s.core c).fenced = false) : runCoreFence s c = .ok (s.fenceSoon c 1) := by
  rw [runCoreFence, if_neg (by omega), if_neg (by simp [hg]), if_neg (by simp [hf])]

theorem runCoreFence_disabled {s : State} {c : Nat} (hc : c < 576) (hg : s.good c = false) :
    runCoreFence s c = .fail s .noResource := by
  rw [runCoreFence, if_neg (by omega), if_pos (by simp [hg])]

theorem runCoreFence_fenced {s : State} {c : Nat} (hc : c < 576) (hg : s.good c = true)
    (hf : (s.core c).fenced = true) : runCoreFence s c = .fail s .conflict := by
  rw [runCoreFence, if_neg (by omega), if_neg (by simp [hg]), if_pos hf]

theorem runCoreUnfence_tests {s : State} {c : Nat} (hc : c < 576) (hf : (s.core c).fenced = true)
    (hp : (s.core c).permanent = false) (ht : (s.core c).testing = false) :
    runCoreUnfence s c = .ok (s.updCore c (fun x => { x with testing := true })) := by
  rw [runCoreUnfence, if_neg (by omega)]
  exact if_neg (by simp [hf, hp, ht])

theorem runCoreUnfence_refused {s : State} {c : Nat}
    (h : (s.core c).fenced = false ∨ (s.core c).permanent = true) : runCoreUnfence s c = .fail s .conflict := by
  unfold runCoreUnfence
  split
  · rfl
  · exact if_pos (by rcases h with h | h <;> simp [h])

theorem runProbeLoad_begins {s : State} {h : Hdr} {x : Session} (loc : StorageLoc) (hl : s.probe.loading = none)
    (hx : s.session? h.sess = some x) : runProbeLoad s h loc = { s := ({ s with probe := { s.probe with
      loading := some ⟨h.sess, h.seq, x.key, loc⟩, fetches := 1 } } : State).send (.nvmeRead loc 4), st := .accepted } := by
  rw [runProbeLoad, if_neg (by simp [hl]), hx]
  rfl

theorem runProbeLoad_busy {s : State} {h : Hdr} (loc : StorageLoc) (hl : s.probe.loading.isSome = true) :
    runProbeLoad s h loc = .fail s .busy := if_pos hl

theorem runProbeResults_held {s : State} {p : ProbePack} (hp : s.probe.held = some p) : runProbeResults s p.id
    = .ok s ((List.range 576).flatMap (fun c =>
      [(s.core c).probeResult, if (s.core c).probeResult = 2 then (s.core c).probeFirst else 0])) := by
  simp only [runProbeResults, hp]
  exact if_neg (by simp)

theorem runCalRequest_scope {s : State} {x : CalScope} {ks : List Nat} (hk : s.scopeArrays x = .ok ks) :
    runCalRequest s x = .ok (s.requestRuns ks) [(ks.filter (fun k => (s.arr k).cal.run.isNone)).length] := by
  simp only [runCalRequest, hk, State.requestRuns]

theorem runCalRequest_noScope {s : State} {x : CalScope} {st : Status} (hk : s.scopeArrays x = .error st) :
    runCalRequest s x = .fail s st := by
  simp only [runCalRequest, hk]

theorem runCalCancel_scope {s : State} {x : CalScope} {ks : List Nat} (hk : s.scopeArrays x = .ok ks) :
    runCalCancel s x = .ok (s.updCals (fun c => { c with run := none }) (ks.filter (fun k => (s.arr k).cal.hostQueued)))
      [(ks.filter (fun k => (s.arr k).cal.hostQueued)).length] := by
  simp only [runCalCancel, hk, State.updCals]

theorem runCalDiscard_scope {s : State} {x : CalScope} {slots : Nat} {ks : List Nat} (hs : slots < 16)
    (hk : s.scopeArrays x = .ok ks) (hleft : ∀ k ∈ ks, ((s.arr k).cal.without slots).isEmpty = false) :
    runCalDiscard s x slots = .ok (s.updCals (fun c => { c with sets := c.without slots }) ks) := by
  have hany : ks.any (fun k => ((s.arr k).cal.without slots).isEmpty) = false :=
    List.any_eq_false.2 (fun k hk => by simp [hleft k hk])
  rw [runCalDiscard, if_neg (by omega)]
  simp only [hk, hany, Bool.false_eq_true, if_false, State.updCals]

theorem State.scopeArrays_disabled {s : State} {c : CoreIx} (e : EngIx) (b : Bool) (hg : s.good c.val = false) :
    s.scopeArrays (.array c.val e.val b) = .error .noResource := by
  have hc := c.isLt
  have he := e.isLt
  simp only [State.scopeArrays]
  rw [if_neg (by omega), if_pos (by simp [hg])]

end Sys2Proof.Machine
end

section
/-! SUPPORT. The statements about the maintenance commands and about calibration runs. -/

namespace Sys2Proof.Machine

open Sys2Proof

/-- Settles O23, by what each command's processing comes to; a fence at once shuts its core, and the arrays of a scope are
worked through one by one. -/
theorem maintenanceCommands : Obligations.MaintenanceCommands := by
  refine ⟨?fence, ?fenceDisabled, ?fenceFenced, ?unfence, ?unfenceRefused, ?probeLoad, ?probeBusy, ?probeResults, ?request
    , ?cancel, ?discard, ?requestDisabled⟩
  case fence =>
    intro s h c ha hc hg hf hcauses hdue
    obtain ⟨gcauses, gfenced, gdue⟩ := State.fenceSoon_shuts ha.2 hf hcauses hdue
    exact ⟨_, answered_atOnce ha rfl rfl rfl rfl (runCoreFence_good hc hg hf), gcauses, gfenced, gdue⟩
  case fenceDisabled =>
    intro s h c ha hc hg
    exact answered_atOnce ha rfl rfl rfl rfl (runCoreFence_disabled hc hg)
  case fenceFenced =>
    intro s h c ha hc hg hf
    exact answered_atOnce ha rfl rfl rfl rfl (runCoreFence_fenced hc hg hf)
  case unfence =>
    intro s h c ha hc hf hp ht
    exact answered_atOnce ha rfl rfl rfl rfl (runCoreUnfence_tests hc hf hp ht)
  case unfenceRefused =>
    intro s h c ha hno
    exact answered_atOnce ha rfl rfl rfl rfl (runCoreUnfence_refused hno)
  case probeLoad =>
    intro s h loc x ha hl hx
    exact answered_of_runHost ha rfl rfl rfl (runProbeLoad_begins loc hl hx)
  case probeBusy =>
    intro s h loc ha hl
    exact answered_of_runHost ha rfl rfl rfl (runProbeLoad_busy loc hl)
  case probeResults =>
    rintro s h pack p ha hp rfl
    exact answered_of_runHost ha rfl rfl rfl (runProbeResults_held hp)
  case request =>
    intro s h x ks ha hk
    exact ⟨_, answered_atOnce ha rfl rfl rfl rfl (runCalRequest_scope hk), State.requestRuns_awaited _ ks,
      State.requestRuns_only _ ks⟩
  case cancel =>
    intro s h x ks ha hk
    refine ⟨_, answered_atOnce ha rfl rfl rfl rfl (runCalCancel_scope hk), ?withdrawn, State.updCals_only _ _ _⟩
    case withdrawn =>
      intro k hmem hq
      exact State.updCals_establishes (P := fun c => c.run = none) (fun _ => rfl) _ _ k (List.mem_filter.2 ⟨hmem, hq⟩)
  case discard =>
    intro s h x slots ks ha hs hk hleft
    refine ⟨_, answered_atOnce ha rfl rfl rfl rfl (runCalDiscard_scope hs hk hleft), ?gone, State.updCals_only _ _ _⟩
    case gone =>
      intro k hmem i hi
      exact State.updCals_establishes (P := fun c => c.sets.get? i = none) (fun c => c.get?_without hi) _ _ k hmem
  case requestDisabled =>
    intro s h c e b ha hg
    exact answered_atOnce ha rfl rfl rfl rfl (runCalRequest_noScope (State.scopeArrays_disabled e b hg))

/-- Settles O49, by what the use of an engine leaves and what the outcome of each step may change. -/
theorem calibrationEvents : Obligations.CalibrationEvents := by
  refine ⟨?start, ?notHead, ?step, ?commitOff, ?spare, ?row, ?again, ?fenced, ?safe, ?notDue, ?interval, ?early⟩
  case start =>
    intro s c e b hq
    rw [exec_calRunStart, if_pos hq]
    exact ⟨_, rfl, by simp [State.startRun], s.updCal_keys _ _, s.updCal_only _ _⟩
  case notHead =>
    intro s c e b hq
    rw [exec_calRunStart, if_neg hq]
  case step =>
    intro s c e b sweep rows r0 hm hr
    have hcal : ((s.useSlot (arrKey c e b) 1692 65).arr (arrKey c e b)).cal = (s.arr (arrKey c e b)).cal := by
      rw [State.arr_useSlot_self]
    have hrun : ((s.useSlot (arrKey c e b) 1692 65).arr (arrKey c e b)).cal.run = some r0 := by rw [hcal, hr]
    refine ⟨_, exec_calStep sweep rows hm, ?_⟩
    dsimp only
    split
    case h_1 reason hbad =>
      rw [State.calStepDone_bad rows hrun (reason := reason) (by rw [hcal, State.resBound_useSlot]; exact hbad)]
      obtain ⟨hnone, hstreak, hcount, hset⟩ := (s.useSlot (arrKey c e b) 1692 65).badRun_outcome (arrKey c e b) reason
      obtain ⟨hphase, htile, hforce, hfires, hkeys, hparts⟩ := hset.after_useSlot
      rw [hcal] at hstreak
      rw [State.reg_useSlot_cal _ _ _ _ (by decide)] at hcount
      exact ⟨hphase, htile, hforce, hfires, ⟨hnone, hstreak, hcount⟩, hkeys, hparts⟩
    case h_2 hgood =>
      obtain ⟨hgoes, hset⟩ := State.calStepDone_goes_on (sweep := sweep) rows hrun
        (by rw [hcal, State.resBound_useSlot]; exact hgood)
      obtain ⟨hphase, htile, hforce, hfires, hkeys, hparts⟩ := hset.after_useSlot
      exact ⟨hphase, htile, hforce, hfires, hgoes, hkeys, hparts⟩
  case commitOff =>
    intro s k
    exact ⟨fun h => if_pos h, fun h => if_neg (by simp [h])⟩
  case spare =>
    intro s c e b reads r hm hr
    have hcal : ((s.useSlot (arrKey c e b) 1476 56).arr (arrKey c e b)).cal = (s.arr (arrKey c e b)).cal := by
      rw [State.arr_useSlot_self]
    obtain ⟨q, hq, hfound, hset⟩ := State.spareStepDone_spec (s := s.useSlot (arrKey c e b) 1476 56) reads
      (hcal ▸ hr)
    obtain ⟨_, _, hforce, hfires, hkeys, hparts⟩ := hset.after_useSlot
    rw [hcal, State.resBound_useSlot] at hfound
    exact ⟨_, q, exec_calSpareStep reads hm, hq, hfound, hfires, hforce, hkeys, hparts⟩
  case row =>
    intro s c e b reads r hm hr hn
    have hcal : ((s.useSlot (arrKey c e b) 996 36).arr (arrKey c e b)).cal = (s.arr (arrKey c e b)).cal := by
      rw [State.arr_useSlot_self]
    obtain ⟨q, hq, hneed, hfound, hset⟩ := State.rowStepDone_spec (s := s.useSlot (arrKey c e b) 996 36) reads
      (hcal ▸ hr) hn
    obtain ⟨_, _, _, hfires, hkeys, hparts⟩ := hset.after_useSlot
    exact ⟨_, q, exec_calRowLocalisation reads hm, hq, hneed, hfound, hfires, hkeys, hparts⟩
  case again =>
    intro s c e b r hd hr hs ht hf
    rw [exec_calRunAbandon, if_pos hd, State.abandonRun_again hr hs ht (by simpa using hf)]
    have hreq := (s.dropRun (arrKey c e b)).requestRun_only (arrKey c e b) r.cls
    have hnone : ((s.dropRun (arrKey c e b)).arr (arrKey c e b)).cal.run = none := by simp
    obtain ⟨hcal, _⟩ := State.requestRun_queues r.cls hnone
    refine ⟨_, rfl, ?queued, ?counted, (s.dropRun_keys _).trans (State.requestRun_keys _ _ _),
      ((s.dropRun_only _).mono (by simp)).then hreq (by simp)⟩
    case queued => simp [hcal]
    case counted => rw [hreq.reg (by simp), s.dropRun_counted]
  case fenced =>
    intro s c e b r hd hr hs ht hf
    rw [exec_calRunAbandon, if_pos hd, State.abandonRun_fenced hr hs ht (by simpa using hf)]
    exact ⟨_, rfl, by simp, s.dropRun_counted _, (s.dropRun_keys _).trans (State.updCal_keys _ _ _),
      (s.dropRun_only _).then (State.updCal_only _ _ _) (by simp)⟩
  case safe =>
    intro s c e b r hd hr hs
    rw [exec_calRunAbandon, if_pos hd, State.abandonRun_safe hr hs]
    exact ⟨_, rfl, by simp, s.dropRun_counted _, s.dropRun_keys _, s.dropRun_only _⟩
  case notDue =>
    intro s c e b hd
    rw [exec_calRunAbandon, if_neg (by simp [hd])]
  case interval =>
    intro s c e b ha hg hl hr
    rw [exec_calIntervalRequest, if_pos (by simp [ha, hg, hl])]
    obtain ⟨hcal, horder⟩ := State.requestRun_queues 5 hr
    exact ⟨_, rfl, hcal, horder, s.requestRun_keys _ _, s.requestRun_only _ _⟩
  case early =>
    intro s c e b hl
    have hno : ¬ (s.arr (arrKey c e b)).cal.lastCommit + s.calInterval ≤ s.opS := by omega
    rw [exec_calIntervalRequest, if_neg (by simp [hno])]

end Sys2Proof.Machine
end

section
/-!
SUPPORT. The plan of a group: what its commands come to on receipt and at a boundary (R148, R161, R166), what the end of
its verification leaves (R148, R149), and how a staged plan is discarded, rejected or retired.
-/

namespace Sys2Proof.Machine

open Sys2Proof

/-! ### Reading a group and a session -/

theorem OnlyChanges.grp {ps : List Part} {s t : State} (h : OnlyChanges ps s t) (hp : Part.groups ∉ ps) (g : Nat) :
    t.grp g = s.grp g := by
  have he : t.groups = s.groups := h .groups hp
  simp only [State.grp, he]

theorem OnlyChanges.session? {ps : List Part} {s t : State} (h : OnlyChanges ps s t) (hp : Part.sessions ∉ ps) (n : Nat) :
    t.session? n = s.session? n := by
  have he : t.sessions = s.sessions := h .sessions hp
  simp only [State.session?, he]

theorem State.formed?_of_formed {s : State} {g : Nat} (hg : g < 12) (hf : (s.grp g).formed = true) :
    s.formed? g = some (s.grp g) := if_pos ⟨hg, hf⟩

/-- A session that has not departed is sent its reply (R275). -/
theorem State.reply_out {s : State} {sess : Nat} {x : Session} (hx : s.session? sess = some x) (seq : Nat) (st : Status)
    (detail tag : Nat) (body : List Nat) :
    (s.reply sess seq st detail tag body).out = s.out ++ [.reply sess seq st detail tag body false] := by
  simp [State.reply, hx]

/-! ### A staged plan discarded -/

/-- A group without its staged plan, whose bindings are computed no more; whoever committed it has no answer yet. -/
def State.unstage (s : State) (g : Nat) : State :=
  let s1 := s.updGrp g (fun y => { y with staged := none })
  if s1.usher.computing = some (0, g) then { s1 with usher := { s1.usher with computing := none } } else s1

theorem State.unstage_only (s : State) (g : Nat) : OnlyChanges [.groups, .usher] s (s.unstage g) := by
  have hgrp := (s.updGrp_only g (fun y => { y with staged := none })).mono (qs := [.groups, .usher]) (by simp)
  unfold State.unstage
  dsimp only
  split
  · exact hgrp.then (State.setUsher_only _ _) (by simp)
  · exact hgrp

@[simp] theorem State.grp_unstage_self (s : State) (g : Nat) : (s.unstage g).grp g = { s.grp g with staged := none } := by
  unfold State.unstage
  dsimp only
  split
  · rw [(State.setUsher_only _ _).grp (by simp)]
    simp
  · simp

theorem State.unstage_not_computing (s : State) (g : Nat) : (s.unstage g).usher.computing ≠ some (0, g) := by
  unfold State.unstage
  dsimp only
  split
  case isTrue => simp
  case isFalse hother => exact hother

theorem State.dropStaged_none {s : State} {g : Nat} (hx : (s.grp g).staged = none) (st : Status) (record : Nat) :
    s.dropStaged g st record = s := by
  simp only [State.dropStaged, hx]

theorem State.dropStaged_uncommitted {s : State} {g : Nat} {x : Staged} (hx : (s.grp g).staged = some x)
    (ho : x.origin = none) (st : Status) (record : Nat) : s.dropStaged g st record = s.unstage g := by
  simp only [State.dropStaged, hx, ho, State.unstage]

theorem State.dropStaged_committed {s : State} {g sess seq : Nat} {x : Staged} (hx : (s.grp g).staged = some x)
    (ho : x.origin = some (sess, seq)) (st : Status) (record : Nat) :
    s.dropStaged g st record = (s.unstage g).reply sess seq st record 0 [] := by
  simp only [State.dropStaged, hx, ho, State.unstage]

/-- Whether or not a commit is answered, discarding a plan leaves the group and the Usher as unstaging it does. -/
theorem State.dropStaged_after_unstage {s : State} {g : Nat} {x : Staged} (hx : (s.grp g).staged = some x) (st : Status)
    (record : Nat) : OnlyChanges [.sessions, .out, .wire, .wide] (s.unstage g) (s.dropStaged g st record) := by
  cases ho : x.origin with
  | none =>
    rw [State.dropStaged_uncommitted hx ho]
    exact .refl _ _
  | some o =>
    rw [State.dropStaged_committed hx ho]
    exact State.reply_only _ _ _ _ _ _ _

theorem State.dropStaged_staged {s : State} {g : Nat} {x : Staged} (hx : (s.grp g).staged = some x) (st : Status)
    (record : Nat) : ((s.dropStaged g st record).grp g).staged = none := by
  rw [(State.dropStaged_after_unstage hx st record).grp (by simp)]
  simp

theorem State.dropStaged_not_computing {s : State} {g : Nat} {x : Staged} (hx : (s.grp g).staged = some x) (st : Status)
    (record : Nat) : (s.dropStaged g st record).usher.computing ≠ some (0, g) := by
  have husher : (s.dropStaged g st record).usher = (s.unstage g).usher :=
    State.dropStaged_after_unstage hx st record .usher (by simp)
  rw [husher]
  exact s.unstage_not_computing g

theorem State.dropStaged_silent {s : State} {g : Nat} {x : Staged} (hx : (s.grp g).staged = some x)
    (ho : x.origin = none) (st : Status) (record : Nat) : (s.dropStaged g st record).out = s.out := by
  rw [State.dropStaged_uncommitted hx ho]
  exact s.unstage_only g .out (by simp)

theorem State.dropStaged_answers {s : State} {g sess seq : Nat} {x : Staged} {y : Session}
    (hx : (s.grp g).staged = some x) (ho : x.origin = some (sess, seq)) (hy : s.session? sess = some y) (st : Status)
    (record : Nat) : (s.dropStaged g st record).out = s.out ++ [.reply sess seq st record 0 [] false] := by
  have hout : (s.unstage g).out = s.out := s.unstage_only g .out (by simp)
  rw [State.dropStaged_committed hx ho,
    State.reply_out (((s.unstage_only g).session? (by simp) sess).trans hy), hout]

/-! ### A committed plan rejected (R148, R167) -/

theorem State.showReject_only (s : State) (g : Nat) (r : Nat × Nat) : OnlyChanges [.regs] s (s.showReject g r) :=
  (s.bump_only _ _).trans (State.setReg_only _ _ _)

/-- A rejection noted for the group's next window, and shown at once where no window comes. -/
def State.noteReject (s : State) (g : Nat) (st : Status) (record : Nat) : State :=
  let s1 := s.updGrp g (fun x => { x with rejects := x.rejects ++ [(st.code, record)] })
  if (s.grp g).ticking then s1 else s1.showRejects g

theorem State.rejectPlan_eq (s : State) (g : Nat) (st : Status) (record : Nat) : s.rejectPlan g st record
    = (s.noteReject g st record).dropStaged g st (if st = .planInvalid then record else 0) := rfl

theorem State.showRejects_only (s : State) (g : Nat) : OnlyChanges [.groups, .regs] s (s.showRejects g) :=
  ((OnlyChanges.fold _ (fun u r => u.showReject_only g r) _ s).mono (by simp)).then (State.updGrp_only _ _ _) (by simp)

theorem State.grp_showRejects_self (s : State) (g : Nat) : (s.showRejects g).grp g = { s.grp g with rejects := [] } := by
  rw [State.showRejects, State.grp_updGrp_self,
    (OnlyChanges.fold _ (fun u r => State.showReject_only u g r) _ s).grp (by simp)]

theorem State.noteReject_only (s : State) (g : Nat) (st : Status) (record : Nat) :
    OnlyChanges [.groups, .regs] s (s.noteReject g st record) := by
  have hgrp := (s.updGrp_only g (fun x => { x with rejects := x.rejects ++ [(st.code, record)] })).mono
    (qs := [.groups, .regs]) (by simp)
  unfold State.noteReject
  dsimp only
  split
  · exact hgrp
  · exact hgrp.trans (State.showRejects_only _ g)

theorem State.noteReject_ticking {s : State} {g : Nat} (ht : (s.grp g).ticking = true) (st : Status) (record : Nat) :
    s.noteReject g st record = s.updGrp g (fun x => { x with rejects := x.rejects ++ [(st.code, record)] }) :=
  if_pos ht

@[simp] theorem State.noteReject_staged (s : State) (g : Nat) (st : Status) (record : Nat) :
    ((s.noteReject g st record).grp g).staged = (s.grp g).staged := by
  unfold State.noteReject
  dsimp only
  split
  · simp
  · simp [State.grp_showRejects_self]

/-! ### The end of a verification (R148, R149) -/

/-- The verification of a committed plan whose digest differs ends in its rejection. -/
theorem State.verifyEnd_wrongDigest {s : State} {g : Nat} {st : Staged} {bs : List Byte}
    (hst : (s.grp g).staged = some st) (hphase : st.phase = .verifying) (hbytes : st.upload.bytes = some bs)
    (hdigest : Crypto.sha256 bs ≠ st.upload.digest) : s.verifyEnd g = s.rejectPlan g .digestMismatch noRecord := by
  simp [State.verifyEnd, hst, hphase, hbytes, hdigest]

section
variable {s : State} {g : Nat} {st : Staged} {bs : List Byte} {x : Session}
  (hst : (s.grp g).staged = some st) (hphase : st.phase = .verifying) (hbytes : st.upload.bytes = some bs)
  (hdigest : Crypto.sha256 bs = st.upload.digest) (hx : s.session? st.upload.sess = some x)
include hst hphase hbytes hdigest hx

/-- A plan that every check accepts is verified, and its bindings are to be computed. -/
theorem State.verifyEnd_accepted {usable : Bool} {p : Plan}
    (hv : verifyPlan bs ((List.range 8).filter x.plans.testBit) (s.grp g).chans.length (s.grp g).slots (s.bindingOk g)
      s.pkgThrottle = (.accept usable, some p)) :
    s.verifyEnd g = (s.updGrp g (fun y => { y with staged := some { st with
      phase := .verified, since := s.time.ns
      plan := some ⟨p, st.upload.digest, st.upload.len, usable, s.pkgThrottle⟩, computed := false } })).startCompute := by
  simp [State.verifyEnd, hst, hphase, hbytes, hdigest, hx, hv]

theorem State.verifyEnd_invalid {r : Nat} {p : Option Plan}
    (hv : verifyPlan bs ((List.range 8).filter x.plans.testBit) (s.grp g).chans.length (s.grp g).slots (s.bindingOk g)
      s.pkgThrottle = (.invalid r, p)) : s.verifyEnd g = s.rejectPlan g .planInvalid r := by
  simp [State.verifyEnd, hst, hphase, hbytes, hdigest, hx, hv]

end

theorem State.verifyEnd_none {s : State} {g : Nat} (hst : (s.grp g).staged = none) : s.verifyEnd g = s := by
  simp only [State.verifyEnd, hst]

theorem exec_planVerificationEnd (g : GroupIx) (s : State) :
    exec (.planVerificationEnd g) s = .next (s.verifyEnd g.val) := rfl

/-! ### A plan retired (R166) -/

/-- A group that is unbound keeps its plan. -/
theorem State.unbind_current (s : State) (g : Nat) : ((s.unbind g).grp g).current = (s.grp g).current := by
  unfold State.unbind
  extract_lets s1
  have hcores := OnlyChanges.fold (fun (s : State) c => s.updCore c (fun k => { k with lcore := none, running := false }))
    (fun u c => u.updCore_only c _) (s1.groupCores g) s1
  calc _ = (s1.grp g).current := congrArg Group.current (hcores.grp (by simp) g)
    _ = (s.grp g).current := by simp [s1]

@[simp] theorem State.grp_reportEnded (s : State) (g k : Nat) : (s.reportEnded g).grp k = s.grp k := rfl

theorem State.retirePlan_current (s : State) (g : Nat) : ((s.retirePlan g).grp g).current = none := by
  rw [State.retirePlan, State.unbind_current, State.grp_reportEnded, State.grp_updGrp_self]

/-! ### The plan commands (R148, R161, R166) -/

theorem Group.openUpload_of_uploading {g : Group} {st : Staged} (hst : g.staged = some st) (hphase : st.phase = .uploading) :
    g.openUpload = some st := by
  simp [Group.openUpload, hst, hphase]

theorem runPlanBegin_opens {s : State} {g len : Nat} (h : Hdr) (digest : List Byte) (hg : g < 12)
    (hf : (s.grp g).formed = true) (hst : (s.grp g).staged = none) (hmax : len ≤ 2 ^ 28)
    (hstore : s.planBytes + len ≤ 6144 * 2 ^ 20) :
    runPlanBegin s h g len digest = .ok (s.updGrp g (fun y => { y with
      staged := some ⟨⟨h.sess, len, digest, []⟩, .uploading, none, none, 0, false⟩ })) := by
  have hfits : ¬ (planMax < len ∨ planStore < s.planBytes + len) := by
    simp only [planMax, planStore]
    omega
  simp [runPlanBegin, State.formed?_of_formed hg hf, hst, hfits]

theorem runPlanBegin_busy {s : State} {h : Hdr} {g : Nat} {st : Staged} (len : Nat) (digest : List Byte) (hg : g < 12)
    (hf : (s.grp g).formed = true) (hst : (s.grp g).staged = some st) (hsess : st.upload.sess ≠ h.sess) :
    runPlanBegin s h g len digest = .fail s .busy := by
  simp [runPlanBegin, State.formed?_of_formed hg hf, hst, hsess]

section
variable {s : State} {h : Hdr} {g : Nat} {st : Staged} (hg : g < 12) (hf : (s.grp g).formed = true)
  (hst : (s.grp g).staged = some st) (hphase : st.phase = .uploading)
include hg hf hst hphase

/-- PLAN_DATA and PLAN_COMMIT act on the formed group's open upload. -/
theorem State.formed?_bind_openUpload : (s.formed? g).bind Group.openUpload = some st := by
  rw [State.formed?_of_formed hg hf]
  exact Group.openUpload_of_uploading hst hphase

theorem runPlanData_fills {off : Nat} {data : List Byte} (hsess : st.upload.sess = h.sess) (hlen : data.length ≤ 8192)
    (hend : off + data.length ≤ st.upload.len) :
    runPlanData s h g off data = .ok (s.updGrp g (fun y => { y with
      staged := some { st with upload := { st.upload with parts := (off, data) :: st.upload.parts } } })) := by
  have hfits : ¬ (8192 < data.length ∨ st.upload.len < off + data.length) := by omega
  simp only [runPlanData, State.formed?_bind_openUpload hg hf hst hphase, if_neg (not_not_intro hsess), if_neg hfits]

theorem runPlanCommit_verifies (hsess : st.upload.sess = h.sess) (hwhole : st.upload.bytes.isSome = true) :
    runPlanCommit s h g = { s := s.updGrp g (fun y => { y with
      staged := some { st with phase := .verifying, origin := some (h.sess, h.seq) } }), st := .ok, waits := true } := by
  have hpart : ¬ st.upload.bytes.isNone = true := by simp [Option.isSome_iff_ne_none.1 hwhole]
  simp only [runPlanCommit, State.formed?_bind_openUpload hg hf hst hphase, if_neg (not_not_intro hsess), if_neg hpart]

theorem runPlanCommit_notAuthorised (hsess : st.upload.sess ≠ h.sess) :
    runPlanCommit s h g = .fail s .notAuthorised := by
  simp only [runPlanCommit, State.formed?_bind_openUpload hg hf hst hphase, if_pos hsess]

end

section
variable {s : State} {g : Nat} (hg : g < 12) (hf : (s.grp g).formed = true)
include hg hf

theorem runPlanAbort_drops {st : Staged} (hst : (s.grp g).staged = some st) :
    runPlanAbort s g = .ok (s.dropStaged g .stale 0) := by
  simp [runPlanAbort, State.formed?_of_formed hg hf, hst]

theorem runPlanQuery_noPlan (hc : (s.grp g).current = none) : runPlanQuery s g
    = .ok s [0, (s.grp g).kind, 0, 0, (s.grp g).tick, (s.reg (grpReg g Reg.RESERVE_USED)).toNat] := by
  simp [runPlanQuery, State.formed?_of_formed hg hf, hc, Group.variant]

theorem runVariantForce_releases : runVariantForce s g 0xFF = .ok (s.updGrp g (fun y => { y with forced := none })) := by
  simp [runVariantForce, State.formed?_of_formed hg hf]

theorem runVariantForce_forces {code : Nat} {v : Variant} (hcode : code ≤ 3)
    (hv : (s.grp g).current.bind (fun p => p.plan.variant code) = some v) :
    runVariantForce s g code = .ok (s.updGrp g (fun y => { y with forced := some code })) := by
  have hrelease : code ≠ 0xFF := by omega
  have hkind : ¬ 3 < code := by omega
  simp [runVariantForce, State.formed?_of_formed hg hf, hrelease, hkind, hv]

theorem runPlanRetire_retires (hfree : ∀ r ∈ s.reqs, r.group = g → r.slot = none) :
    runPlanRetire s g = .ok (s.retirePlan g) := by
  have hslots : s.reqs.any (fun r => r.group == g && r.slot.isSome) = false :=
    List.any_eq_false.2 (fun r hr => by simpa using hfree r hr)
  simp [runPlanRetire, State.formed?_of_formed hg hf, hslots]

end

/-- A group with a request in a slot keeps its plan. -/
theorem runPlanRetire_conflict {s : State} {g : Nat} {r : Req} (hr : r ∈ s.reqs) (hgroup : r.group = g)
    (hslot : r.slot.isSome = true) : runPlanRetire s g = .fail s .conflict := by
  have hslots : s.reqs.any (fun r => r.group == g && r.slot.isSome) = true :=
    List.any_eq_true.2 ⟨r, hr, by simp [hgroup, hslot]⟩
  unfold runPlanRetire
  split
  · rfl
  · exact if_pos hslots

/-! ### At a boundary (R279, R280) -/

/-- A due command that replaces no adapter is answered with what its processing leaves, unless commands before it have
caused it to fail. -/
theorem State.applyHeld_answers {base s : State} {c : Held} {o : OpInfo} (tick : Nat) (seen : List Nat)
    (ho : opInfo c.cmd = some o) (hsess : (s.session? c.sess).isSome = true) (hrep : s.replaces c.cmd = none)
    (hown : (runHost s c.cmd).done = true ∨ (runHost base c.cmd).done = false) :
    State.applyHeld base tick (s, seen) c = ((runHost s c.cmd).send o.h tick, seen) := by
  have hhere : ¬ (s.session? c.sess).isNone = true := by simp [Option.isSome_iff_ne_none.1 hsess]
  simp only [State.applyHeld, ho, hrep, if_neg hhere]
  by_cases hdone : (runHost s c.cmd).done = true
  · simp [hdone]
  · simp [hdone, hown.resolve_left hdone]

theorem Ans.send_ok (s : State) (h : Hdr) (tick : Nat) : (Ans.ok s).send h tick = s.reply h.sess h.seq .ok 0 tick [] := by
  simp [Ans.ok, Ans.send]

theorem Ans.send_fail (s : State) (st : Status) (h : Hdr) (tick : Nat) :
    (Ans.fail s st).send h tick = s.reply h.sess h.seq st 0 tick [] := by
  simp [Ans.fail, Ans.send]

/-- A due command that succeeds is answered with the tick of the boundary. -/
theorem State.applyHeld_ok {base s t : State} {c : Held} {i : Instr} {o : OpInfo} (tick : Nat) (seen : List Nat)
    (hc : c.cmd = i) (ho : opInfo i = some o) (hsess : (s.session? c.sess).isSome = true) (hrep : s.replaces i = none)
    (hr : runHost s i = .ok t) :
    State.applyHeld base tick (s, seen) c = (t.reply o.h.sess o.h.seq .ok 0 tick [], seen) := by
  subst hc
  rw [State.applyHeld_answers tick seen ho hsess hrep (.inl (by rw [hr]; rfl)), hr, Ans.send_ok]

/-- PLAN_COMMIT is answered by the verification it starts, or the placement (R148). -/
theorem exec_planCommit {s t : State} {h : Hdr} {g : Nat} (ha : Admitted s h (.planCommit h g))
    (hr : runPlanCommit (s.heard h) h g = { s := t, st := .ok, waits := true }) : exec (.planCommit h g) s = .next t := by
  have hexec : exec (.planCommit h g) s = .next (hostReceive h (.planCommit h g) s) := rfl
  have hrun : runHost (s.heard h) (.planCommit h g) = { s := t, st := .ok, waits := true } := hr
  rw [hexec, hostReceive_atOnce rfl rfl ha, hrun]
  rfl

end Sys2Proof.Machine
end

section
/-! SUPPORT. The statements about the plan commands and about the end of a plan's verification. -/

namespace Sys2Proof.Machine

open Sys2Proof

/-- Settles O21, by what each command's processing comes to, on receipt or at a boundary; a staged plan that is discarded
leaves its group before its commit is answered. -/
theorem planCommands : Obligations.PlanCommands := by
  refine ⟨?begins, ?beginBusy, ?data, ?commit, ?commitForeign, ?abort, ?dropped, ?query, ?force, ?release, ?retire
    , ?retireHeld, ?retireConflict⟩
  case begins =>
    intro s h g len digest ha hg hf hst hmax hstore
    exact answered_of_runHost ha rfl rfl rfl (runPlanBegin_opens h digest hg hf hst hmax hstore)
  case beginBusy =>
    intro s h g len digest st ha hg hf hst hsess
    exact answered_of_runHost ha rfl rfl rfl (runPlanBegin_busy len digest hg hf hst hsess)
  case data =>
    intro s h g off data st ha hg hf hst hphase hsess hlen hend
    exact answered_of_runHost ha rfl rfl rfl (runPlanData_fills hg hf hst hphase hsess hlen hend)
  case commit =>
    intro s h g st ha hg hf hst hphase hsess hwhole
    exact exec_planCommit ha (runPlanCommit_verifies hg hf hst hphase hsess hwhole)
  case commitForeign =>
    intro s h g st ha hg hf hst hphase hsess
    exact answered_of_runHost ha rfl rfl rfl (runPlanCommit_notAuthorised hg hf hst hphase hsess)
  case abort =>
    intro s h g st ha hg hf hst
    exact answered_of_runHost ha rfl rfl rfl (runPlanAbort_drops hg hf hst)
  case dropped =>
    intro s g st r x hx
    exact ⟨State.dropStaged_staged hx st r, State.dropStaged_not_computing hx st r,
      fun ho => State.dropStaged_silent hx ho st r, fun sess seq y ho hy => State.dropStaged_answers hx ho hy st r⟩
  case query =>
    intro s h g ha hg hf hc
    exact answered_of_runHost ha rfl rfl rfl (runPlanQuery_noPlan hg hf hc)
  case force =>
    intro s base h g code x tick seen c hc hsess hg hf hcode hv
    exact State.applyHeld_ok tick seen hc rfl hsess rfl (runVariantForce_forces hg hf hcode hv)
  case release =>
    intro s h g ha hg hf
    exact answered_atOnce ha rfl rfl rfl rfl (runVariantForce_releases hg hf)
  case retire =>
    intro s h g ha hg hf hfree
    exact ⟨answered_atOnce ha rfl rfl rfl rfl (runPlanRetire_retires hg hf hfree), State.retirePlan_current _ g⟩
  case retireHeld =>
    intro s base h g tick seen c hc hsess hg hf hfree
    exact State.applyHeld_ok tick seen hc rfl hsess rfl (runPlanRetire_retires hg hf hfree)
  case retireConflict =>
    intro s h g r tick seen c hc hsess hr hgroup hslot
    have hrun : runHost s c.cmd = .fail s .conflict := by
      rw [hc]
      exact runPlanRetire_conflict hr hgroup hslot
    rw [State.applyHeld_answers tick seen (by rw [hc]; rfl) hsess (by rw [hc]; rfl) (.inr (by rw [hrun]; rfl)), hrun,
      Ans.send_fail]

/-- Settles O26, by the verdict of the checks; a rejection is noted first, which leaves the staged plan to be discarded. -/
theorem planVerification : Obligations.PlanVerification := by
  refine ⟨?digest, ?accepted, ?invalid, ?idle, ?rejected, ?shown⟩
  case digest =>
    intro s g st bs hst hphase hbytes hdigest
    rw [exec_planVerificationEnd, State.verifyEnd_wrongDigest hst hphase hbytes hdigest]
  case accepted =>
    intro s g st bs x usable p hst hphase hbytes hdigest hx hv
    rw [exec_planVerificationEnd, State.verifyEnd_accepted hst hphase hbytes hdigest hx hv]
  case invalid =>
    intro s g st bs x r p hst hphase hbytes hdigest hx hv
    rw [exec_planVerificationEnd, State.verifyEnd_invalid hst hphase hbytes hdigest hx hv]
  case idle =>
    intro s g hst
    rw [exec_planVerificationEnd, State.verifyEnd_none hst]
  case rejected =>
    rintro s g st record x sess seq hx ho ⟨y, hy⟩
    have hnoted := s.noteReject_only g st record
    have hstaged : ((s.noteReject g st record).grp g).staged = some x := (s.noteReject_staged g st record).trans hx
    have hsess : (s.noteReject g st record).session? sess = some y := (hnoted.session? (by simp) sess).trans hy
    have hout : (s.noteReject g st record).out = s.out := hnoted .out (by simp)
    rw [State.rejectPlan_eq]
    exact ⟨State.dropStaged_staged hstaged _ _, (State.dropStaged_answers hstaged ho hsess _ _).trans (by rw [hout])⟩
  case shown =>
    intro s g st record hst ht
    rw [State.rejectPlan_eq, State.dropStaged_none ((s.noteReject_staged g st record).trans hst),
      State.noteReject_ticking ht]
    exact ⟨by simp, rfl⟩

end Sys2Proof.Machine
end

section
/-!
SUPPORT. The hops of the fabric: the losses that an arbitration counts (R179), what the check of a flit counts (R169, R332),
and the segments of the control network, bypassed and retrained (R184, R185).
-/

namespace Sys2Proof.Machine

open Sys2Proof

theorem State.setFabric_only (s : State) (f : Fabric) : OnlyChanges [.fabric] s { s with fabric := f } := by
  intro p h
  cases p
  case fabric => simp at h
  all_goals rfl

theorem OnlyChanges.fabric {ps : List Part} {s t : State} (h : OnlyChanges ps s t) (hp : Part.fabric ∉ ps) :
    t.fabric = s.fabric := h .fabric hp

/-! ### Arbitration (R179) -/

theorem lossKey_inj {hop : HopUnit} {port i j : Nat} (h : lossKey hop port i = lossKey hop port j) : i = j :=
  Nat.add_left_cancel h

/-- Counting once for each thing of a list adds, at every key, how often the list names it. -/
theorem Tbl.getD_foldl_upd (key : Nat → Nat) (hkey : ∀ i j, key i = key j → i = j) (l : List Nat) (t : Tbl Nat) (j : Nat) :
    (l.foldl (fun (t : Tbl Nat) i => t.upd (key i) 0 (· + 1)) t).getD (key j) 0 = t.getD (key j) 0 + l.count j := by
  induction l generalizing t with
  | nil => rfl
  | cons i rest ih =>
    rw [List.foldl_cons, ih, Tbl.upd]
    by_cases h : i = j
    · subst h
      rw [Tbl.getD_put_self, List.count_cons_self]
      omega
    · rw [Tbl.getD_put_ne _ _ _ (fun e => h (hkey _ _ e.symm)), List.count_cons_of_ne h]

/-- The losses in a row once an arbitration is over. -/
def Fabric.lossesAfter (f : Fabric) (hop : HopUnit) (a : FlitArb) : Tbl Nat :=
  a.losers.foldl (fun (t : Tbl Nat) i => t.upd (lossKey hop a.port i) 0 (· + 1)) (f.losses.del (lossKey hop a.port a.input))

theorem Fabric.lossesAfter_getD (f : Fabric) (hop : HopUnit) (a : FlitArb) (i : Nat) :
    (f.lossesAfter hop a).getD (lossKey hop a.port i) 0
      = (f.losses.del (lossKey hop a.port a.input)).getD (lossKey hop a.port i) 0 + a.losers.count i :=
  Tbl.getD_foldl_upd (lossKey hop a.port) (fun _ _ => lossKey_inj) _ _ _

/-- The input granted starts again from no loss. -/
theorem Fabric.lossesAfter_winner (f : Fabric) (hop : HopUnit) {a : FlitArb} (h : a.input ∉ a.losers) :
    (f.lossesAfter hop a).getD (lossKey hop a.port a.input) 0 = 0 := by
  rw [f.lossesAfter_getD, List.count_eq_zero.2 h]
  simp [Tbl.getD]

theorem Fabric.lossesAfter_loser (f : Fabric) (hop : HopUnit) {a : FlitArb} {i : Nat} (hi : i ∈ a.losers)
    (hinput : a.input ∉ a.losers) (hnd : a.losers.Nodup) :
    (f.lossesAfter hop a).getD (lossKey hop a.port i) 0 = f.losses.getD (lossKey hop a.port i) 0 + 1 := by
  have hne : i ≠ a.input := fun e => hinput (e ▸ hi)
  rw [f.lossesAfter_getD, hnd.count, if_pos hi, Tbl.getD, Tbl.get?_del_ne _ _ _ (fun e => hne (lossKey_inj e))]
  rfl

/-- An arbitration noted in the losses, before anything is counted. -/
def State.noteLosses (s : State) (hop : HopUnit) (a : FlitArb) : State :=
  { s with fabric := { s.fabric with losses := s.fabric.lossesAfter hop a } }

/-- After its losses, an arbitration only counts. -/
theorem State.arbitrate_counts (s : State) (hop : HopUnit) (a : FlitArb) :
    OnlyChanges [.regs] (s.noteLosses hop a) (s.arbitrate hop a) := by
  unfold State.arbitrate
  extract_lets won lost f s1 up s2 waits
  have h2 : OnlyChanges [.regs] s1 s2 := by
    simp only [s2]
    split
    · exact s1.bump_only _ _
    · exact .refl _ _
  split
  · exact h2.trans (s2.bump_only _ _)
  · exact h2.trans (s2.bump_only _ _)
  · exact h2

theorem State.arbitrate_only (s : State) (hop : HopUnit) (a : FlitArb) :
    OnlyChanges [.fabric, .regs] s (s.arbitrate hop a) :=
  ((s.setFabric_only _).mono (by simp)).then (s.arbitrate_counts hop a) (by simp)

theorem State.arbitrate_losses (s : State) (hop : HopUnit) (a : FlitArb) :
    (s.arbitrate hop a).fabric.losses = s.fabric.lossesAfter hop a := by
  rw [(s.arbitrate_counts hop a).fabric (by simp)]
  rfl

@[simp] theorem clusterIx_val (c : ClusterIx) : clusterIx c.val = c := Fin.ext (Nat.mod_eq_of_lt c.isLt)

@[simp] theorem dieIx_val (d : DieIx) : dieIx d.val = d := Fin.ext (Nat.mod_eq_of_lt d.isLt)

/-- A router counts the inputs that an arbitration promotes. -/
theorem State.arbitrate_router (s : State) (c : ClusterIx) (a : FlitArb) :
    s.arbitrate (.router c) a = (s.noteLosses (.router c) a).bump ((Blk.xbar c).at Reg.PROMOTIONS)
      (a.losers.filter (fun i => (s.fabric.lossesAfter (.router c) a).getD (lossKey (.router c) a.port i) 0 == 8)).length := by
  simp only [State.arbitrate, hopCluster, clusterIx_val]
  rfl

/-- The eighth loss in a row promotes, and is counted. -/
theorem State.arbitrate_promotes {s : State} {c : ClusterIx} {port input i : Nat} (hne : input ≠ i)
    (h : s.fabric.losses.getD (lossKey (.router c) port i) 0 = 7) :
    (s.arbitrate (.router c) ⟨port, input, [i]⟩).promotedAt (.router c) port i = true
      ∧ ((s.arbitrate (.router c) ⟨port, input, [i]⟩).reg ((Blk.xbar c).at Reg.PROMOTIONS)).toNat
        = min 0xFFFFFFFF ((s.reg ((Blk.xbar c).at Reg.PROMOTIONS)).toNat + 1) := by
  have hloss : (s.fabric.lossesAfter (.router c) ⟨port, input, [i]⟩).getD (lossKey (.router c) port i) 0 = 8 := by
    rw [s.fabric.lossesAfter_loser (.router c) (a := ⟨port, input, [i]⟩) (by simp) (by simpa using hne) (by simp), h]
  constructor
  · rw [State.promotedAt, State.arbitrate_losses, hloss]
    rfl
  · rw [State.arbitrate_router, State.reg_bump_self]
    simp only [List.filter_cons, hloss]
    rfl

/-! ### The check of a flit (R169, R332) -/

/-- A word that no error has changed reads as it is, and nothing is counted. -/
theorem State.checkFlit_clean (s : State) (hop : HopUnit) (data : Nat) : s.checkFlit hop data [] false = s := by
  cases hop <;> rfl

theorem State.checkFlit_link_corrected (s : State) (d : DieIx) (south : Bool) {data v : Nat} {errs : SymErrs}
    (h : eccRead data errs = (some v, true)) :
    s.checkFlit (.link d south) data errs false = s.bump ((Blk.dlink d south).at Reg.DL_CORRECTED) 1 := by
  simp [State.checkFlit, State.countCheck, h]

theorem State.checkFlit_link_uncorrectable (s : State) (d : DieIx) (south : Bool) {data : Nat} {errs : SymErrs} {bad : Bool}
    (h : bad = true ∨ (eccRead data errs).1 = none) :
    s.checkFlit (.link d south) data errs bad = s.bump ((Blk.dlink d south).at Reg.DL_UNCORRECTABLE) 1 := by
  have hbad : (bad || (eccRead data errs).1.isNone) = true := by simpa using h
  simp only [State.checkFlit, State.countCheck, hbad, if_true]

theorem State.checkFlit_router_corrected (s : State) (c : ClusterIx) {data v : Nat} {errs : SymErrs}
    (h : eccRead data errs = (some v, true)) :
    s.checkFlit (.router c) data errs false = s.bump ((Blk.xbar c).at Reg.CORRECTED) 1 := by
  simp [State.checkFlit, State.countCheck, h]

theorem exec_flitReceived (hop : HopUnit) (data : Nat) (errs : SymErrs) (bad : Bool) (arb : FlitArb) (s : State) :
    exec (.flitReceived hop data errs bad arb) s = .next ((s.arbitrate hop arb).checkFlit hop data errs bad) := rfl

/-! ### A hop of the control network (R184, R185) -/

/-- A message refused a number of times on a segment. -/
def State.nack (s : State) (k n : Nat) : State := { s with out := s.out ++ List.replicate n (.hopNack k) }

theorem State.nack_only (s : State) (k n : Nat) : OnlyChanges [.out] s (s.nack k n) := by
  intro p h
  cases p
  case out => simp at h
  all_goals rfl

/-- A refusal stays within the fabric, and no frame leaves for it. -/
theorem State.foldl_send_hopNack (s : State) (k n : Nat) :
    (List.range n).foldl (fun (s : State) _ => s.send (.hopNack k)) s = s.nack k n := by
  induction n with
  | zero => simp [State.nack]
  | succ n ih =>
    rw [List.range_succ, List.foldl_append, ih, State.nack, State.nack, List.replicate_succ', ← List.append_assoc]
    rfl

/-- The core that takes a message off the control network counts its refusals, and its delivery. -/
def State.countHop (s : State) (core : Option CoreIx) (n : Nat) : State :=
  match core with
  | some c =>
    let s1 := s.bumpHi (crtReg c.val Reg.CN_COUNTS) (min n 3)
    if n < 4 then s1.bumpLo (crtReg c.val Reg.CN_COUNTS) 1 else s1
  | none => s

theorem State.countHop_only (s : State) (core : Option CoreIx) (n : Nat) : OnlyChanges [.regs] s (s.countHop core n) := by
  unfold State.countHop
  split
  · dsimp only
    split
    · exact (s.bumpHi_only _ _).trans (State.bumpLo_only _ _ _)
    · exact s.bumpHi_only _ _
  · exact .refl _ _

theorem State.nack_countHop_only (s : State) (k : Nat) (core : Option CoreIx) (n : Nat) :
    OnlyChanges [.out, .regs] s ((s.nack k n).countHop core n) :=
  ((s.nack_only k n).mono (by simp)).then (State.countHop_only _ _ _) (by simp)

section
variable {s : State} {k data : Nat} {errs : List SymErrs} (hk : k < 36) (htrained : s.fabric.segTrained = true)
  (hup : s.fabric.segDown.get? k = none)
include hk htrained hup

/-- A message that passes with fewer than four failures leaves its segment in service. -/
theorem State.controlHop_passes (core : Option CoreIx) (hover : s.hubsOverrun (segmentDie k) = false)
    (hn : failedHops data (errs.take 4) < 4) : s.controlHop k core data errs
      = (s.nack k (failedHops data (errs.take 4))).countHop core (failedHops data (errs.take 4)) := by
  rw [State.controlHop, if_neg (by simp [hk, htrained, hup])]
  simp only [hover, Bool.false_eq_true, if_false, if_pos hn, State.foldl_send_hopNack]
  cases core with
  | none => rfl
  | some c => exact (if_pos hn).symm

/-- The fourth failure bypasses the segment. -/
theorem State.controlHop_bypasses (core : Option CoreIx)
    (hn : s.hubsOverrun (segmentDie k) = true ∨ failedHops data (errs.take 4) = 4) : s.controlHop k core data errs
      = { (s.nack k 4).countHop core 4 with fabric := { s.fabric with segDown := s.fabric.segDown.put k 0 } } := by
  have hfour : (if s.hubsOverrun (segmentDie k) then 4 else failedHops data (errs.take 4)) = 4 := by
    rcases hn with h | h <;> simp [h]
  have hfabric : ((s.nack k 4).countHop core 4).fabric = s.fabric := (s.nack_countHop_only k core 4).fabric (by simp)
  rw [State.controlHop, if_neg (by simp [hk, htrained, hup])]
  simp only [hfour, Nat.lt_irrefl, if_false, State.foldl_send_hopNack, ← hfabric]
  rfl

end

theorem exec_controlMessageHop (k : Nat) (core : Option CoreIx) (data : Nat) (errs : List SymErrs) (s : State) :
    exec (.controlMessageHop k core data errs) s = .next (s.controlHop k core data errs) := rfl

/-! ### Retraining a segment (R185) -/

/-- A retraining is tried: its time is kept, and it is counted. -/
def State.trySegment (s : State) (k : Nat) : State :=
  ({ s with fabric := { s.fabric with segTried := s.fabric.segTried.put k s.time.ns } } : State).bump
    (Blk.usher.at Reg.CN_RETRAINS) 1

theorem State.trySegment_only (s : State) (k : Nat) : OnlyChanges [.regs, .fabric] s (s.trySegment k) :=
  ((s.setFabric_only _).mono (by simp)).then (State.bump_only _ _ _) (by simp)

theorem State.trySegment_counted (s : State) (k : Nat) : ((s.trySegment k).reg (Blk.usher.at Reg.CN_RETRAINS)).toNat
    = min 0xFFFFFFFF ((s.reg (Blk.usher.at Reg.CN_RETRAINS)).toNat + 1) := State.reg_bump_self _ _ _

/-- A segment retrained awaits its return. -/
def State.awaitReturn (s : State) (k : Nat) : State :=
  { s with fabric := { s.fabric with segReturning := s.fabric.segReturning ++ [k] } }

/-- A segment's retrainings that have failed. -/
def State.failSegment (s : State) (k n : Nat) : State :=
  { s with fabric := { s.fabric with segDown := s.fabric.segDown.put k n } }

section
variable {s : State} {k n : Nat} (hdown : s.fabric.segDown.get? k = some n) (hn : n < 3)
  (hret : s.fabric.segReturning.contains k = false)
  (htried : ∀ x, s.fabric.segTried.get? k = some x → x + 1000000000 ≤ s.time.ns)
include hdown hn hret htried

/-- A segment that is bypassed, neither given up nor about to return, is retrained where the last try is a second old. -/
theorem State.retrainSegment_tries (ok : Bool) : s.retrainSegment k ok =
    if ok then
      if s.groups.any (fun p => p.2.ticking) then (s.trySegment k).awaitReturn k
      else ((s.trySegment k).awaitReturn k).returnSegments
    else if n + 1 = 3 then
      ((s.trySegment k).failSegment k (n + 1)).error sevError 0x0302 (segmentUnit k) none none k
    else (s.trySegment k).failSegment k (n + 1) := by
  unfold State.retrainSegment
  simp only [hdown]
  rw [if_neg]
  · rfl
  · rintro (hgiven | hback | hsoon)
    · omega
    · rw [hret] at hback
      cases hback
    · split at hsoon
      case h_1 x hx =>
        have hpast := htried x hx
        simp only [decide_eq_true_eq] at hsoon
        omega
      case h_2 => cases hsoon

end

theorem State.retrainSegment_tooSoon {s : State} {k x : Nat} (ok : Bool) (hx : s.fabric.segTried.get? k = some x)
    (hsoon : s.time.ns < x + 1000000000) : s.retrainSegment k ok = s := by
  unfold State.retrainSegment
  split
  · rfl
  · simp [hx, hsoon]

theorem State.retrainSegment_givenUp {s : State} {k : Nat} (ok : Bool) (hdown : s.fabric.segDown.get? k = some 3) :
    s.retrainSegment k ok = s := by
  simp [State.retrainSegment, hdown]

theorem State.awaitReturn_only (s : State) (k : Nat) : OnlyChanges [.regs, .fabric] s (s.awaitReturn k) :=
  (s.setFabric_only _).mono (by simp)

/-- A segment that awaits its return is in service once it returns. -/
theorem State.awaitReturn_returns (s : State) (k : Nat) : (s.awaitReturn k).returnSegments.fabric.segDown.get? k = none :=
  Tbl.get?_filter_of_false s.fabric.segDown (p := fun j => !(s.fabric.segReturning ++ [k]).contains j) (by simp)

theorem State.returnSegments_only (s : State) : OnlyChanges [.regs, .fabric] s s.returnSegments :=
  (s.setFabric_only _).mono (by simp)

theorem exec_cnSegmentRetrain (k : Nat) (ok : Bool) (s : State) :
    exec (.cnSegmentRetrain k ok) s = .next (s.retrainSegment k ok) := rfl

end Sys2Proof.Machine
end

section
/-!
SUPPORT. A core that is stopped (R191): what of the cores an operation keeps, the fence that takes effect, the transfers that
are owed and refused, and what a stop leaves.
-/

namespace Sys2Proof.Machine

open Sys2Proof

/-! ### What is kept of the cores -/

/-- Every core keeps what a function reads of it. -/
def KeepsCores {α : Type} (f : CoreState → α) (s t : State) : Prop := ∀ c, f (t.core c) = f (s.core c)

section
variable {α : Type} {f : CoreState → α} {s t u : State}

theorem KeepsCores.refl (s : State) : KeepsCores f s s := fun _ => rfl

theorem KeepsCores.trans (h : KeepsCores f s t) (k : KeepsCores f t u) : KeepsCores f s u := fun c => (k c).trans (h c)

theorem KeepsCores.of_only {ps : List Part} (h : OnlyChanges ps s t) (hp : Part.cores ∉ ps) : KeepsCores f s t :=
  fun c => congrArg f (h.core hp c)

theorem KeepsCores.fold {β : Type} {g : State → β → State} (h : ∀ s x, KeepsCores f s (g s x)) (l : List β) (s : State) :
    KeepsCores f s (l.foldl g s) := by
  induction l generalizing s with
  | nil => exact .refl s
  | cons x rest ih => exact (h s x).trans (ih _)

theorem State.updCore_keeps (s : State) (k : Nat) {g : CoreState → CoreState} (hg : ∀ x, f (g x) = f x) :
    KeepsCores f s (s.updCore k g) := by
  intro c
  by_cases h : c = k
  · rw [h, State.core_updCore_self, hg]
  · rw [State.core_updCore_ne _ _ h]

end

/-! ### The fence that takes effect (R345, R346) -/

/-- A relation that the operations of a binding keep, a fenced core's leaving the group keeps. -/
theorem State.takeOverCore_rel {R : State → State → Prop} (htrans : ∀ {s t u}, R s t → R t u → R s u)
    (hbind : ∀ t g reason, R t (State.needBind t g reason)) (hgrp : ∀ t g f, R t (State.updGrp t g f))
    (hcore : ∀ t k (f : CoreState → CoreState), (∀ x, ∃ l r, f x = { x with lcore := l, running := r }) →
      R t (State.updCore t k f))
    (hbump : ∀ t a n, R t (State.bump t a n)) (s : State) (g c : Nat) : R s (s.takeOverCore g c) := by
  have hlost (t : State) : R t (t.updCore c (fun k => { k with lcore := none, running := false })) :=
    hcore t c _ (fun _ => ⟨none, false, rfl⟩)
  have htake (t : State) (k l : Nat) : R t (t.updCore k (fun z => { z with lcore := some l })) :=
    hcore t k _ (fun x => ⟨some l, x.running, rfl⟩)
  unfold State.takeOverCore
  dsimp only
  split
  · split
    · exact htrans (htrans (hgrp s _ _) (hlost _)) (hbind _ _ _)
    · exact hgrp s _ _
  · split
    · split
      · exact hbind s _ _
      · exact htrans (htrans (htrans (hlost s) (hgrp _ _ _)) (htake _ _ _)) (hbump _ _ _)
    · exact hbind s _ _

theorem State.takeOverCore_only (s : State) (g c : Nat) :
    OnlyChanges [.cores, .groups, .usher, .regs] s (s.takeOverCore g c) :=
  State.takeOverCore_rel .trans (fun t g reason => (t.needBind_only g reason).mono (by simp))
    (fun t g f => (t.updGrp_only g f).mono (by simp)) (fun t k f _ => (t.updCore_only k f).mono (by simp))
    (fun t a n => (t.bump_only a n).mono (by simp)) s g c

/-- Every core keeps what is neither its binding nor whether it runs. -/
theorem State.takeOverCore_keeps {α : Type} {f : CoreState → α}
    (hf : ∀ (x : CoreState) l r, f { x with lcore := l, running := r } = f x) (s : State) (g c : Nat) :
    KeepsCores f s (s.takeOverCore g c) := by
  refine State.takeOverCore_rel .trans (fun t g reason => .of_only (t.needBind_only g reason) (by simp))
    (fun t g h => .of_only (t.updGrp_only g h) (by simp)) (fun t k h hh => t.updCore_keeps k (fun x => ?_))
    (fun t a n => .of_only (t.bump_only a n) (by simp)) s g c
  obtain ⟨l, r, hx⟩ := hh x
  rw [hx, hf]

/-- What a fence that takes effect can change at most. -/
abbrev fenceParts : List Part := [.cores, .groups, .usher, .arrays, .calOrder, .regs, .recorder, .nvm]

/-- A fence that takes effect shuts its core; what follows from it changes only parts that a fence may change, and leaves
every core what is neither its binding, nor whether it runs or is stopped. -/
theorem State.fenceNow_after_shut {s : State} {c : Nat} (hd : (s.core c).due ≠ 0) (hf : (s.core c).fenced = false) :
    OnlyChanges fenceParts (s.updCore c (fun _ => (s.core c).shut)) (s.fenceNow c)
      ∧ ∀ {α : Type} {f : CoreState → α},
        (∀ (x : CoreState) l r st, f { x with lcore := l, running := r, stopped := st } = f x) →
        KeepsCores f (s.updCore c (fun _ => (s.core c).shut)) (s.fenceNow c) := by
  unfold State.fenceNow
  extract_lets k mask runs s1 s2 s3 s4 s5
  have h4 : OnlyChanges [.arrays, .calOrder, .regs, .recorder, .nvm] s1 s4 := by
    have h2 : OnlyChanges [.arrays, .calOrder, .regs, .recorder, .nvm] s1 s2 :=
      (State.error_only _ _ _ _ _ _ _).mono (by simp)
    have h3 : OnlyChanges [.arrays, .calOrder, .regs, .recorder, .nvm] s2 s3 := by
      simp only [s3]
      split
      · exact .refl _ _
      · exact (State.bump_only _ _ _).mono (by simp)
    exact (h2.trans h3).then (OnlyChanges.fold State.abandonRun State.abandonRun_only runs s3) (by simp)
  have h5 : OnlyChanges fenceParts s1 s5 := by
    have h4' : OnlyChanges fenceParts s1 s4 := h4.mono (by simp)
    simp only [s5]
    split
    · exact h4'.then (s4.takeOverCore_only _ c) (by simp)
    · exact h4'
  rw [if_neg hd, if_neg (by simp [k, hf])]
  refine ⟨?_, fun {α f} hbind => ?_⟩
  · split
    · exact h5.then (State.updCore_only _ _ _) (by simp)
    · exact h5
  · have hkeep : KeepsCores f s1 s5 := by
      have h4' : KeepsCores f s1 s4 := .of_only h4 (by simp)
      simp only [s5]
      split
      · exact h4'.trans (s4.takeOverCore_keeps (fun x l r => hbind x l r x.stopped) _ c)
      · exact h4'
    split
    · exact hkeep.trans (s5.updCore_keeps c (fun x => hbind x x.lcore x.running false))
    · exact hkeep

theorem State.fenceNow_none {s : State} {c : Nat} (hd : (s.core c).due = 0) : s.fenceNow c = s := if_pos hd

/-- A fence due of a core that is fenced adds its causes. -/
theorem State.fenceNow_fenced {s : State} {c : Nat} (hd : (s.core c).due ≠ 0) (hf : (s.core c).fenced = true) :
    s.fenceNow c = s.updCore c (fun z => { z with
      causes := z.causes ||| z.due, due := 0, permanent := z.permanent || z.due.testBit 4 }) := by
  rw [State.fenceNow, if_neg hd]
  exact if_pos hf

theorem State.fenceNow_only (s : State) (c : Nat) : OnlyChanges fenceParts s (s.fenceNow c) := by
  by_cases hd : (s.core c).due = 0
  · rw [State.fenceNow_none hd]
    exact .refl _ _
  cases hf : (s.core c).fenced with
  | true =>
    rw [State.fenceNow_fenced hd hf]
    exact (s.updCore_only _ _).mono (by simp)
  | false =>
    obtain ⟨hparts, _⟩ := State.fenceNow_after_shut hd hf
    exact ((s.updCore_only _ _).mono (by simp)).trans hparts

/-- A fence of a core is due, or stands, for a cause. -/
def CoreState.fencedFor (k : CoreState) (cause : Nat) : Prop :=
  k.due.testBit cause = true ∨ (k.fenced = true ∧ k.causes.testBit cause = true)

theorem State.fence_fencedFor (s : State) (c cause : Nat) : ((s.fence c cause).core c).fencedFor cause := by
  rw [State.fence, State.core_updCore_self]
  split
  case isTrue hf => exact .inr ⟨hf, by simp [Nat.testBit_or, Nat.testBit_two_pow_self]⟩
  case isFalse => exact .inl (by simp [Nat.testBit_or, Nat.testBit_two_pow_self])

/-- A fence that takes effect keeps its causes, and its core passes through. -/
theorem State.fenceNow_fencedFor {s : State} {c cause : Nat} (h : (s.core c).fencedFor cause) :
    ((s.fenceNow c).core c).fencedFor cause := by
  by_cases hd : (s.core c).due = 0
  · rwa [State.fenceNow_none hd]
  have hbit : ((s.core c).causes ||| (s.core c).due).testBit cause = true := by
    rcases h with h | ⟨_, h⟩ <;> simp [Nat.testBit_or, h]
  cases hf : (s.core c).fenced with
  | true =>
    rw [State.fenceNow_fenced hd hf, State.core_updCore_self]
    exact .inr ⟨hf, hbit⟩
  | false =>
    obtain ⟨hcauses, hfenced, _⟩ := State.fenceNow_shuts hd hf c
    rw [State.core_updCore_self] at hcauses hfenced
    refine .inr ⟨hfenced, ?_⟩
    rw [hcauses]
    exact hbit

theorem State.fenceNow_passThrough {s : State} {c : Nat} (h : (s.core c).passThrough = true) :
    ((s.fenceNow c).core c).passThrough = true := by
  by_cases hd : (s.core c).due = 0
  · rwa [State.fenceNow_none hd]
  cases hf : (s.core c).fenced with
  | true =>
    rw [State.fenceNow_fenced hd hf, State.core_updCore_self]
    exact h
  | false =>
    obtain ⟨_, hkeep⟩ := State.fenceNow_after_shut hd hf
    rw [hkeep (f := CoreState.passThrough) (fun _ _ _ _ => rfl) c, State.core_updCore_self]
    rfl

theorem State.fenceNow_stageFault (s : State) (c : Nat) : KeepsCores CoreState.stageFault s (s.fenceNow c) := by
  by_cases hd : (s.core c).due = 0
  · rw [State.fenceNow_none hd]
    exact .refl s
  cases hf : (s.core c).fenced with
  | true =>
    rw [State.fenceNow_fenced hd hf]
    exact s.updCore_keeps c (fun _ => rfl)
  | false =>
    obtain ⟨_, hkeep⟩ := State.fenceNow_after_shut hd hf
    have hshut : KeepsCores CoreState.stageFault s (s.updCore c (fun _ => (s.core c).shut)) := by
      intro j
      by_cases hj : j = c
      · rw [hj, State.core_updCore_self]
        rfl
      · rw [State.core_updCore_ne _ _ hj]
    exact hshut.trans (hkeep (fun _ _ _ _ => rfl))

/-- Some group has boundaries, which fences and lost stacks wait for. -/
def State.anyTicking (s : State) : Bool := s.groups.any (fun p => p.2.ticking)

theorem State.fenceIdle_ticking {s : State} (c : Nat) (h : s.anyTicking = true) : s.fenceIdle c = s := if_pos h

theorem State.fenceIdle_idle {s : State} (c : Nat) (h : s.anyTicking = false) : s.fenceIdle c = s.fenceNow c :=
  if_neg (by simpa [State.anyTicking] using h)

theorem State.fenceIdle_only (s : State) (c : Nat) : OnlyChanges fenceParts s (s.fenceIdle c) := by
  cases h : s.anyTicking with
  | true => rw [State.fenceIdle_ticking c h]; exact .refl _ _
  | false => rw [State.fenceIdle_idle c h]; exact s.fenceNow_only c

theorem State.fenceIdle_stageFault (s : State) (c : Nat) : KeepsCores CoreState.stageFault s (s.fenceIdle c) := by
  cases h : s.anyTicking with
  | true => rw [State.fenceIdle_ticking c h]; exact .refl _
  | false => rw [State.fenceIdle_idle c h]; exact s.fenceNow_stageFault c

theorem State.fenceIdle_fencedFor {s : State} {c cause : Nat} (h : (s.core c).fencedFor cause) :
    ((s.fenceIdle c).core c).fencedFor cause := by
  cases ht : s.anyTicking with
  | true => rwa [State.fenceIdle_ticking c ht]
  | false => rw [State.fenceIdle_idle c ht]; exact State.fenceNow_fencedFor h

theorem State.fenceIdle_passThrough {s : State} {c : Nat} (h : (s.core c).passThrough = true) :
    ((s.fenceIdle c).core c).passThrough = true := by
  cases ht : s.anyTicking with
  | true => rwa [State.fenceIdle_ticking c ht]
  | false => rw [State.fenceIdle_idle c ht]; exact State.fenceNow_passThrough h

/-! ### Transfers of a stopped core (R191, R192) -/

/-- A core but for its memory. -/
def CoreState.dry (k : CoreState) : CoreState := { k with lmem := [] }

/-- What does not read the memory of a core is kept where all but that is. -/
theorem KeepsCores.of_dry {α : Type} {f : CoreState → α} {s t : State} (h : KeepsCores CoreState.dry s t)
    (hf : ∀ k : CoreState, f k.dry = f k) : KeepsCores f s t := by
  intro c
  rw [← hf, h c, hf]

theorem State.setBasin_only (s : State) (b : Tbl Byte) : OnlyChanges [.basin] s { s with basin := b } := by
  intro p h
  cases p
  case basin => simp at h
  all_goals rfl

theorem State.putMem_only (s : State) (u : MemUnit) (off : Nat) (bytes : List Byte) :
    OnlyChanges [.cores, .basin] s (s.putMem u off bytes) := by
  cases u with
  | core c => exact (s.updCore_only _ _).mono (by simp)
  | basin g c => exact (s.setBasin_only _).mono (by simp)

theorem State.putMem_dry (s : State) (u : MemUnit) (off : Nat) (bytes : List Byte) :
    KeepsCores CoreState.dry s (s.putMem u off bytes) := by
  cases u with
  | core c => exact s.updCore_keeps c.val (fun _ => rfl)
  | basin g c => exact .of_only (s.setBasin_only _) (by simp)

theorem State.degradeCore_only (s : State) (c : Nat) : OnlyChanges [.reqs] s (s.degradeCore c) := by
  unfold State.degradeCore
  split
  · exact s.degrade_only _
  · exact .refl _ _

theorem State.degradeMem_only (s : State) (u : MemUnit) : OnlyChanges [.reqs] s (s.degradeMem u) := by
  unfold State.degradeMem
  split
  · exact s.degrade_only _
  · exact .refl _ _

theorem State.dropTransfer_only (s : State) (src dst : MemUnit) (seq : Nat) :
    OnlyChanges [.fabric] s (s.dropTransfer src dst seq) := s.setFabric_only _

/-- What of a transfer that is owed comes after it is dropped. -/
theorem State.oweZeros_after_drop (s : State) (t : Transfer) :
    OnlyChanges [.cores, .basin, .reqs] (s.dropTransfer t.src t.dst t.seq) (s.oweZeros t) := by
  unfold State.oweZeros
  extract_lets s1
  split
  · exact .refl _ _
  · exact ((State.putMem_only _ _ _ _).mono (by simp)).then (State.degradeMem_only _ _) (by simp)

theorem State.oweZeros_only (s : State) (t : Transfer) :
    OnlyChanges [.fabric, .cores, .basin, .reqs] s (s.oweZeros t) :=
  ((s.dropTransfer_only _ _ _).mono (by simp)).then (s.oweZeros_after_drop t) (by simp)

theorem State.oweZeros_dry (s : State) (t : Transfer) : KeepsCores CoreState.dry s (s.oweZeros t) := by
  have hdrop : KeepsCores CoreState.dry s (s.dropTransfer t.src t.dst t.seq) := .of_only (s.dropTransfer_only _ _ _) (by simp)
  unfold State.oweZeros
  extract_lets s1
  split
  · exact hdrop
  · exact (hdrop.trans (State.putMem_dry _ _ _ _)).trans (.of_only (State.degradeMem_only _ _) (by simp))

/-- A transfer refused by the stopped core that it is for, at its router. -/
def State.refuseTransfer (s : State) (c : Nat) (t : Transfer) : State :=
  (s.dropTransfer t.src t.dst t.seq).bump (crtReg c Reg.FENCE_NACKS) 1

theorem State.refuseTransfer_only (s : State) (c : Nat) (t : Transfer) : OnlyChanges [.fabric, .regs] s (s.refuseTransfer c t) :=
  ((s.dropTransfer_only _ _ _).mono (by simp)).then (State.bump_only _ _ _) (by simp)

/-- A transfer dropped stands no more, and no transfer comes of it. -/
theorem State.mem_dropTransfer {s : State} {t x : Transfer} (h : x ∈ (s.dropTransfer t.src t.dst t.seq).fabric.transfers) :
    x ∈ s.fabric.transfers ∧ x ≠ t := by
  obtain ⟨hx, hne⟩ := List.mem_filter.1 h
  refine ⟨hx, fun e => ?_⟩
  subst e
  simp [Transfer.names] at hne

theorem State.mem_oweZeros {s : State} {t x : Transfer} (h : x ∈ (s.oweZeros t).fabric.transfers) :
    x ∈ s.fabric.transfers ∧ x ≠ t := by
  rw [(s.oweZeros_after_drop t).fabric (by simp)] at h
  exact State.mem_dropTransfer h

theorem State.mem_refuseTransfer {s : State} {c : Nat} {t x : Transfer} (h : x ∈ (s.refuseTransfer c t).fabric.transfers) :
    x ∈ s.fabric.transfers ∧ x ≠ t := State.mem_dropTransfer h

/-- Removing transfers one after another leaves none of them. -/
theorem mem_transfers_foldl {g : State → Transfer → State}
    (hg : ∀ {s : State} {t x : Transfer}, x ∈ (g s t).fabric.transfers → x ∈ s.fabric.transfers ∧ x ≠ t)
    (l : List Transfer) (s : State) {x : Transfer} (h : x ∈ (l.foldl g s).fabric.transfers) : x ∈ s.fabric.transfers ∧ x ∉ l := by
  induction l generalizing s with
  | nil => exact ⟨h, by simp⟩
  | cons t rest ih =>
    obtain ⟨hmem, hrest⟩ := ih (g s t) h
    obtain ⟨hs, hne⟩ := hg hmem
    exact ⟨hs, by simp [hne, hrest]⟩

/-- What a stopped core was to send is taken as zeros. -/
def State.oweAll (s : State) (c : Nat) : State :=
  (s.fabric.transfers.filter (fun t => memIsCore t.src c)).foldl State.oweZeros s

/-- What a stopped core was to receive is refused. -/
def State.refuseAll (s : State) (c : Nat) : State :=
  (s.fabric.transfers.filter (fun t => memIsCore t.dst c)).foldl (fun (s : State) t => s.refuseTransfer c t) s

theorem State.mem_oweAll {s : State} {c : Nat} {x : Transfer} (h : x ∈ (s.oweAll c).fabric.transfers) :
    x ∈ s.fabric.transfers ∧ memIsCore x.src c = false := by
  obtain ⟨hx, hout⟩ := mem_transfers_foldl (fun h => State.mem_oweZeros h) _ _ h
  exact ⟨hx, by simpa [hx] using hout⟩

theorem State.mem_refuseAll {s : State} {c : Nat} {x : Transfer} (h : x ∈ (s.refuseAll c).fabric.transfers) :
    x ∈ s.fabric.transfers ∧ memIsCore x.dst c = false := by
  obtain ⟨hx, hout⟩ := mem_transfers_foldl (fun h => State.mem_refuseTransfer h) _ _ h
  exact ⟨hx, by simpa [hx] using hout⟩

theorem ne_core_of_memIsCore {u : MemUnit} {c : CoreIx} (h : memIsCore u c.val = false) : u ≠ .core c := by
  rintro rfl
  simp [memIsCore] at h

/-! ### A stop (R191) -/

/-- A core halted: recorded, and to be fenced with cause 7 and a further one. -/
def State.halt (s : State) (c cause : Nat) : State :=
  (s.stopCore c ((s.core c).causes ||| (s.core c).due ||| 2 ^ 7 ||| 2 ^ cause)).fence c cause

/-- A stop up to its fence: the core is halted, and nothing is left between it and others. -/
def State.cease (s : State) (c cause : Nat) : State :=
  ((if (s.core c).lcore.isSome then (s.halt c cause).degradeCore c else s.halt c cause).oweAll c).refuseAll c

theorem State.haltCore_running {s : State} {c : Nat} (cause : Nat) (h : (s.core c).stopped = false) :
    s.haltCore c cause = (s.cease c cause).fenceIdle c := if_neg (by simp [h])

theorem State.haltCore_stopped {s : State} {c : Nat} (cause : Nat) (h : (s.core c).stopped = true) :
    s.haltCore c cause = (s.fence c cause).fenceIdle c := if_pos h

theorem State.fence_keeps {α : Type} {f : CoreState → α}
    (hf : ∀ (x : CoreState) d m, f { x with due := d, causes := m } = f x) (s : State) (c cause : Nat) :
    KeepsCores f s (s.fence c cause) := by
  refine s.updCore_keeps c (fun x => ?_)
  split
  · exact hf x x.due _
  · exact hf x _ x.causes

/-- A core whose units have halted, before that is recorded. -/
def State.haltUnits (s : State) (c : Nat) : State :=
  s.updCore c (fun k => { k with stopped := true, passThrough := true, running := false, walk := none })

theorem State.stopCore_stopped {s : State} {c : Nat} (causes : Nat) (h : (s.core c).stopped = true) :
    s.stopCore c causes = s := if_pos h

theorem State.stopCore_running {s : State} {c : Nat} (causes : Nat) (h : (s.core c).stopped = false) : s.stopCore c causes
    = ((s.haltUnits c).error sevError 0x0401 (unitCore c) ((s.haltUnits c).core c).group none causes).fence c 7 :=
  if_neg (by simp [h])

theorem State.stopCore_only (s : State) (c causes : Nat) :
    OnlyChanges [.cores, .recorder, .nvm, .regs] s (s.stopCore c causes) := by
  cases h : (s.core c).stopped with
  | true =>
    rw [State.stopCore_stopped causes h]
    exact .refl _ _
  | false =>
    have hunits : OnlyChanges [.cores, .recorder, .nvm, .regs] s (s.haltUnits c) := (s.updCore_only _ _).mono (by simp)
    rw [State.stopCore_running causes h]
    exact (hunits.then (State.error_only _ _ _ _ _ _ _) (by simp)).then (State.fence_only _ _ _) (by simp)

/-- Recording and fencing a core whose units have halted leaves what is no fence of it. -/
theorem State.stopCore_after_units {α : Type} {f : CoreState → α}
    (hf : ∀ (x : CoreState) d m, f { x with due := d, causes := m } = f x) {s : State} {c : Nat} (causes : Nat)
    (h : (s.core c).stopped = false) : KeepsCores f (s.haltUnits c) (s.stopCore c causes) := by
  rw [State.stopCore_running causes h]
  exact (KeepsCores.of_only (State.error_only _ _ _ _ _ _ _) (by simp)).trans (State.fence_keeps hf _ c 7)

theorem State.stopCore_stageFault (s : State) (c causes : Nat) : KeepsCores CoreState.stageFault s (s.stopCore c causes) := by
  cases h : (s.core c).stopped with
  | true =>
    rw [State.stopCore_stopped causes h]
    exact .refl s
  | false =>
    have hunits : KeepsCores CoreState.stageFault s (s.haltUnits c) := s.updCore_keeps c (fun _ => rfl)
    exact hunits.trans (State.stopCore_after_units (fun _ _ _ => rfl) causes h)

theorem State.halt_only (s : State) (c cause : Nat) : OnlyChanges [.cores, .recorder, .nvm, .regs] s (s.halt c cause) :=
  (s.stopCore_only _ _).then (State.fence_only _ _ _) (by simp)

theorem State.halt_stageFault (s : State) (c cause : Nat) : KeepsCores CoreState.stageFault s (s.halt c cause) :=
  (s.stopCore_stageFault c _).trans (State.fence_keeps (fun _ _ _ => rfl) _ c cause)

/-- A core that was not stopped is, and passes through. -/
theorem State.halt_stops {s : State} {c : Nat} (cause : Nat) (h : (s.core c).stopped = false) :
    ((s.halt c cause).core c).stopped = true ∧ ((s.halt c cause).core c).passThrough = true := by
  have hkeep {α : Type} {f : CoreState → α} (hf : ∀ (x : CoreState) d m, f { x with due := d, causes := m } = f x) :
      KeepsCores f (s.haltUnits c) (s.halt c cause) :=
    (State.stopCore_after_units hf _ h).trans (State.fence_keeps hf _ c cause)
  have hunits : (s.haltUnits c).core c
      = { s.core c with stopped := true, passThrough := true, running := false, walk := none } := s.core_updCore_self c _
  constructor
  · rw [hkeep (f := CoreState.stopped) (fun _ _ _ => rfl) c, hunits]
  · rw [hkeep (f := CoreState.passThrough) (fun _ _ _ => rfl) c, hunits]

theorem State.halt_fencedFor (s : State) (c cause : Nat) : ((s.halt c cause).core c).fencedFor cause :=
  State.fence_fencedFor _ c cause

/-- What a halted core owes and refuses changes of the cores their memories alone. -/
theorem State.cease_after_halt (s : State) (c cause : Nat) :
    OnlyChanges [.fabric, .cores, .basin, .reqs, .regs] (s.halt c cause) (s.cease c cause)
      ∧ KeepsCores CoreState.dry (s.halt c cause) (s.cease c cause) := by
  have hdegrade : OnlyChanges [.reqs] (s.halt c cause)
      (if (s.core c).lcore.isSome then (s.halt c cause).degradeCore c else s.halt c cause) := by
    split
    · exact State.degradeCore_only _ _
    · exact .refl _ _
  have howe (t : State) : OnlyChanges [.fabric, .cores, .basin, .reqs] t (t.oweAll c) := .fold _ State.oweZeros_only _ t
  have hrefuse (t : State) : OnlyChanges [.fabric, .regs] t (t.refuseAll c) := .fold _ (fun u x => u.refuseTransfer_only c x) _ t
  exact ⟨((hdegrade.mono (by simp)).then (howe _) (by simp)).then (hrefuse _) (by simp),
    ((KeepsCores.of_only hdegrade (by simp)).trans (.fold State.oweZeros_dry _ _)).trans (.of_only (hrefuse _) (by simp))⟩

theorem State.cease_only (s : State) (c cause : Nat) :
    OnlyChanges [.cores, .recorder, .nvm, .regs, .fabric, .basin, .reqs] s (s.cease c cause) := by
  obtain ⟨hparts, _⟩ := s.cease_after_halt c cause
  exact ((s.halt_only c cause).mono (by simp)).then hparts (by simp)

theorem State.cease_anyTicking (s : State) (c cause : Nat) : (s.cease c cause).anyTicking = s.anyTicking := by
  have h : (s.cease c cause).groups = s.groups := s.cease_only c cause .groups (by simp)
  rw [State.anyTicking, h]
  rfl

theorem State.cease_transfers {s : State} {c cause : Nat} {x : Transfer} (h : x ∈ (s.cease c cause).fabric.transfers) :
    memIsCore x.src c = false ∧ memIsCore x.dst c = false := by
  obtain ⟨hmem, hdst⟩ := State.mem_refuseAll h
  obtain ⟨_, hsrc⟩ := State.mem_oweAll hmem
  exact ⟨hsrc, hdst⟩

/-- A core that is stopped passes through, is to be fenced or is, and has no transfer left; while boundaries come it stays
stopped. -/
theorem State.haltCore_stops {s : State} {c : Nat} (cause : Nat) (h : (s.core c).stopped = false) :
    ((s.haltCore c cause).core c).passThrough = true
      ∧ (s.anyTicking = true → ((s.haltCore c cause).core c).stopped = true)
      ∧ ((s.haltCore c cause).core c).fencedFor cause
      ∧ ∀ x ∈ (s.haltCore c cause).fabric.transfers, memIsCore x.src c = false ∧ memIsCore x.dst c = false := by
  obtain ⟨_, hdry⟩ := s.cease_after_halt c cause
  obtain ⟨hstop, hpass⟩ := State.halt_stops cause h
  have hceased : ((s.cease c cause).core c).stopped = true := (hdry.of_dry (f := CoreState.stopped) (fun _ => rfl) c).trans hstop
  have hthrough : ((s.cease c cause).core c).passThrough = true :=
    (hdry.of_dry (f := CoreState.passThrough) (fun _ => rfl) c).trans hpass
  have hfence : ((s.cease c cause).core c).fencedFor cause :=
    (hdry.of_dry (f := fun k => k.fencedFor cause) (fun _ => rfl) c).mpr (s.halt_fencedFor c cause)
  rw [State.haltCore_running cause h]
  refine ⟨State.fenceIdle_passThrough hthrough, fun ht => ?_, State.fenceIdle_fencedFor hfence, fun x hx => ?_⟩
  · rwa [State.fenceIdle_ticking c ((s.cease_anyTicking c cause).trans ht)]
  · rw [(State.fenceIdle_only _ c).fabric (by simp)] at hx
    exact State.cease_transfers hx

/-- While boundaries come, a core that is stopped, or was, stays so. -/
theorem State.haltCore_ticking {s : State} (c cause : Nat) (ht : s.anyTicking = true) :
    ((s.haltCore c cause).core c).stopped = true := by
  cases h : (s.core c).stopped with
  | true =>
    have hfence : (s.fence c cause).anyTicking = true := ht
    rw [State.haltCore_stopped cause h, State.fenceIdle_ticking c hfence]
    exact (State.fence_keeps (f := CoreState.stopped) (fun _ _ _ => rfl) s c cause c).trans h
  | false =>
    obtain ⟨_, hstop, _⟩ := State.haltCore_stops cause h
    exact hstop ht

end Sys2Proof.Machine
end

section
/-!
SUPPORT. Faults of the fabric and what repairs them (R190, R193, R194, R297, Table 7-6): a fault noted stands through
everything that follows from it, and what the Usher's results and a link's retraining leave.
-/

namespace Sys2Proof.Machine

open Sys2Proof

/-! ### Faults that stand -/

/-- The faults noted of routers, stages and mesh links stand, and no die link is in service that was not. -/
structure FaultsStand (s t : State) : Prop where
  stages : KeepsCores CoreState.stageFault s t
  onStandby : t.fabric.onStandby = s.fabric.onStandby
  stageDead : t.fabric.stageDead = s.fabric.stageDead
  meshDown : t.fabric.meshDown = s.fabric.meshDown
  routerDown : t.fabric.routerDown = s.fabric.routerDown
  links : ∀ i, s.fabric.linkUp.testBit i = false → t.fabric.linkUp.testBit i = false

theorem FaultsStand.refl (s : State) : FaultsStand s s := ⟨.refl s, rfl, rfl, rfl, rfl, fun _ h => h⟩

theorem FaultsStand.trans {s t u : State} (h : FaultsStand s t) (k : FaultsStand t u) : FaultsStand s u where
  stages := h.stages.trans k.stages
  onStandby := k.onStandby.trans h.onStandby
  stageDead := k.stageDead.trans h.stageDead
  meshDown := k.meshDown.trans h.meshDown
  routerDown := k.routerDown.trans h.routerDown
  links i hi := k.links i (h.links i hi)

theorem FaultsStand.fold {β : Type} {g : State → β → State} (h : ∀ s x, FaultsStand s (g s x)) (l : List β) (s : State) :
    FaultsStand s (l.foldl g s) := by
  induction l generalizing s with
  | nil => exact .refl s
  | cons x rest ih => exact (h s x).trans (ih _)

/-- What leaves the fabric as it is, and every core's stage fault, lets the faults stand. -/
theorem FaultsStand.of_stages {ps : List Part} {s t : State} (h : OnlyChanges ps s t) (hp : Part.fabric ∉ ps)
    (hs : KeepsCores CoreState.stageFault s t) : FaultsStand s t := by
  have hf := h.fabric hp
  exact ⟨hs, by rw [hf], by rw [hf], by rw [hf], by rw [hf], fun i hi => by rwa [hf]⟩

theorem FaultsStand.of_only {ps : List Part} {s t : State} (h : OnlyChanges ps s t) (hp : Part.fabric ∉ ps)
    (hc : Part.cores ∉ ps) : FaultsStand s t := .of_stages h hp (.of_only h hc)

/-- A change of the fabric in other than its faults lets them stand. -/
theorem FaultsStand.of_fabric (s : State) {f : Fabric} (hstandby : f.onStandby = s.fabric.onStandby)
    (hdead : f.stageDead = s.fabric.stageDead) (hmesh : f.meshDown = s.fabric.meshDown)
    (hrouter : f.routerDown = s.fabric.routerDown)
    (hlinks : ∀ i, s.fabric.linkUp.testBit i = false → f.linkUp.testBit i = false) : FaultsStand s { s with fabric := f } :=
  ⟨.of_only (s.setFabric_only f) (by simp), hstandby, hdead, hmesh, hrouter, hlinks⟩

/-! ### Through a stop -/

theorem State.fenceIdle_stand (s : State) (c : Nat) : FaultsStand s (s.fenceIdle c) :=
  .of_stages (s.fenceIdle_only c) (by simp) (s.fenceIdle_stageFault c)

theorem State.halt_stand (s : State) (c cause : Nat) : FaultsStand s (s.halt c cause) :=
  .of_stages (s.halt_only c cause) (by simp) (s.halt_stageFault c cause)

theorem State.fence_stand (s : State) (c cause : Nat) : FaultsStand s (s.fence c cause) :=
  .of_stages (s.fence_only c cause) (by simp) (State.fence_keeps (fun _ _ _ => rfl) s c cause)

theorem State.dropTransfer_stand (s : State) (src dst : MemUnit) (seq : Nat) :
    FaultsStand s (s.dropTransfer src dst seq) := .of_fabric s rfl rfl rfl rfl (fun _ h => h)

theorem State.oweZeros_stand (s : State) (t : Transfer) : FaultsStand s (s.oweZeros t) := by
  have hstage : KeepsCores CoreState.stageFault (s.dropTransfer t.src t.dst t.seq) (s.oweZeros t) :=
    fun c => (s.oweZeros_dry t).of_dry (f := CoreState.stageFault) (fun _ => rfl) c
  exact (s.dropTransfer_stand _ _ _).trans (.of_stages (s.oweZeros_after_drop t) (by simp) hstage)

theorem State.refuseTransfer_stand (s : State) (c : Nat) (t : Transfer) : FaultsStand s (s.refuseTransfer c t) :=
  (s.dropTransfer_stand _ _ _).trans (.of_only (State.bump_only _ _ _) (by simp) (by simp))

theorem State.cease_stand (s : State) (c cause : Nat) : FaultsStand s (s.cease c cause) := by
  have hdegrade : FaultsStand s (if (s.core c).lcore.isSome then (s.halt c cause).degradeCore c else s.halt c cause) := by
    split
    · exact (s.halt_stand c cause).trans (.of_only (State.degradeCore_only _ _) (by simp) (by simp))
    · exact s.halt_stand c cause
  exact (hdegrade.trans (.fold State.oweZeros_stand _ _)).trans (.fold (fun u x => u.refuseTransfer_stand c x) _ _)

theorem State.haltCore_stand (s : State) (c cause : Nat) : FaultsStand s (s.haltCore c cause) := by
  cases h : (s.core c).stopped with
  | true =>
    rw [State.haltCore_stopped cause h]
    exact (s.fence_stand c cause).trans (State.fenceIdle_stand _ c)
  | false =>
    rw [State.haltCore_running cause h]
    exact (s.cease_stand c cause).trans (State.fenceIdle_stand _ c)

/-! ### A stack lost (Table 7-6) -/

theorem State.failLost_only (s : State) : OnlyChanges [.fabric, .stackTbl] s s.failLost := by
  have hmark := OnlyChanges.fold (fun (s : State) k => s.updStack k (fun x => { x with failed := true, inService := false }))
    (fun u k => u.updStack_only k _) s.fabric.lostStacks s
  exact (hmark.mono (by simp)).then (State.setFabric_only _ _) (by simp)

/-- Every stack lost is marked failed, and out of service. -/
theorem State.failLost_fails (s : State) : ∀ k ∈ s.fabric.lostStacks,
    (s.failLost.stack k).failed = true ∧ (s.failLost.stack k).inService = false := by
  refine foldl_establishes (fun (u : State) k => (u.stack k).failed = true ∧ (u.stack k).inService = false) _
    (fun u k => ?_) (fun u k j hj h => ?_) s.fabric.lostStacks s
  · simp
  · simpa only [u.stack_updStack_ne _ hj] using h

theorem State.failLost_stand (s : State) : FaultsStand s s.failLost := by
  have hmark : FaultsStand s (s.fabric.lostStacks.foldl (fun (s : State) k =>
      s.updStack k (fun x => { x with failed := true, inService := false })) s) :=
    .fold (fun u k => .of_only (u.updStack_only k _) (by simp) (by simp)) _ s
  exact hmark.trans (.of_fabric _ rfl rfl rfl rfl (fun _ h => h))

/-- A stack noted as lost. -/
def State.noteLost (s : State) (k : Nat) : State :=
  { s with fabric := { s.fabric with lostStacks := s.fabric.lostStacks ++ [k] } }

theorem State.loseStack_eq {s : State} {k : Nat} (hfailed : (s.stack k).failed = false)
    (hlost : s.fabric.lostStacks.contains k = false) :
    s.loseStack k = if s.groups.any (fun p => p.2.ticking) then s.noteLost k else (s.noteLost k).failLost :=
  if_neg (by rw [hfailed, hlost]; simp)

theorem State.loseStack_stand (s : State) (k : Nat) : FaultsStand s (s.loseStack k) := by
  have hnote : FaultsStand s (s.noteLost k) := .of_fabric s rfl rfl rfl rfl (fun _ h => h)
  unfold State.loseStack
  split
  · exact .refl s
  · dsimp only
    split
    · exact hnote
    · exact hnote.trans (State.failLost_stand _)

/-! ### What a fault cuts off (R194, R316) -/

theorem State.cutOff_stand (s : State) (c : Nat) : FaultsStand s (s.cutOff c) := by
  have hstop : FaultsStand s (((List.range 18).map (· + 18 * c)).foldl (fun (s : State) k =>
      if (s.core k).fenced && (s.core k).causes.testBit 10 then s else s.haltCore k 10) s) := by
    refine .fold (fun u k => ?_) _ s
    split
    · exact .refl u
    · exact u.haltCore_stand k 10
  exact hstop.trans (.fold State.loseStack_stand _ _)

theorem State.isolate_stand (s : State) : FaultsStand s s.isolate := by
  unfold State.isolate
  split
  · exact .refl s
  · exact .fold State.cutOff_stand _ s

theorem State.needBindAll_only (s : State) (reason : Nat) : OnlyChanges [.groups, .usher] s (s.needBindAll reason) := by
  have hstep (u : State) (p : Nat × Group) : OnlyChanges [.groups, .usher] u (u.needBind p.1 reason) :=
    u.needBind_only p.1 reason
  exact .fold _ hstep _ s

theorem State.fabricChanged_stand (s : State) : FaultsStand s s.fabricChanged :=
  s.isolate_stand.trans (.of_only (State.needBindAll_only _ 3) (by simp) (by simp))

/-! ### Die links -/

theorem maskOf_succ (n : Nat) (p : Nat → Bool) : maskOf (n + 1) p = maskOf n p + if p n then 2 ^ n else 0 := by
  rw [maskOf, List.range_succ, List.foldl_append]
  rfl

theorem maskOf_lt (n : Nat) (p : Nat → Bool) : maskOf n p < 2 ^ n := by
  induction n with
  | zero => exact Nat.zero_lt_one
  | succ n ih =>
    rw [maskOf_succ, Nat.pow_succ]
    split <;> omega

/-- A mask holds the indices below its bound that a test accepts. -/
theorem testBit_maskOf (n : Nat) (p : Nat → Bool) (i : Nat) : (maskOf n p).testBit i = (decide (i < n) && p i) := by
  induction n with
  | zero => simp [maskOf]
  | succ n ih =>
    have hlt := maskOf_lt n p
    have hsum : maskOf (n + 1) p = 2 ^ n * (if p n then 1 else 0) + maskOf n p := by
      rw [maskOf_succ]
      split <;> omega
    rw [hsum, Nat.testBit_two_pow_mul_add _ hlt, ih]
    obtain hi | rfl | hi := Nat.lt_trichotomy i n
    · simp [hi, Nat.lt_succ_of_lt hi]
    · cases p i <;> simp
    · obtain ⟨d, rfl⟩ := Nat.exists_eq_add_of_lt hi
      have hover : n + d + 1 - n = d + 1 := by omega
      have hout : ¬ n + d + 1 < n + 1 := by omega
      rw [if_neg (by omega), hover, decide_eq_false hout]
      split <;> simp [Nat.testBit_succ]

theorem State.loseLink_testBit (s : State) (d : Nat) (south : Bool) (i : Nat)
    (h : s.fabric.linkUp.testBit i = false ∨ i = linkKey d south) : (s.loseLink d south).fabric.linkUp.testBit i = false := by
  simp only [State.loseLink, testBit_maskOf]
  rcases h with h | h <;> simp [h]

theorem State.loseLink_stand (s : State) (d : Nat) (south : Bool) : FaultsStand s (s.loseLink d south) :=
  .of_fabric s rfl rfl rfl rfl (fun i hi => s.loseLink_testBit d south i (.inl hi))

theorem Fabric.linkWorks_of_down {f : Fabric} {d : Nat} {south : Bool} (h : f.linkUp.testBit (linkKey d south) = false) :
    f.linkWorks d south = false := by
  simp [Fabric.linkWorks, h]

/-! ### Safe state (R302, Table 11-5) -/

theorem Tbl.get?_mapValues {α β : Type} (t : Tbl α) (f : α → β) (k : Nat) :
    Tbl.get? (t.map (fun p => (p.1, f p.2))) k = (t.get? k).map f := by
  induction t with
  | nil => rfl
  | cons p rest ih =>
    obtain ⟨j, v⟩ := p
    by_cases h : j = k
    · simp [Tbl.get?, h]
    · simpa [Tbl.get?, h] using ih

/-- A change made of every core that is held lets every core keep what the change leaves. -/
theorem KeepsCores.of_mapped {α : Type} {f : CoreState → α} {g : CoreState → CoreState} {s t : State}
    (h : t.cores = s.cores.map (fun p => (p.1, g p.2))) (hg : ∀ x, f (g x) = f x) : KeepsCores f s t := by
  intro c
  rw [State.core, State.core, h, Tbl.getD, Tbl.getD, Tbl.get?_mapValues]
  cases s.cores.get? c with
  | none => rfl
  | some x => exact hg x

theorem State.setPort_only (s : State) (x : Port) : OnlyChanges [.port] s { s with port := x } := by
  intro p h
  cases p
  case port => simp at h
  all_goals rfl

/-- The port without its link, before that is counted. -/
def State.linkDropped (s : State) : State :=
  { s with port := { s.port with linkUp := false, fecLock := false, anDone := false, macsecUp := false, disc := 1 } }

theorem State.portLost_after (s : State) : OnlyChanges [.regs] s.linkDropped s.portLost := by
  unfold State.portLost
  extract_lets x s1
  split
  · exact (s1.bump_only _ _).trans (State.setCause_only _ _)
  · exact .refl _ _

/-- The state that safe state is recorded from: clocks, ticks, stacks and die links as it leaves them. -/
def State.shutDown (s : State) : State := { s with
  clocks := { s.clocks with
    safe := true
    allGated := true
    doms := (List.range 40).map (fun k => (k, { s.dom k with mhz := s.safeMhz k, onSafe := true, pending := false })) }
  groups := s.groups.map (fun (p : Nat × Group) => (p.1, { p.2 with running := false, overrun := false }))
  cores := s.cores.map (fun (p : Nat × CoreState) => (p.1, { p.2 with running := false, walk := none }))
  stackTbl := (List.range 12).map (fun k => (k, { s.stack k with selfRefresh := true, inService := false }))
  fabric := { s.fabric with linkUp := 0 } }

theorem State.shutDown_stand (s : State) : FaultsStand s s.shutDown where
  stages := .of_mapped (g := fun k => { k with running := false, walk := none }) rfl (fun _ => rfl)
  onStandby := rfl
  stageDead := rfl
  meshDown := rfl
  routerDown := rfl
  links i _ := Nat.zero_testBit i

theorem State.enterSafe_again {s : State} (clockFault : Bool) (unit : Nat) (payload : List Byte) (h : s.clocks.safe = true) :
    s.enterSafe clockFault unit payload = s.note sevFatal "safe state" unit payload := if_pos h

/-- Entering safe state only counts and records, once the block is shut down and its link is down. -/
theorem State.enterSafe_after {s : State} (clockFault : Bool) (unit : Nat) (payload : List Byte)
    (h : s.clocks.safe = false) :
    OnlyChanges [.recorder, .nvm, .regs] s.shutDown.linkDropped (s.enterSafe clockFault unit payload) := by
  have hsafe : s.enterSafe clockFault unit payload
      = ((if clockFault then (s.shutDown.portLost.setCause causeSafe).setCause causeClockLoss
        else s.shutDown.portLost.setCause causeSafe).note sevFatal "safe state" unit payload) := if_neg (by simp [h])
  have hcause : OnlyChanges [.regs] s.shutDown.linkDropped (s.shutDown.portLost.setCause causeSafe) :=
    s.shutDown.portLost_after.trans (State.setCause_only _ _)
  rw [hsafe]
  refine OnlyChanges.then (ps := [.recorder, .nvm, .regs]) ?_ (State.note_only _ _ _ _ _) (by simp)
  split
  · exact (hcause.trans (State.setCause_only _ _)).mono (by simp)
  · exact hcause.mono (by simp)

theorem State.abandonWhere_only (s : State) (p : Nat → Bool) : OnlyChanges [.arrays, .regs, .calOrder] s (s.abandonWhere p) :=
  .fold State.abandonRun State.abandonRun_only _ s

theorem State.goSafe_after {s : State} (clockFault : Bool) (unit : Nat) (payload : List Byte) (h : s.clocks.safe = false) :
    OnlyChanges [.recorder, .nvm, .regs, .arrays, .calOrder] s.shutDown.linkDropped (s.goSafe clockFault unit payload) :=
  ((State.enterSafe_after clockFault unit payload h).mono (by simp)).then (State.abandonWhere_only _ _) (by simp)

theorem State.goSafe_stand (s : State) (clockFault : Bool) (unit : Nat) (payload : List Byte) :
    FaultsStand s (s.goSafe clockFault unit payload) := by
  cases h : s.clocks.safe with
  | true =>
    have hnote : FaultsStand s (s.enterSafe clockFault unit payload) := by
      rw [State.enterSafe_again clockFault unit payload h]
      exact .of_only (s.note_only _ _ _ _) (by simp) (by simp)
    exact hnote.trans (.of_only (State.abandonWhere_only _ _) (by simp) (by simp))
  | false =>
    have hport : FaultsStand s.shutDown s.shutDown.linkDropped := .of_only (State.setPort_only _ _) (by simp) (by simp)
    exact (s.shutDown_stand.trans hport).trans (.of_only (State.goSafe_after clockFault unit payload h) (by simp) (by simp))

/-- The block in safe state has no link to its host. -/
theorem State.goSafe_down {s : State} (clockFault : Bool) (unit : Nat) (payload : List Byte) (h : s.clocks.safe = false) :
    (s.goSafe clockFault unit payload).clocks.safe = true ∧ (s.goSafe clockFault unit payload).port.linkUp = false := by
  have hafter := State.goSafe_after clockFault unit payload h
  have hclocks : (s.goSafe clockFault unit payload).clocks = s.shutDown.clocks := hafter .clocks (by simp)
  have hport : (s.goSafe clockFault unit payload).port = s.shutDown.linkDropped.port := hafter .port (by simp)
  exact ⟨congrArg Clocks.safe hclocks, congrArg Port.linkUp hport⟩

/-! ### A router port or a router lost (Table 7-6) -/

/-- A mesh link noted as out of service. -/
def State.noteMeshDown (s : State) (key : Nat) : State :=
  { s with fabric := { s.fabric with meshDown := (s.fabric.meshDown ++ [key]).eraseDups } }

theorem State.losePort_mesh {s : State} {c dir : Nat} (h : portKind c dir = 1) :
    s.losePort c dir = (s.noteMeshDown (dirKey c dir)).fabricChanged := by
  simp only [State.losePort, h]
  rfl

theorem State.losePort_meshDown (s : State) {c dir : Nat} (h : portKind c dir = 1) :
    dirKey c dir ∈ (s.losePort c dir).fabric.meshDown := by
  rw [State.losePort_mesh h, (State.fabricChanged_stand _).meshDown]
  simp [State.noteMeshDown]

/-- Whatever a port led to, its loss leaves dead stages dead, and the stage faults of cores. -/
theorem State.losePort_stages (s : State) (c dir : Nat) : (s.losePort c dir).fabric.stageDead = s.fabric.stageDead
    ∧ KeepsCores CoreState.stageFault s (s.losePort c dir) := by
  have hstand {t : State} (h : FaultsStand s t) :
      t.fabric.stageDead = s.fabric.stageDead ∧ KeepsCores CoreState.stageFault s t := ⟨h.stageDead, h.stages⟩
  by_cases hmesh : portKind c dir = 1
  · have hafter := (s.noteMeshDown (dirKey c dir)).fabricChanged_stand
    have hnote : KeepsCores CoreState.stageFault s (s.noteMeshDown (dirKey c dir)) := .of_only (s.setFabric_only _) (by simp)
    rw [State.losePort_mesh hmesh]
    exact ⟨hafter.stageDead, hnote.trans hafter.stages⟩
  · unfold State.losePort
    split
    · contradiction
    · exact hstand (.fold State.loseStack_stand _ s)
    · exact hstand ((s.loseLink_stand _ _).trans (State.fabricChanged_stand _))
    · exact hstand (s.goSafe_stand _ _ _)
    · exact hstand (s.goSafe_stand _ _ _)
    · exact hstand (.refl s)

/-- A router noted as failed. -/
def State.noteRouterDown (s : State) (c : Nat) : State :=
  { s with fabric := { s.fabric with routerDown := (s.fabric.routerDown ++ [c]).eraseDups } }

theorem State.loseRouter_stand (s : State) (c : Nat) : FaultsStand (s.noteRouterDown c) (s.loseRouter c) := by
  unfold State.loseRouter
  extract_lets f s1 s2 s3
  have h2 : FaultsStand s1 s2 := by
    simp only [s2]
    split
    · exact s1.loseLink_stand _ _
    split
    · exact s1.loseLink_stand _ _
    · exact .refl s1
  have h3 : FaultsStand s1 s3 := h2.trans (s2.cutOff_stand c)
  split
  · exact h3.trans (s3.goSafe_stand _ _ _)
  · exact h3.trans s3.fabricChanged_stand

theorem State.loseRouter_routerDown (s : State) (c : Nat) : c ∈ (s.loseRouter c).fabric.routerDown := by
  rw [(s.loseRouter_stand c).routerDown]
  simp [State.noteRouterDown]

/-! ### STAGE_FAILOVER (R193) -/

/-- A core whose stage has failed. -/
def State.markStage (s : State) (k : Nat) : State := s.updCore k (fun x => { x with stageFault := true })

/-- A stage moved to its standby core. -/
def State.moveStage (s : State) (k key : Nat) : State :=
  { s.markStage k with fabric := { s.fabric with onStandby := s.fabric.onStandby ++ [key] } }

/-- A stage whose standby core has failed too. -/
def State.killStage (s : State) (k key : Nat) : State :=
  { s.markStage k with fabric := { s.fabric with stageDead := s.fabric.stageDead ++ [key] } }

section
variable {s : State} {c dir : Nat} (hlo : 1 ≤ dir) (hhi : dir ≤ 4) (hport : portKind c dir ≠ 0)
  (hdead : s.fabric.stageDead.contains (dirKey c dir) = false)
include hlo hhi hport hdead

theorem State.failStage_first (hstandby : s.fabric.onStandby.contains (dirKey c dir) = false) : s.failStage c dir
    = (s.moveStage (18 * c + (stageCores dir).1) (dirKey c dir)).haltCore (18 * c + (stageCores dir).1) 7 := by
  unfold State.failStage
  rw [if_neg (by rw [hdead]; simp only [Bool.false_eq_true, or_false]; omega)]
  simp only [hstandby, Bool.not_false, if_true]
  rfl

theorem State.failStage_second (hstandby : s.fabric.onStandby.contains (dirKey c dir) = true) : s.failStage c dir
    = ((s.killStage (18 * c + (stageCores dir).2) (dirKey c dir)).haltCore (18 * c + (stageCores dir).2) 7).losePort c dir := by
  unfold State.failStage
  rw [if_neg (by rw [hdead]; simp only [Bool.false_eq_true, or_false]; omega)]
  simp only [hstandby, Bool.not_true, Bool.false_eq_true, if_false]
  rfl

end

@[simp] theorem State.core_moveStage (s : State) (k key : Nat) :
    (s.moveStage k key).core k = { s.core k with stageFault := true } :=
  s.core_updCore_self k (fun x => { x with stageFault := true })

@[simp] theorem State.core_killStage (s : State) (k key : Nat) :
    (s.killStage k key).core k = { s.core k with stageFault := true } :=
  s.core_updCore_self k (fun x => { x with stageFault := true })

/-- A stage that moves stands on its standby core, its first core stopped, and nothing else is out of service. -/
theorem State.moveStage_haltCore (s : State) (k key : Nat) {t : State} (ht : (s.moveStage k key).haltCore k 7 = t) :
    key ∈ t.fabric.onStandby ∧ t.fabric.stageDead = s.fabric.stageDead ∧ t.fabric.meshDown = s.fabric.meshDown
      ∧ (t.core k).stageFault = true ∧ (s.anyTicking = true → (t.core k).stopped = true) := by
  subst ht
  have hstand := (s.moveStage k key).haltCore_stand k 7
  refine ⟨?_, hstand.stageDead, hstand.meshDown, ?_, fun h => State.haltCore_ticking k 7 h⟩
  · rw [hstand.onStandby]
    simp [State.moveStage]
  · rw [hstand.stages k, State.core_moveStage]

/-- A stage without a core left is dead, whatever its port led to. -/
theorem State.killStage_losePort (s : State) (k key c dir : Nat) {t : State}
    (ht : ((s.killStage k key).haltCore k 7).losePort c dir = t) :
    key ∈ t.fabric.stageDead ∧ (t.core k).stageFault = true := by
  subst ht
  have hstand := (s.killStage k key).haltCore_stand k 7
  obtain ⟨hdead, hstages⟩ := ((s.killStage k key).haltCore k 7).losePort_stages c dir
  constructor
  · rw [hdead, hstand.stageDead]
    simp [State.killStage]
  · rw [hstages k, hstand.stages k, State.core_killStage]

/-! ### USHER_COMPUTE_DONE (R190) -/

/-- What the computation for a group has come to: its staged plan's bindings, or a binding that waits for a boundary. -/
def State.deliverBinding (s : State) (reason g : Nat) : State :=
  if reason = 0 then
    s.updGrp g (fun x => { x with staged := x.staged.map (fun st => { st with computed := decide (st.phase = .verified) }) })
  else { s with usher := { s.usher with ready := s.usher.ready ++ [(reason, g)] } }

theorem State.computeDone_eq {s : State} {r g : Nat} (n : Nat) (h : s.usher.computing = some (r, g)) : s.computeDone n
    = ({ s.deliverBinding r g with usher := { (s.deliverBinding r g).usher with
        computing := none, lastMicros := n, lastGroup := g, lastReason := r } } : State).startCompute := by
  unfold State.computeDone
  split
  case h_1 hnone => rw [h] at hnone; cases hnone
  case h_2 r' g' hsome => rw [h] at hsome; cases hsome; rfl

theorem State.computeDone_idle {s : State} (n : Nat) (h : s.usher.computing = none) : s.computeDone n = s := by
  simp only [State.computeDone, h]

/-- The next computation is started, and nothing else of the Usher changes. -/
theorem State.startCompute_usher (s : State) :
    s.startCompute.usher = { s.usher with computing := s.startCompute.usher.computing } := by
  unfold State.startCompute
  split
  · rfl
  · dsimp only
    split <;> rfl

theorem State.deliverBinding_only (s : State) (r g : Nat) : OnlyChanges [.usher, .groups] s (s.deliverBinding r g) := by
  unfold State.deliverBinding
  split
  · exact (s.updGrp_only _ _).mono (by simp)
  · exact (s.setUsher_only _).mono (by simp)

theorem State.deliverBinding_keys (s : State) (r g : Nat) : OnlyKeys [g] s.groups (s.deliverBinding r g).groups := by
  unfold State.deliverBinding
  split
  · simp only [State.updGrp]
    exact OnlyKeys.upd _ _ _ _
  · exact .refl _ _

/-- After the result is delivered, the end of a computation concerns the Usher alone. -/
theorem State.computeDone_after {s : State} {r g : Nat} (n : Nat) (h : s.usher.computing = some (r, g)) :
    OnlyChanges [.usher] (s.deliverBinding r g) (s.computeDone n) := by
  rw [State.computeDone_eq n h]
  exact (State.setUsher_only _ _).trans (State.startCompute_only _)

theorem State.computeDone_usher {s : State} {r g : Nat} (n : Nat) (h : s.usher.computing = some (r, g)) :
    (s.computeDone n).usher.lastMicros = n ∧ (s.computeDone n).usher.lastGroup = g ∧ (s.computeDone n).usher.lastReason = r
      ∧ (s.computeDone n).usher.ready = (s.deliverBinding r g).usher.ready := by
  rw [State.computeDone_eq n h, State.startCompute_usher]
  exact ⟨rfl, rfl, rfl, rfl⟩

/-! ### DIE_LINK_RETRAIN (R297) -/

theorem State.setCores_only (s : State) (l : Tbl CoreState) : OnlyChanges [.cores] s { s with cores := l } := by
  intro p h
  cases p
  case cores => simp at h
  all_goals rfl

theorem State.reachAgain_only (s : State) : OnlyChanges [.cores] s s.reachAgain := s.setCores_only _

/-- A die link in service at both its ends. -/
def State.raiseLink (s : State) (d : Nat) (south : Bool) : State :=
  { s with fabric := { s.fabric with
      linkUp := s.fabric.linkUp ||| (2 ^ linkKey d south ||| 2 ^ linkKey (linkPeer d south) (!south))
      linkTrained := s.fabric.linkTrained ||| (2 ^ linkKey d south ||| 2 ^ linkKey (linkPeer d south) (!south)) } }

theorem State.raiseLink_works (s : State) (d : Nat) (south : Bool) : (s.raiseLink d south).fabric.linkWorks d south = true := by
  simp [Fabric.linkWorks, State.raiseLink, Nat.testBit_or, Nat.testBit_two_pow_self]

section
variable {s : State} {d : DieIx} {south : Bool} (hdown : s.fabric.linkWorks d.val south = false)
include hdown

/-- A link between dies whose clocks fit returns to service, and every group binds anew. -/
theorem State.retrainLink_returns (hclock : s.linkClockOk d.val south = true)
    (hfar : s.linkClockOk (linkPeer d.val south) (!south) = true) : s.retrainLink d.val south true
      = ((s.bump ((Blk.dlink d south).at Reg.DL_RETRAINS) 1).raiseLink d.val south).reachAgain.needBindAll 3 := by
  simp only [State.retrainLink, hdown, hclock, hfar, dieIx_val, Bool.false_eq_true, if_false, Bool.and_true, if_true]
  rfl

theorem State.retrainLink_fails : s.retrainLink d.val south false = s.bump ((Blk.dlink d south).at Reg.DL_RETRAINS) 1 := by
  simp [State.retrainLink, hdown]

end

theorem State.retrainLink_up {s : State} {d : DieIx} {south : Bool} (ok : Bool)
    (hup : s.fabric.linkWorks d.val south = true) : s.retrainLink d.val south ok = s := if_pos hup

/-- What follows from a link's return changes neither the fabric nor a register. -/
theorem State.reachAgain_needBindAll_only (s : State) : OnlyChanges [.cores, .groups, .usher] s (s.reachAgain.needBindAll 3) :=
  (s.reachAgain_only.mono (by simp)).then (State.needBindAll_only _ 3) (by simp)

/-! ### The commands -/

theorem exec_coreStop (c : CoreIx) (s : State) : exec (.coreStop c) s = .next (s.haltCore c.val 7) := rfl

theorem exec_stageFailover (c : ClusterIx) (dir : Nat) (s : State) :
    exec (.stageFailover c dir) s = .next (s.failStage c.val dir) := rfl

theorem exec_fabricPathFault (f : PathFault) (s : State) : exec (.fabricPathFault f) s = .next (s.pathFault f) := rfl

theorem exec_usherComputeDone (n : Nat) (s : State) : exec (.usherComputeDone n) s = .next (s.computeDone n) := rfl

theorem exec_dieLinkRetrain (d : DieIx) (south ok : Bool) (s : State) :
    exec (.dieLinkRetrain d south ok) s = .next (s.retrainLink d.val south ok) := rfl

end Sys2Proof.Machine
end

section
/-! SUPPORT. The statements about the hops of the fabric, and about its faults and their repair. -/

namespace Sys2Proof.Machine

open Sys2Proof

/-- Settles O47, by what an arbitration and a check count, and by what a hop and a retraining make of a segment. -/
theorem hopEvents : Obligations.HopEvents := by
  refine ⟨?linkFixed, ?linkLost, ?clean, ?routerFixed, ?losses, ?promotes, ?passes, ?bypasses, ?returns, ?fails, ?tooSoon,
    ?givenUp⟩
  case linkFixed =>
    intro s d south data errs arb v h
    rw [exec_flitReceived, State.checkFlit_link_corrected _ d south h]
  case linkLost =>
    intro s d south data errs bad arb h
    rw [exec_flitReceived, State.checkFlit_link_uncorrectable _ d south h]
  case clean =>
    intro s hop data arb
    rw [exec_flitReceived, State.checkFlit_clean]
  case routerFixed =>
    intro s c data errs arb v h
    rw [exec_flitReceived, State.checkFlit_router_corrected _ c h]
  case losses =>
    intro s hop a
    refine ⟨s.arbitrate_only hop a, fun _ _ hinput hnd => ?_⟩
    rw [State.arbitrate_losses]
    exact ⟨s.fabric.lossesAfter_winner hop hinput, fun i hi => s.fabric.lossesAfter_loser hop hi hinput hnd⟩
  case promotes =>
    intro s c port input i _ _ hne h
    exact State.arbitrate_promotes hne h
  case passes =>
    intro s k core data errs hk htrained hup hover hn
    refine ⟨_, (exec_controlMessageHop k core data errs s).trans
      (congrArg _ (State.controlHop_passes hk htrained hup core hover hn)), ?_, s.nack_countHop_only k core _⟩
    exact State.countHop_only _ _ _ .out (by simp)
  case bypasses =>
    intro s k core data errs hk htrained hup hn
    refine ⟨_, (exec_controlMessageHop k core data errs s).trans
      (congrArg _ (State.controlHop_bypasses hk htrained hup core hn)), Tbl.get?_put_self _ _ _, OnlyKeys.put _ _ _, ?_⟩
    exact ((s.nack_countHop_only k core 4).mono (by simp)).then (State.setFabric_only _ _) (by simp)
  case returns =>
    intro s k n hdown hn hret htried
    have htry : OnlyChanges [.regs, .fabric] s ((s.trySegment k).awaitReturn k) :=
      (s.trySegment_only k).trans (State.awaitReturn_only _ k)
    rw [exec_cnSegmentRetrain, State.retrainSegment_tries hdown hn hret htried true, if_pos rfl]
    split
    · exact ⟨_, rfl, Tbl.get?_put_self _ _ _, s.trySegment_counted k, ⟨by simp [State.awaitReturn], rfl⟩, htry⟩
    · exact ⟨_, rfl, Tbl.get?_put_self _ _ _, s.trySegment_counted k, State.awaitReturn_returns _ k,
        htry.trans (State.returnSegments_only _)⟩
  case fails =>
    intro s k n hdown hn hret htried
    have hfail : OnlyChanges [.regs, .fabric, .recorder, .nvm] s ((s.trySegment k).failSegment k (n + 1)) :=
      ((s.trySegment_only k).mono (by simp)).then (State.setFabric_only _ _) (by simp)
    rw [exec_cnSegmentRetrain, State.retrainSegment_tries hdown hn hret htried false, if_neg (by simp)]
    split
    · refine ⟨_, rfl, ?_, ?_, hfail.then (State.error_only _ _ _ _ _ _ _) (by simp)⟩
      · rw [(State.error_only _ _ _ _ _ _ _).fabric (by simp)]
        exact Tbl.get?_put_self _ _ _
      · rw [(State.error_only _ _ _ _ _ _ _).fabric (by simp)]
        exact OnlyKeys.put _ _ _
    · exact ⟨_, rfl, Tbl.get?_put_self _ _ _, OnlyKeys.put _ _ _, hfail⟩
  case tooSoon =>
    intro s k ok x hx hsoon
    rw [exec_cnSegmentRetrain, State.retrainSegment_tooSoon ok hx hsoon]
  case givenUp =>
    intro s k ok hdown
    rw [exec_cnSegmentRetrain, State.retrainSegment_givenUp ok hdown]

/-- Settles O48: the fault is noted first, and stands through everything that follows from it. -/
theorem fabricFaults : Obligations.FabricFaults := by
  refine ⟨?stop, ?firstStage, ?secondStage, ?stack, ?link, ?mesh, ?router, ?port, ?computed, ?idle, ?retrained, ?retrainFails,
    ?works⟩
  case stop =>
    intro s c h
    obtain ⟨hpass, hstop, hfence, htransfers⟩ := State.haltCore_stops 7 h
    refine ⟨_, exec_coreStop c s, hpass, hstop, hfence, fun x hx => ?_⟩
    obtain ⟨hsrc, hdst⟩ := htransfers x hx
    exact ⟨ne_core_of_memIsCore hsrc, ne_core_of_memIsCore hdst⟩
  case firstStage =>
    intro s c dir hlo hhi hport hdead hstandby
    exact ⟨_, (exec_stageFailover c dir s).trans (congrArg _ (State.failStage_first hlo hhi hport hdead hstandby)),
      s.moveStage_haltCore _ _ rfl⟩
  case secondStage =>
    intro s c dir hlo hhi hport hdead hstandby
    exact ⟨_, (exec_stageFailover c dir s).trans (congrArg _ (State.failStage_second hlo hhi hport hdead hstandby)),
      s.killStage_losePort _ _ c.val dir rfl⟩
  case stack =>
    intro s k hfailed hlost
    have hnote : OnlyChanges [.fabric, .stackTbl] s (s.noteLost k.val) := (s.setFabric_only _).mono (by simp)
    have hmem : k.val ∈ (s.noteLost k.val).fabric.lostStacks := by simp [State.noteLost]
    refine ⟨_, (exec_fabricPathFault (.stackEdge k) s).trans (congrArg _ (State.loseStack_eq hfailed hlost)), ?_⟩
    split
    · exact ⟨⟨hmem, rfl⟩, hnote⟩
    · exact ⟨State.failLost_fails _ _ hmem, hnote.trans (State.failLost_only _)⟩
  case link =>
    intro s d south
    exact ⟨_, exec_fabricPathFault (.dieLink d south) s, Fabric.linkWorks_of_down
      ((State.fabricChanged_stand _).links _ (s.loseLink_testBit d.val south _ (.inr rfl)))⟩
  case mesh =>
    intro s d c dir h
    have hfault : s.pathFault (.meshLink d c dir) = s.losePort (8 * d.val + c.val) dir := by
      rw [State.pathFault, Nat.mod_eq_of_lt c.isLt, if_pos h]
    rw [exec_fabricPathFault, hfault]
    exact ⟨_, rfl, s.losePort_meshDown h⟩
  case router =>
    intro s c
    exact ⟨_, exec_fabricPathFault (.meshRouter c) s, s.loseRouter_routerDown c.val⟩
  case port =>
    intro s h
    exact ⟨_, exec_fabricPathFault .portEdge s, State.goSafe_down false unitPort [] h⟩
  case computed =>
    intro s n r g h
    have hafter := State.computeDone_after n h
    obtain ⟨hmicros, hgroup, hreason, hready⟩ := State.computeDone_usher n h
    have hgroups : (s.computeDone n).groups = (s.deliverBinding r g).groups := hafter .groups (by simp)
    refine ⟨_, exec_usherComputeDone n s, hmicros, hgroup, hreason, fun hr => ?_, fun hr => ⟨?_, fun x hx => ?_⟩, ?_,
      (s.deliverBinding_only r g).then hafter (by simp)⟩
    · rw [hready, hgroups, State.deliverBinding, if_neg hr]
      exact ⟨rfl, rfl⟩
    · rw [hready, State.deliverBinding, if_pos hr]
      rfl
    · rw [hafter.grp (by simp), State.deliverBinding, if_pos hr, State.grp_updGrp_self, hx]
      rfl
    · rw [hgroups]
      exact s.deliverBinding_keys r g
  case idle =>
    intro s n h
    rw [exec_usherComputeDone, State.computeDone_idle n h]
  case retrained =>
    intro s d south hdown hclock hfar
    have hafter := ((s.bump ((Blk.dlink d south).at Reg.DL_RETRAINS) 1).raiseLink d.val south).reachAgain_needBindAll_only
    have hraise : OnlyChanges [.regs, .fabric] s ((s.bump ((Blk.dlink d south).at Reg.DL_RETRAINS) 1).raiseLink d.val south) :=
      ((s.bump_only _ _).mono (by simp)).then (State.setFabric_only _ _) (by simp)
    rw [exec_dieLinkRetrain, State.retrainLink_returns hdown hclock hfar]
    refine ⟨_, rfl, ?_, ?_, (hraise.mono (by simp)).then hafter (by simp)⟩
    · rw [hafter.fabric (by simp)]
      exact State.raiseLink_works _ d.val south
    · rw [hafter.reg (by simp)]
      exact s.reg_bump_self _ 1
  case retrainFails =>
    intro s d south hdown
    rw [exec_dieLinkRetrain, State.retrainLink_fails hdown]
  case works =>
    intro s d south ok hup
    rw [exec_dieLinkRetrain, State.retrainLink_up ok hup]

end Sys2Proof.Machine
end

section
/-!
SUPPORT. The balancer: what one request may be given of what is left, and what the choice of a tick's rows keeps to
(R255 to R257); and what the commands that set a group's balance and redundancy come to (R255, R256, R338).
-/

namespace Sys2Proof.Machine

open Sys2Proof

/-! ### Sums -/

theorem sumNats_eq_sum (l : List Nat) : sumNats l = l.sum := List.sum_eq_foldl.symm

/-! ### One request (R257) -/

/-- A request is passed over, or is given rows, at least one and no more than the largest chunk, that fit the places
left and, by the pages each of them reads, the pairs left. -/
theorem State.chooseFor_cases (s : State) (g : Nat) (p : BalAcc) (r : Req) :
    (∃ l, s.chooseFor g p r = { p with passed := l })
      ∨ ∃ rows pages gens taken last, 0 < rows ∧ rows ≤ (s.grp g).balance.chunkMax ∧ rows ≤ p.places
        ∧ rows * pages ≤ p.pairs ∧ s.chooseFor g p r =
          { places := p.places - rows, pairs := p.pairs - rows * pages, gens := gens, taken := taken
            admits := p.admits ++ [⟨r.sess, r.f.id, rows, last⟩], passed := p.passed
            usedPairs := p.usedPairs + rows * pages } := by
  unfold State.chooseFor
  split
  · exact .inl ⟨_, rfl⟩
  · extract_lets b noSlot asked resident seated pages rows gen slots last
    have hseated : seated ≤ min (min r.rowsLeft b.chunkMax) p.places := by
      have hroom : resident ≤ asked := Nat.min_le_left _ _
      have hslot : seated ≤ resident := by
        simp only [seated]
        split <;> omega
      exact Nat.le_trans hslot hroom
    have hrows : rows ≤ seated ∧ rows * pages ≤ p.pairs := by
      by_cases hpages : pages = 0
      · simp [rows, hpages]
      · simp only [rows, if_neg hpages]
        exact ⟨Nat.min_le_left _ _, (Nat.le_div_iff_mul_le (Nat.pos_of_ne_zero hpages)).1 (Nat.min_le_right _ _)⟩
    obtain ⟨hle, hpairs⟩ := hrows
    split
    case isTrue => exact .inl ⟨_, rfl⟩
    case isFalse hgiven =>
      have hpos : rows ≠ 0 := fun h => hgiven (.inl h)
      exact .inr ⟨rows, pages, _, _, _, by omega, by simp only [b] at hseated; omega, by omega, hpairs, rfl⟩

/-! ### All of them -/

/-- The balancer's choice so far keeps to its places, its pairs and the largest chunk. -/
structure BalAcc.Within (places pairs chunk : Nat) (p : BalAcc) : Prop where
  places_left : p.places + sumNats (p.admits.map (·.rows)) ≤ places
  pairs_left : p.pairs + p.usedPairs ≤ pairs
  chunks : ∀ a ∈ p.admits, 0 < a.rows ∧ a.rows ≤ chunk

theorem State.chooseFor_within {s : State} {g places pairs : Nat} {p : BalAcc} (r : Req)
    (h : p.Within places pairs (s.grp g).balance.chunkMax) :
    (s.chooseFor g p r).Within places pairs (s.grp g).balance.chunkMax := by
  obtain ⟨hplaces, hpairs, hchunks⟩ := h
  obtain ⟨l, he⟩ | ⟨rows, pages, gens, taken, last, hpos, hchunk, hfit, hread, he⟩ := s.chooseFor_cases g p r
  case inl =>
    rw [he]
    exact ⟨hplaces, hpairs, hchunks⟩
  case inr =>
    rw [he]
    refine ⟨?_, ?_, fun a ha => ?_⟩
    · simp only [sumNats_eq_sum, List.map_append, List.sum_append] at hplaces ⊢
      simp only [List.map_cons, List.map_nil, List.sum_singleton]
      omega
    · dsimp only
      omega
    · obtain ha | ha := List.mem_append.1 ha
      · exact hchunks a ha
      · obtain rfl := List.mem_singleton.1 ha
        exact ⟨hpos, hchunk⟩

theorem State.foldl_chooseFor_within {s : State} {g places pairs : Nat} (todo : List Req) {p : BalAcc}
    (h : p.Within places pairs (s.grp g).balance.chunkMax) :
    (todo.foldl (s.chooseFor g) p).Within places pairs (s.grp g).balance.chunkMax := by
  induction todo generalizing p with
  | nil => exact h
  | cons r rest ih => exact ih (State.chooseFor_within r h)

/-! ### The tick's rows (R255, R256) -/

/-- A request passed over counts it. -/
def State.passOver (s : State) (l : List (Nat × Nat)) : State :=
  l.foldl (fun (s : State) q => s.updReq q.1 q.2 (fun r => { r with passed := r.passed + 1 })) s

theorem State.updReq_only (s : State) (sess id : Nat) (f : Req → Req) : OnlyChanges [.reqs] s (s.updReq sess id f) := by
  intro p h
  cases p
  case reqs => simp at h
  all_goals rfl

theorem State.passOver_only (s : State) (l : List (Nat × Nat)) : OnlyChanges [.reqs] s (s.passOver l) :=
  .fold _ (fun _ _ => State.updReq_only _ _ _ _) l s

/-- Rows that a group may be given: its cap, and the rows of its plan that no seated request takes. -/
def State.freeRows (s : State) (g : Nat) (pl : PlacedPlan) : Nat :=
  min (s.grp g).balance.cap
    (pl.plan.prefillRows + (pl.plan.decodeRows - (s.reqs.filter (fun r => r.group == g && r.slot.isSome)).length))

/-- In the last phase of a running tick a choice that keeps to the limits is noted, and those it passes over count it. -/
theorem State.chooseRows_spec {s : State} {g : Nat} {pl : PlacedPlan} (hpl : (s.grp g).current = some pl)
    (hrun : (s.grp g).running = true) (hlast : (s.grp g).lastPhase = true) :
    ∃ p : BalAcc, p.Within (s.freeRows g pl) (s.pairBudget g) (s.grp g).balance.chunkMax
      ∧ s.chooseRows g = (s.passOver p.passed).updGrp g (fun y => { y with
        chosen := p.admits, rowsLast := sumNats (p.admits.map (·.rows)), pairsLast := p.usedPairs
        passesLast := p.passed.length }) := by
  simp only [State.chooseRows, hpl, hrun, hlast, Bool.not_true, Bool.or_self, Bool.false_eq_true, if_false]
  exact ⟨_, State.foldl_chooseFor_within _ ⟨Nat.le_refl _, Nat.le_refl _, by simp⟩, rfl⟩

theorem State.chooseRows_noPlan {s : State} {g : Nat} (h : (s.grp g).current = none) : s.chooseRows g = s := by
  simp only [State.chooseRows, h]

theorem exec_balancerChooseRows (g : GroupIx) (s : State) :
    exec (.balancerChooseRows g) s = .next (s.chooseRows g.val) := rfl

/-! ### The commands (R255, R256, R338) -/

theorem runBalanceSet_inRange {s : State} {g : Nat} {b : Balance} (hg : g < 12) (hf : (s.grp g).formed = true)
    (hb : b.cap ≤ 65535 ∧ 1 ≤ b.chunkMin ∧ b.chunkMin ≤ 4096 ∧ 1 ≤ b.chunkMax ∧ b.chunkMax ≤ 16384 ∧ b.order ≤ 1
      ∧ 1 ≤ b.passLimit ∧ b.passLimit ≤ 255) :
    runBalanceSet s g b = .ok (s.updGrp g (fun y => { y with balance := b })) := by
  simp only [runBalanceSet, State.formed?_of_formed hg hf, if_pos hb]

/-- A value out of its range is refused whether or not the group is formed. -/
theorem runBalanceSet_outOfRange {s : State} {g : Nat} {b : Balance}
    (hb : ¬ (b.cap ≤ 65535 ∧ 1 ≤ b.chunkMin ∧ b.chunkMin ≤ 4096 ∧ 1 ≤ b.chunkMax ∧ b.chunkMax ≤ 16384 ∧ b.order ≤ 1
      ∧ 1 ≤ b.passLimit ∧ b.passLimit ≤ 255)) : runBalanceSet s g b = .fail s .conflict := by
  unfold runBalanceSet
  split
  · rfl
  · exact if_neg hb

theorem runBalanceQuery_plan {s : State} {g : Nat} {p : PlacedPlan} (hg : g < 12) (hf : (s.grp g).formed = true)
    (hp : (s.grp g).current = some p) :
    runBalanceQuery s g = .ok s [(s.grp g).balance.cap, (s.grp g).balance.chunkMin, (s.grp g).balance.chunkMax,
      (s.grp g).balance.order, (s.grp g).balance.passLimit, p.plan.decodeRows, p.plan.prefillRows, s.pairBudget g,
      (s.grp g).rowsLast, (s.grp g).pairsLast, (s.grp g).passesLast] := by
  simp [runBalanceQuery, State.formed?_of_formed hg hf, hp]

section
variable {s : State} {g : Nat} (hg : g < 12) (hf : (s.grp g).formed = true)
include hg hf

theorem runRedundancySet_places (hr : (s.grp g).redundant = false) (hd : (s.applyFences g).doublePlaces g = true) :
    runRedundancySet s g true = .ok (s.updGrp g (fun x => { x with redundant := true, boundKind := none })) := by
  simp [runRedundancySet, Nat.not_le.2 hg, hf, hr, hd]

theorem runRedundancySet_unplaceable (hr : (s.grp g).redundant = false)
    (hd : (s.applyFences g).doublePlaces g = false) :
    runRedundancySet s g true = .fail (s.bump (0x60000 + Reg.UNPLACEABLE) 1) .unplaceable := by
  simp [runRedundancySet, Nat.not_le.2 hg, hf, hr, hd, Blk.at, Blk.base]

/-- A redundant group is placed anew without its twins. -/
theorem runRedundancySet_off (hr : (s.grp g).redundant = true) : runRedundancySet s g false
    = .ok (s.updGrp g (fun x => { x with redundant := false, boundKind := none })) := by
  have hsame : (s.updGrp g (fun x => { x with
        redundant := false, boundKind := if x.redundant then none else x.boundKind }))
      = s.updGrp g (fun x => { x with redundant := false, boundKind := none }) := by
    have hx : (s.groups.getD g Group.init).redundant = true := hr
    simp only [State.updGrp, Tbl.upd, hx, if_true]
  simp only [runRedundancySet, hf, Nat.not_le.2 hg, hsame, Bool.true_eq_false, Bool.false_eq_true, or_self, if_false]

end

end Sys2Proof.Machine
end

section
/-! SUPPORT. The statements about the balance commands and the balancer's limits. -/

namespace Sys2Proof.Machine

open Sys2Proof

/-- Settles O22, by what each command's processing comes to, on receipt or at a boundary. -/
theorem balanceCommands : Obligations.BalanceCommands := by
  refine ⟨?set, ?outOfRange, ?query, ?doubled, ?unplaceable, ?unplaceableAtOnce, ?single⟩
  case set =>
    intro s h g b ha hg hf hcap hmin hmin' hmax hmax' horder hpass hpass'
    exact answered_atOnce ha rfl rfl rfl rfl
      (runBalanceSet_inRange hg hf ⟨hcap, hmin, hmin', hmax, hmax', horder, hpass, hpass'⟩)
  case outOfRange =>
    intro s h g b ha hb
    exact answered_atOnce ha rfl rfl rfl rfl (runBalanceSet_outOfRange (by omega))
  case query =>
    intro s h g p ha hg hf hp
    exact answered_of_runHost ha rfl rfl rfl (runBalanceQuery_plan hg hf hp)
  case doubled =>
    intro s base h g tick seen c hc hsess hg hf hr hd
    exact State.applyHeld_ok tick seen hc rfl hsess rfl (runRedundancySet_places hg hf hr hd)
  case unplaceable =>
    intro s h g tick seen c hc hsess hg hf hr hd
    have hrun : runHost s c.cmd = .fail (s.bump (0x60000 + Reg.UNPLACEABLE) 1) .unplaceable := by
      rw [hc]
      exact runRedundancySet_unplaceable hg hf hr hd
    rw [State.applyHeld_answers tick seen (by rw [hc]; rfl) hsess (by rw [hc]; rfl) (.inr (by rw [hrun]; rfl)), hrun,
      Ans.send_fail]
  case unplaceableAtOnce =>
    intro s h g ha hg hf hr hd
    exact answered_atOnce ha rfl rfl rfl rfl (runRedundancySet_unplaceable hg hf hr hd)
  case single =>
    intro s h g ha hg hf hr
    exact answered_atOnce ha rfl rfl rfl rfl (runRedundancySet_off hg hf hr)

/-- Settles O30: each request that is given rows takes them from what is left, so all together keep to the limits. -/
theorem balancerLimits : Obligations.BalancerLimits := by
  refine ⟨?chosen, ?noPlan⟩
  case chosen =>
    intro s g pl hpl hrun hlast
    obtain ⟨p, ⟨hplaces, hpairs, hchunks⟩, he⟩ := State.chooseRows_spec hpl hrun hlast
    rw [exec_balancerChooseRows, he]
    refine ⟨_, rfl, ?_, ?_, ?_, ?_, ((State.passOver_only _ _).mono (by simp)).then (State.updGrp_only _ _ _) (by simp)⟩
    all_goals rw [State.grp_updGrp_self]
    · exact Nat.le_trans (Nat.le_add_left _ _) hplaces
    · exact hchunks
    · exact Nat.le_trans (Nat.le_add_left _ _) hpairs
  case noPlan =>
    intro s g h
    rw [exec_balancerChooseRows, State.chooseRows_noPlan h]

end Sys2Proof.Machine
end

section
/-!
SUPPORT. Requests: what the checks of REQ_SUBMIT answer (R250), and what the commands on requests come to (R249, R253,
R254).
-/

namespace Sys2Proof.Machine

open Sys2Proof

/-! ### The adapter that a request names (R227, R243) -/

@[simp] theorem State.adapterFor_zero (s : State) (g key tenant : Nat) : s.adapterFor g key tenant 0 = some 0 := rfl

@[simp] theorem State.adapterForeign_zero (s : State) (g key tenant : Nat) : s.adapterForeign g key tenant 0 = false := by
  unfold State.adapterForeign
  split <;> rfl

/-- An adapter that a request can bind to is of the context's key and tenant. -/
theorem State.adapterForeign_of_adapterFor {s : State} {g key tenant ident : Nat}
    (h : (s.adapterFor g key tenant ident).isSome = true) : s.adapterForeign g key tenant ident = false := by
  by_cases hident : ident = 0
  · rw [hident, State.adapterForeign_zero]
  · rw [State.adapterFor, if_neg hident] at h
    unfold State.adapterForeign
    split at h
    case h_1 => simp at h
    case h_2 a ha =>
      split at h
      case isFalse => simp at h
      case isTrue hbinds =>
        simp only [Bool.and_eq_true, Bool.or_eq_true, decide_eq_true_eq] at hbinds
        obtain ⟨⟨_, hkey⟩, htenant⟩ := hbinds
        rw [ha]
        simp only [hkey, ne_eq, not_true_eq_false, decide_false, Bool.false_or, Bool.and_eq_false_iff,
          decide_eq_false_iff_not, Classical.not_not]
        exact .inr htenant

/-! ### The checks of REQ_SUBMIT, in order (R250) -/

theorem State.reqCheck_unnamed {s : State} {h : Hdr} {f : ReqFields} (hn : s.named? h f.ctx f.tenant = none) :
    s.reqCheck h f = some .notAuthorised := by
  simp only [State.reqCheck, hn]

section
variable {s : State} {h : Hdr} {f : ReqFields} {c : Ctx} (hn : s.named? h f.ctx f.tenant = some c)
include hn

theorem State.reqCheck_foreign (hf : s.adapterForeign c.group c.key c.tenant f.adapter = true) :
    s.reqCheck h f = some .notAuthorised := by
  simp only [State.reqCheck, hn, hf, if_true]

theorem State.reqCheck_busy (hf : s.adapterForeign c.group c.key c.tenant f.adapter = false) (hr : c.atRest = false) :
    s.reqCheck h f = some .busy := by
  simp only [State.reqCheck, hn, hf, hr, Bool.false_eq_true, if_false, Bool.not_false, if_true]

variable {a : Gen} (hr : c.atRest = true) (ha : (s.inst c.group).active = some a)
include hr ha

/-- State of another generation than the active one is not extended (R247). -/
theorem State.reqCheck_stale (hfull : f.fullHistory = false) (hlen : c.length ≠ 0)
    (had : (s.adapterFor c.group c.key c.tenant f.adapter).isSome = true) (hgen : c.stateGen ≠ a.id) :
    s.reqCheck h f = some .stale := by
  have hstale : !f.fullHistory ∧ c.length ≠ 0 ∧ (s.adapterFor c.group c.key c.tenant f.adapter).isSome
      ∧ ¬ (c.stateGen = a.id ∧ c.adapter = f.adapter
        ∧ c.adapterGen = (s.adapterFor c.group c.key c.tenant f.adapter).getD 0) :=
    ⟨by simp [hfull], hlen, had, fun hsame => hgen hsame.1⟩
  simp only [State.reqCheck, hn, State.adapterForeign_of_adapterFor had, hr, ha, Bool.not_true, Bool.false_eq_true,
    if_false, Option.map_some, Option.getD_some, if_pos hstale]

/-- What is left to check where no state is extended: the fields, then the deadline. -/
theorem State.reqCheck_fresh (hfresh : f.fullHistory = true ∨ c.length = 0)
    (hf : s.adapterForeign c.group c.key c.tenant f.adapter = false) :
    s.reqCheck h f = if f.ok a.load.manifest.vocabulary = false ∨ f.more = true
        ∨ s.adapterFor c.group c.key c.tenant f.adapter = none ∨ (s.req? h.sess f.id).isSome = true then some .conflict
      else if f.deadline ≠ 0 ∧ f.deadline ≤ s.tickEnd c.group then some .deadlineMissed else none := by
  have hextends : ¬ (f.fullHistory = false ∧ c.length ≠ 0 ∧ (s.adapterFor c.group c.key c.tenant f.adapter).isSome
      ∧ ¬ (c.stateGen = a.id ∧ c.adapter = f.adapter
        ∧ c.adapterGen = (s.adapterFor c.group c.key c.tenant f.adapter).getD 0)) := by
    rintro ⟨hfull, hlen, -, -⟩
    exact hfresh.elim (by simp [hfull]) hlen
  simp only [State.reqCheck, hn, hf, hr, ha, Bool.not_true, Bool.false_eq_true, if_false, Option.map_some,
    Option.getD_some, if_neg hextends, Bool.not_eq_true', Option.isNone_iff_eq_none]

end

/-! ### A request queued (R249) -/

/-- A request without an adapter that extends its context: it starts at the context's end, with all its tokens' rows. -/
def State.newReq (s : State) (h : Hdr) (f : ReqFields) (c : Ctx) : Req :=
  { sess := h.sess, f := f, group := c.group, phase := .queued, pos := c.length, rowsLeft := f.tokens.length, slot := none
    counts := [], misses := 0, sent := 0, passed := 0, order := s.accepted
    gen := ((s.inst c.group).active.map (·.id)).getD 0, adapterGen := 0, late := false, degraded := false
    replayed := false, token := none, last := none, ending := none }

/-- A request joins those in flight, and its context is busy. -/
def State.queueReq (s : State) (i : Nat) (c : Ctx) (r : Req) : State :=
  { s with reqs := s.reqs ++ [r], accepted := s.accepted + 1
           contexts := s.contexts.put i { c with state := .busy, truncate := none } }

theorem State.queueReq_only (s : State) (i : Nat) (c : Ctx) (r : Req) :
    OnlyChanges [.reqs, .accepted, .contexts] s (s.queueReq i c r) := by
  intro p h
  cases p
  case reqs | accepted | contexts => simp at h
  all_goals rfl

theorem runReqSubmit_queues {s : State} {h : Hdr} {f : ReqFields} {c : Ctx} (hfull : f.fullHistory = false)
    (had : f.adapter = 0) (hpen : f.penaliseInput = false) (hcheck : s.reqCheck h f = none)
    (hc : s.ctx? f.ctx = some c) :
    runReqSubmit s h f = { s := s.queueReq f.ctx c (s.newReq h f c), st := .accepted } := by
  have hget : s.contexts.get? f.ctx = some c := hc
  simp only [runReqSubmit, hcheck, hc, hfull, had, hpen, Bool.false_eq_true, if_false, false_and, if_true,
    State.adapterFor_zero, Option.getD_some, State.updCtx, hget]
  rfl

/-- REQ_SUBMIT within its limit, with no other request of its context awaiting tokens: held while it waits for its own
tokens or for a boundary, else processed. -/
theorem State.considerBoundary_submit {s : State} {h : Hdr} {f : ReqFields} (hlen : f.tokens.length ≤ 2048)
    (hctx : s.ctxAwaited f.ctx = false) : s.considerBoundary (.reqSubmit h f) h
      = if f.more || s.mustWait (.reqSubmit h f) h.tag then s.hold (.reqSubmit h f) h f.more
        else (runReqSubmit s h f).send h 0 := by
  have hshort : ¬ submitTokens < f.tokens.length := Nat.not_lt.2 hlen
  simp only [State.considerBoundary, submitOf, if_neg hshort, hctx, Bool.false_and, Bool.false_eq_true, if_false]
  rfl

theorem exec_reqSubmit {s : State} {h : Hdr} {f : ReqFields} (ha : Admitted s h (.reqSubmit h f)) :
    exec (.reqSubmit h f) s = .next ((s.heard h).considerBoundary (.reqSubmit h f) h) := by
  have hexec : exec (.reqSubmit h f) s = .next (hostReceive h (.reqSubmit h f) s) := rfl
  rw [hexec, hostReceive_of_admitted rfl ha]
  rfl

/-! ### Tokens that follow (R249) -/

section
variable {s : State} {h : Hdr} {r : Nat} {ts : List Nat}

theorem runReqTokens_joins (more : Bool) (hlen : ts.length ≤ 2240)
    (hw : s.held.any (fun x => x.awaits h.sess r) = true) :
    runReqTokens s h r ts more = .ok { s with held := s.held.map (fun x =>
      if x.awaits h.sess r then x.addTokens ts more s.time.ns else x) } := by
  rw [runReqTokens, if_neg (Nat.not_lt.2 hlen), if_pos hw]

theorem runReqTokens_unawaited (more : Bool) (hw : s.held.any (fun x => x.awaits h.sess r) = false) :
    runReqTokens s h r ts more = .fail s .conflict := by
  simp only [runReqTokens, hw, Bool.false_eq_true, if_false, ite_self]

/-- A request in flight that awaits no tokens ends with reason 3. -/
theorem runReqCancel_ends {x : Req} (hw : s.held.any (fun y => y.awaits h.sess r) = false)
    (hx : s.req? h.sess r = some x) : runReqCancel s h r = .ok (s.endReq x 3 (endEntry x.f.id 3)) := by
  simp only [runReqCancel, hw, Bool.false_eq_true, if_false, hx]

theorem runReqCancel_ended (hw : s.held.any (fun y => y.awaits h.sess r) = false) (hx : s.req? h.sess r = none)
    (he : s.ended.any (fun e => e.sess == h.sess && e.req == r) = true) :
    runReqCancel s h r = .fail s .stale := by
  simp only [runReqCancel, hw, Bool.false_eq_true, if_false, hx, he, if_true]

theorem runReqQuery_inFlight {x : Req} (hx : s.req? h.sess r = some x) :
    runReqQuery s h r = .ok s [x.phase.code, x.rowsLeft, x.sent, x.misses] := by
  simp only [runReqQuery, hx]

end

/-- One partial request discarded: its REQ_SUBMIT is answered. -/
theorem State.dropPartial_one {s : State} {p : Held → Bool} {x : Held} (hx : s.held.filter p = [x]) :
    s.dropPartial p = ({ s with held := s.held.filter (fun y => !(p y)) } : State).reply x.sess x.seq .stale 0 0 [] := by
  rw [State.dropPartial, hx]
  rfl

theorem exec_reqTokensTimeout (sess r : Nat) (s : State) :
    exec (.reqTokensTimeout sess r) s = .next (s.dropPartial (fun x => x.awaits sess r)) := rfl

end Sys2Proof.Machine
end

section
/-! SUPPORT. The statements about the checks of REQ_SUBMIT and about the request commands. -/

namespace Sys2Proof.Machine

open Sys2Proof

/-- Settles O19, check by check; without an adapter none is foreign, and there is one to bind to. -/
theorem requestChecks : Obligations.RequestChecks := by
  refine ⟨fun s h f => State.reqCheck_unnamed, fun s h f c hn => State.reqCheck_foreign hn,
    fun s h f c hn => State.reqCheck_busy hn, ?stale, ?conflict, ?deadline⟩
  case stale =>
    intro s h f c a hn hr hfull hlen ha had hgen
    exact State.reqCheck_stale hn hr ha hfull hlen had hgen
  case conflict =>
    intro s h f c a hn hr hfresh hforeign ha hbad
    rw [State.reqCheck_fresh hn hr ha hfresh hforeign, if_pos (hbad.imp_right .inr)]
  case deadline =>
    intro s h f c a hn hr hfresh ha hok hmore had hreq
    rw [State.reqCheck_fresh hn hr ha hfresh (by rw [had, State.adapterForeign_zero]), if_neg]
    simp [hok, hmore, had, hreq]

/-- Settles O20, by what each command's processing comes to; REQ_SUBMIT is held while its tokens follow. -/
theorem requestCommands : Obligations.RequestCommands := by
  refine ⟨?queued, ?awaits, ?joins, ?unawaited, ?timeout, ?cancel, ?cancelEnded, ?query⟩
  case queued =>
    intro s h f c ha hlen hmore hfull had hpen hctx hcheck hc
    refine ⟨_, _, ?_, rfl, rfl, rfl, rfl, rfl, rfl, rfl, rfl, rfl, rfl,
      (s.heard h).queueReq_only f.ctx c ((s.heard h).newReq h f c)⟩
    rw [Answered, exec_reqSubmit ha.1, State.considerBoundary_submit hlen hctx, hmore, ha.2,
      runReqSubmit_queues hfull had hpen hcheck hc]
    rfl
  case awaits =>
    intro s h f ha hlen hmore hctx
    rw [exec_reqSubmit ha, State.considerBoundary_submit hlen hctx, hmore]
    exact ⟨_, rfl, rfl, rfl, rfl, rfl, rfl⟩
  case joins =>
    intro s h r ts more ha hlen hw
    exact answered_of_runHost ha rfl rfl rfl (runReqTokens_joins more hlen hw)
  case unawaited =>
    intro s h r ts more ha hw
    exact answered_of_runHost ha rfl rfl rfl (runReqTokens_unawaited more hw)
  case timeout =>
    intro s sess r x hx
    rw [exec_reqTokensTimeout, State.dropPartial_one hx]
  case cancel =>
    intro s h r x ha hw hx
    exact answered_atOnce ha rfl rfl rfl rfl (runReqCancel_ends hw hx)
  case cancelEnded =>
    intro s h r ha hw hx he
    exact answered_atOnce ha rfl rfl rfl rfl (runReqCancel_ended hw hx he)
  case query =>
    intro s h r x ha hx
    exact answered_of_runHost ha rfl rfl rfl (runReqQuery_inFlight hx)

end Sys2Proof.Machine
end

section
/-!
SUPPORT. The generations and adapters of a group: the checks of a manifest (R235), what the commands on them come to
(R229, R231, R235, R238 to R243), and what unloading leaves (R231).
-/

namespace Sys2Proof.Machine

open Sys2Proof

theorem OnlyChanges.inst {ps : List Part} {s t : State} (h : OnlyChanges ps s t) (hp : Part.insts ∉ ps) (g : Nat) :
    t.inst g = s.inst g := by
  have he : t.insts = s.insts := h .insts hp
  simp only [State.inst, he]

theorem Admitted.session {s : State} {h : Hdr} {i : Instr} (ha : Admitted s h i) :
    ∃ y, (s.heard h).session? h.sess = some y := by
  obtain ⟨-, -, -, y, -, -, -, -, -, hy, -⟩ := ha
  exact ⟨y, hy⟩

/-! ### The checks of a manifest (R235) -/

/-- Checks made one after another all pass where the first does and those after it do. -/
theorem ite_some_eq_none_iff {α : Type} {p : Prop} [Decidable p] {a : α} {o : Option α} :
    (if p then some a else o) = none ↔ ¬ p ∧ o = none := by
  split <;> simp [*]

theorem State.checkManifest_eq_none {s : State} {x : Session} {g kind : Nat} {bs : List Byte} :
    s.checkManifest x g kind bs = none ↔
      (((parseManifest bs).format = 1 ∨ (parseManifest bs).format = 2)
        ∧ x.manifests.testBit (parseManifest bs).format = true
        ∧ ∃ k, s.keyOf (parseManifest bs).keyId = some k ∧ (parseManifest bs).keyId = x.key ∧ 0 < k.levels
          ∧ k.roles.testBit 1 = true ∧ signedBy bs (le bs 0x7C 4) k = true
          ∧ manifestRanges bs (parseManifest bs) kind = true ∧ (parseManifest bs).deviceBytes ≤ s.freeBytes g) := by
  cases hk : s.keyOf (parseManifest bs).keyId with
  | none => simp [State.checkManifest, hk, ite_some_eq_none_iff]
  | some k =>
    simp only [State.checkManifest, hk, ite_some_eq_none_iff, not_or, ← Decidable.or_iff_not_not_and_not, ne_eq,
      Classical.not_not, Bool.not_eq_false, Bool.not_eq_true', Nat.not_lt, and_true, and_assoc, Option.some.injEq,
      exists_eq_left', Nat.pos_iff_ne_zero]

/-! ### Generations (R229, R231, R235, R239) -/

section
variable {s : State} {h : Hdr} {g : Nat} (hg : g < 12) (hf : (s.grp g).formed = true)
include hg hf

section
variable {x : Session} (hx : s.session? h.sess = some x)
include hx

theorem runModelLoad_busy (loc : StorageLoc) (reads : Reads) (hn : (s.inst g).next.isSome = true) :
    runModelLoad s h g loc reads = .fail s .busy := by
  simp only [runModelLoad, State.formed?_of_formed hg hf, hx, if_pos hn]

variable {loc : StorageLoc} {reads : Reads} {bs : List Byte} (hn : (s.inst g).next = none) (hbs : s.fetchManifest loc reads = some bs)
include hn hbs

theorem runModelLoad_begins (hc : s.checkManifest x g 0 bs = none) : runModelLoad s h g loc reads =
    { s := s.updInst g (fun i => { i with
        next := some { id := 0, phase := .loading, load := newLoad bs x h.seq, damaged := false }, shardAttempts := 0 })
      st := .accepted } := by
  simp [runModelLoad, State.formed?_of_formed hg hf, hx, hn, hbs, hc]

theorem runModelLoad_fails {st : Status} (hc : s.checkManifest x g 0 bs = some st) :
    runModelLoad s h g loc reads = .fail (s.countVerify st) st := by
  simp [runModelLoad, State.formed?_of_formed hg hf, hx, hn, hbs, hc]

end

theorem runModelAbort_loading {x : Gen} (hn : (s.inst g).next = some x) (hp : x.phase = .loading) :
    runModelAbort s g = .ok (s.failLoad g none .stale none) := by
  simp only [runModelAbort, State.formed?_of_formed hg hf, hn, if_pos hp]

theorem runModelAbort_loaded {x : Gen} (hn : (s.inst g).next = some x) (hp : x.phase ≠ .loading) :
    runModelAbort s g = .ok (s.updInst g (fun i => { i with next := none })) := by
  simp only [runModelAbort, State.formed?_of_formed hg hf, hn, if_neg hp]

theorem runInstanceQuery_noNext (hn : (s.inst g).next = none) : runInstanceQuery s g
    = .ok s (genFields (s.inst g).active ++ [0, 0, 0, 0, 0, (s.inst g).shardAttempts, (s.grp g).deadlineEnds,
      (s.grp g).lateTokens]) := by
  simp [runInstanceQuery, State.formed?_of_formed hg hf, hn, genFields]

theorem runInstanceUnload_unloads {force : Bool} (ha : (s.inst g).active.isSome = true)
    (hfree : force = true ∨ ∀ r ∈ s.reqs, r.group ≠ g) : runInstanceUnload s g force = .ok (s.unload g) := by
  obtain ⟨x, hx⟩ := Option.isSome_iff_exists.1 ha
  have hmay : (s.reqs.any (fun r => r.group == g) && !force) = false := by
    obtain rfl | hnone := hfree
    · simp
    · rw [List.any_eq_false.2 (fun r hr => by simpa using hnone r hr), Bool.false_and]
  simp only [runInstanceUnload, State.formed?_of_formed hg hf, hx, hmay, Bool.false_eq_true, if_false]

theorem runLoadReport_active {tensor : Nat} {x : Gen} (hn : (s.inst g).next = none) (ha : (s.inst g).active = some x)
    (ht : tensor < x.load.manifest.tensors.length) : runLoadReport s g tensor
    = .ok s [(x.load.report.getD tensor (0, 0)).1.toNat, (x.load.report.getD tensor (0, 0)).2] := by
  simp [runLoadReport, State.formed?_of_formed hg hf, hn, ha, ht]

/-! ### Adapters (R227, R240 to R243) -/

section
variable {ident : Nat} {x : Session} {base : Gen} (tenant : Nat) (hx : s.session? h.sess = some x)
  (ha : (s.inst g).active = some base) (hident : ident ≠ 0) (hslots : base.load.manifest.adapterSlots ≠ 0)
include hx ha hident hslots

theorem runAdapterLoad_begins {loc : StorageLoc} {reads : Reads} {bs : List Byte}
    (hnew : (s.inst g).adapters.get? ident = none) (hroom : (s.inst g).adapters.length < 64)
    (hbs : s.fetchManifest loc reads = some bs) (hc : s.checkManifest x g 1 bs = none)
    (hfits : adapterFits (parseManifest bs) base.load.manifest = true) : runAdapterLoad s h g ident tenant loc reads =
    { s := s.updInst g (fun i => { i with
        adapters := i.adapters.put ident
          { tenant := tenant, key := x.key, current := 0
            gens := [{ num := 1, refs := 0, verified := false, load := newLoad bs x h.seq }], unloaded := false } })
      st := .accepted } := by
  simp [runAdapterLoad, State.formed?_of_formed hg hf, hx, ha, hident, hslots, hnew, Nat.not_le.2 hroom, hbs, hc,
    hfits]

theorem runAdapterLoad_foreign {a : Adapter} (loc : StorageLoc) (reads : Reads)
    (hold : (s.inst g).adapters.get? ident = some a) (hkey : a.key ≠ x.key) :
    runAdapterLoad s h g ident tenant loc reads = .fail s .notAuthorised := by
  simp [runAdapterLoad, State.formed?_of_formed hg hf, hx, ha, hident, hslots, hold, hkey]

end

theorem runAdapterUnload_unloads {ident : Nat} {a : Adapter} (ha : s.adapter? h g ident = some a)
    (hu : a.unloaded = false) : runAdapterUnload s h g ident
    = .ok (((s.failLoad g (some ident) .stale none).updInst g (fun i => { i with adapters := i.adapters.map (fun p =>
        if p.1 = ident then (p.1, { p.2 with unloaded := true }) else p) })).sweepAdapters g) := by
  simp only [runAdapterUnload, State.formed?_of_formed hg hf, ha, hu, Bool.false_eq_true, if_false]

theorem runAdapterQuery_lists {ident : Nat} {a : Adapter} (ha : s.adapter? h g ident = some a) :
    runAdapterQuery s h g ident
      = .ok s (a.current :: a.gens.flatMap (fun x => [x.num, x.refs, flag x.verified])) := by
  simp only [runAdapterQuery, State.formed?_of_formed hg hf, ha]

end

/-! ### Unloading (R231) -/

/-- Only the request that ends leaves those in flight. -/
theorem State.endReq_reqs (s : State) (r : Req) (reason : Nat) (entry : TokenEntry) : (s.endReq r reason entry).reqs
    = s.reqs.filter (fun x => !(x.sess == r.sess && x.f.id == r.f.id)) := by
  unfold State.endReq State.updCtx
  dsimp only
  repeat' split
  all_goals rfl

theorem State.mem_reqs_endEach {l : List Req} {s : State} {reason : Nat} {r : Req}
    (h : r ∈ (l.foldl (fun (s : State) x => s.endReq x reason (endEntry x.f.id reason)) s).reqs) :
    r ∈ s.reqs ∧ r ∉ l := by
  induction l generalizing s with
  | nil => exact ⟨h, by simp⟩
  | cons x rest ih =>
    obtain ⟨hr, hrest⟩ := ih h
    rw [State.endReq_reqs, List.mem_filter] at hr
    obtain ⟨hmem, hother⟩ := hr
    refine ⟨hmem, fun hin => ?_⟩
    obtain rfl | hin := List.mem_cons.1 hin
    · simp at hother
    · exact hrest hin

theorem State.endAll_reqs {s : State} {g reason : Nat} {r : Req} (h : r ∈ (s.endAll g reason).reqs) : r.group ≠ g := by
  obtain ⟨hr, hnot⟩ := State.mem_reqs_endEach h
  exact fun hg => hnot (List.mem_filter.2 ⟨hr, by simpa using hg⟩)

theorem State.unbind_only (s : State) (g : Nat) : OnlyChanges [.groups, .cores, .fabric] s (s.unbind g) :=
  (((s.updGrp_only g _).mono (by simp)).then (.fold _ (fun _ _ => State.updCore_only _ _ _) _ _) (by simp)).then
    (State.setFabric_only _ _) (by simp)

theorem State.reportEnded_only (s : State) (g : Nat) : OnlyChanges [.ended] s (s.reportEnded g) := by
  intro p h
  cases p
  case ended => simp at h
  all_goals rfl

theorem State.retirePlan_only (s : State) (g : Nat) :
    OnlyChanges [.groups, .cores, .fabric, .ended] s (s.retirePlan g) :=
  (((s.updGrp_only g _).mono (by simp)).then (State.reportEnded_only _ g) (by simp)).then (State.unbind_only _ g)
    (by simp)

theorem State.unload_inst (s : State) (g : Nat) :
    ((s.unload g).inst g).active = none ∧ ((s.unload g).inst g).adapters = [] := by
  rw [State.unload, (State.retirePlan_only _ g).inst (by simp), State.inst_updInst_self]
  exact ⟨rfl, rfl⟩

theorem State.unload_reqs {s : State} {g : Nat} {r : Req} (h : r ∈ (s.unload g).reqs) : r.group ≠ g := by
  have hreqs : (s.unload g).reqs = (s.endAll g 4).reqs := State.retirePlan_only _ g .reqs (by simp)
  exact State.endAll_reqs (hreqs ▸ h)

end Sys2Proof.Machine
end

section
/-! SUPPORT. The statements about the commands on generations and adapters. -/

namespace Sys2Proof.Machine

open Sys2Proof

/-- Settles O16, by what each command's processing comes to; a manifest passes exactly where no check of R235 fails, and
unloading ends every request of the group. -/
theorem modelCommands : Obligations.ModelCommands := by
  refine ⟨?begins, ?busy, ?fails, ?abortLoading, ?abortLoaded, ?query, ?unload, ?unloaded, ?report,
    fun s x g kind bs => State.checkManifest_eq_none⟩
  case begins =>
    intro s h g loc reads x bs ha hg hf hx hn hbs hc
    exact answered_of_runHost ha rfl rfl rfl (runModelLoad_begins hg hf hx hn hbs hc)
  case busy =>
    intro s h g loc reads ha hg hf hn
    obtain ⟨x, hx⟩ := ha.session
    exact answered_of_runHost ha rfl rfl rfl (runModelLoad_busy hg hf hx loc reads hn)
  case fails =>
    intro s h g loc reads x bs st ha hg hf hx hn hbs hc
    exact answered_of_runHost ha rfl rfl rfl (runModelLoad_fails hg hf hx hn hbs hc)
  case abortLoading =>
    intro s h g x ha hg hf hn hp
    exact answered_of_runHost ha rfl rfl rfl (runModelAbort_loading hg hf hn hp)
  case abortLoaded =>
    intro s h g x ha hg hf hn hp
    exact answered_of_runHost ha rfl rfl rfl (runModelAbort_loaded hg hf hn hp)
  case query =>
    intro s h g ha hg hf hn
    exact answered_of_runHost ha rfl rfl rfl (runInstanceQuery_noNext hg hf hn)
  case unload =>
    intro s h g force ha hg hf hact hfree
    exact answered_atOnce ha rfl rfl rfl rfl (runInstanceUnload_unloads hg hf hact hfree)
  case unloaded =>
    intro s g
    obtain ⟨hactive, hadapters⟩ := s.unload_inst g
    exact ⟨hactive, hadapters, State.retirePlan_current _ g, fun r => State.unload_reqs⟩
  case report =>
    intro s h g tensor x ha hg hf hn hact ht
    exact answered_of_runHost ha rfl rfl rfl (runLoadReport_active hg hf hn hact ht)

/-- Settles O17, by what each command's processing comes to. -/
theorem adapterCommands : Obligations.AdapterCommands := by
  refine ⟨?begins, ?foreign, ?unload, ?query⟩
  case begins =>
    intro s h g ident tenant loc reads x base bs ha hg hf hx hact hident hslots hnew hroom hbs hc hfits
    exact answered_atOnce ha rfl rfl rfl rfl
      (runAdapterLoad_begins hg hf tenant hx hact hident hslots hnew hroom hbs hc hfits)
  case foreign =>
    intro s h g ident tenant loc reads x a base ha hg hf hx hact hident hslots hold hkey
    exact answered_atOnce ha rfl rfl rfl rfl
      (runAdapterLoad_foreign hg hf tenant hx hact hident hslots loc reads hold hkey)
  case unload =>
    intro s h g ident a ha hg hf had hu
    exact answered_atOnce ha rfl rfl rfl rfl (runAdapterUnload_unloads hg hf had hu)
  case query =>
    intro s h g ident a ha hg hf had
    exact answered_of_runHost ha rfl rfl rfl (runAdapterQuery_lists hg hf had)

end Sys2Proof.Machine
end

section
/-!
SUPPORT. A load in progress: what replacing it leaves (R236), the next attempt at a shard (R236, R237), an attempt that
fails (R237, R238), and the check of its data (R236, R239).
-/

namespace Sys2Proof.Machine

open Sys2Proof

/-! ### Tables and lists changed in place -/

/-- A change made of the entries of one key is made of what the table holds there. -/
theorem Tbl.get?_mapAt_self {α : Type} (t : Tbl α) (k : Nat) (f : α → α) :
    Tbl.get? (t.map (fun p => if p.1 = k then (p.1, f p.2) else p)) k = (t.get? k).map f := by
  induction t with
  | nil => rfl
  | cons p rest ih =>
    obtain ⟨j, v⟩ := p
    by_cases hj : j = k
    · simp [Tbl.get?, hj]
    · simpa [Tbl.get?, hj] using ih

/-- The generation of an adapter that is not verified, once its load is replaced. -/
theorem find?_setLoad (gens : List AdGen) (l : Load) :
    (gens.map (fun x => if x.verified then x else { x with load := l })).find? (fun x => !x.verified)
      = (gens.find? (fun x => !x.verified)).map (fun x => { x with load := l }) := by
  induction gens with
  | nil => rfl
  | cons x rest ih =>
    cases hx : x.verified with
    | true => simpa [hx] using ih
    | false => simp [hx]

/-! ### The load replaced -/

theorem State.updInst_only (s : State) (g : Nat) (f : Inst → Inst) : OnlyChanges [.insts] s (s.updInst g f) := by
  intro p h
  cases p
  case insts => simp at h
  all_goals rfl

theorem State.updInst_keys (s : State) (g : Nat) (f : Inst → Inst) : OnlyKeys [g] s.insts (s.updInst g f).insts :=
  OnlyKeys.upd _ _ _ _

theorem State.setLoad_only (s : State) (g : Nat) (ident : Option Nat) (l : Load) :
    OnlyChanges [.insts] s (s.setLoad g ident l) := by
  cases ident <;> exact s.updInst_only g _

theorem State.setLoad_keys (s : State) (g : Nat) (ident : Option Nat) (l : Load) :
    OnlyKeys [g] s.insts (s.setLoad g ident l).insts := by
  cases ident <;> exact s.updInst_keys g _

@[simp] theorem State.setLoad_shardAttempts (s : State) (g : Nat) (ident : Option Nat) (l : Load) :
    ((s.setLoad g ident l).inst g).shardAttempts = (s.inst g).shardAttempts := by
  cases ident <;> simp [State.setLoad]

/-- The load in progress is read from a group's next generation and its adapters. -/
theorem State.loading?_congr {s t : State} {g : Nat} (hnext : (t.inst g).next = (s.inst g).next)
    (hadapters : (t.inst g).adapters = (s.inst g).adapters) (ident : Option Nat) :
    t.loading? g ident = s.loading? g ident := by
  cases ident <;> simp only [State.loading?, hnext, hadapters]

theorem State.loading?_setLoad {s : State} {g : Nat} {ident : Option Nat} {l : Load} (hl : s.loading? g ident = some l)
    (m : Load) : (s.setLoad g ident m).loading? g ident = some m := by
  cases ident with
  | none =>
    simp only [State.loading?] at hl
    split at hl
    case h_1 x hx =>
      split at hl
      case isTrue hp => simp [State.loading?, State.setLoad, hx, hp]
      case isFalse => simp at hl
    case h_2 => simp at hl
  | some a =>
    simp only [State.loading?, Option.bind_eq_some_iff, Option.map_eq_some_iff] at hl
    obtain ⟨ad, had, x, hx, -⟩ := hl
    simp only [State.loading?, State.setLoad, State.inst_updInst_self]
    rw [Tbl.get?_mapAt_self _ _ (fun ad : Adapter => { ad with gens := ad.gens.map (fun x =>
      if x.verified then x else { x with load := m }) }), had]
    simp only [Option.map_some, Option.bind_some, find?_setLoad, hx]

/-! ### Reading a shard (R236) -/

theorem mul_lt_of_lt_ceilDiv {a b k : Nat} (hb : 0 < b) (h : k < ceilDiv a b) : b * k < a := by
  rw [ceilDiv, if_neg (Nat.ne_of_gt hb), Nat.lt_div_iff_mul_lt hb] at h
  rw [Nat.mul_comm]
  omega

theorem le_mul_ceilDiv (a : Nat) {b : Nat} (hb : 0 < b) : a ≤ b * ceilDiv a b := by
  have h := Nat.lt_mul_div_succ (a + b - 1) hb
  rw [Nat.mul_succ] at h
  rw [ceilDiv, if_neg (Nat.ne_of_gt hb)]
  omega

theorem shardReads_mem {t : Nat} {e : ShardEnt} {r : StorageLoc} (h : r ∈ shardReads t e) :
    r.target = t ∧ r.ns = e.ns ∧ 0 < r.len ∧ r.len ≤ 2 ^ 20 := by
  obtain ⟨k, hk, rfl⟩ := List.mem_map.1 h
  have hlt : 2 ^ 20 * k < e.len := mul_lt_of_lt_ceilDiv (Nat.two_pow_pos 20) (List.mem_range.1 hk)
  exact ⟨rfl, rfl, Nat.lt_min.2 ⟨Nat.two_pow_pos 20, Nat.sub_pos_of_lt hlt⟩, Nat.min_le_left _ _⟩

/-- The first j pieces of a length make it up as far as they reach. -/
theorem sum_pieces (n m j : Nat) : ((List.range j).map (fun k => min m (n - m * k))).sum = min n (m * j) := by
  induction j with
  | zero => simp
  | succ j ih =>
    rw [List.range_succ, List.map_append, List.sum_append, ih, List.map_singleton, List.sum_singleton, Nat.mul_succ]
    omega

theorem shardReads_sum (t : Nat) (e : ShardEnt) : sumNats ((shardReads t e).map (·.len)) = e.len := by
  calc sumNats ((shardReads t e).map (·.len))
      = ((List.range (ceilDiv e.len (2 ^ 20))).map (fun k => min (2 ^ 20) (e.len - 2 ^ 20 * k))).sum := by
        rw [shardReads, List.map_map, sumNats_eq_sum]
        rfl
    _ = min e.len (2 ^ 20 * ceilDiv e.len (2 ^ 20)) := sum_pieces _ _ _
    _ = e.len := Nat.min_eq_left (le_mul_ceilDiv _ (Nat.two_pow_pos 20))

/-- The reads of an attempt are sent. -/
def State.sendReads (s : State) (l : List StorageLoc) : State := l.foldl (fun (s : State) r => s.send (.nvmeRead r 4)) s

theorem State.sendReads_only (s : State) (l : List StorageLoc) : OnlyChanges [.out, .wire, .wide] s (s.sendReads l) :=
  .fold _ (fun _ _ => State.send_only _ _) l s

theorem State.sendReads_out (s : State) (l : List StorageLoc) :
    (s.sendReads l).out = s.out ++ l.map (fun r => .nvmeRead r 4) := by
  induction l generalizing s with
  | nil => simp [State.sendReads]
  | cons r rest ih =>
    have hnext : s.sendReads (r :: rest) = (s.send (.nvmeRead r 4)).sendReads rest := rfl
    rw [hnext, ih, State.send_out, List.map_cons, List.append_assoc, List.singleton_append]

/-! ### The next attempt (R236, R237) -/

/-- A load with the state of one shard replaced. -/
def Load.putShard (l : Load) (i : Nat) (x : ShardState) : Load := { l with shards := l.shards.put i x }

/-- A shard once another attempt at it has begun. -/
def ShardState.attempt (x : ShardState) (p t : Nat) : ShardState :=
  { x with attempts := x.attempts + 1, active := some t, tried := x.tried ++ [t], pos := p + 1 }

/-- An attempt counted for the group, the load in progress replaced. -/
def State.countAttempt (s : State) (g : Nat) (ident : Option Nat) (l : Load) : State :=
  (s.setLoad g ident l).updInst g (fun n => { n with shardAttempts := n.shardAttempts + 1 })

theorem State.countAttempt_only (s : State) (g : Nat) (ident : Option Nat) (l : Load) :
    OnlyChanges [.insts] s (s.countAttempt g ident l) := (s.setLoad_only g ident l).trans (State.updInst_only _ _ _)

theorem State.countAttempt_keys (s : State) (g : Nat) (ident : Option Nat) (l : Load) :
    OnlyKeys [g] s.insts (s.countAttempt g ident l).insts := (s.setLoad_keys g ident l).trans (State.updInst_keys _ _ _)

theorem State.loading?_countAttempt {s : State} {g : Nat} {ident : Option Nat} {l : Load}
    (hl : s.loading? g ident = some l) (m : Load) : (s.countAttempt g ident m).loading? g ident = some m :=
  (State.loading?_congr (by simp [State.countAttempt]) (by simp [State.countAttempt]) ident).trans
    (State.loading?_setLoad hl m)

@[simp] theorem State.countAttempt_shardAttempts (s : State) (g : Nat) (ident : Option Nat) (l : Load) :
    ((s.countAttempt g ident l).inst g).shardAttempts = (s.inst g).shardAttempts + 1 := by
  simp [State.countAttempt]

/-- Sending the reads leaves loads and their count as counting the attempt does. -/
theorem State.countAttempt_sendReads {s : State} {g : Nat} {ident : Option Nat} {l : Load}
    (hl : s.loading? g ident = some l) (m : Load) (rs : List StorageLoc) :
    ((s.countAttempt g ident m).sendReads rs).loading? g ident = some m
      ∧ (((s.countAttempt g ident m).sendReads rs).inst g).shardAttempts = (s.inst g).shardAttempts + 1
      ∧ ((s.countAttempt g ident m).sendReads rs).out = s.out ++ rs.map (fun r => .nvmeRead r 4)
      ∧ OnlyKeys [g] s.insts ((s.countAttempt g ident m).sendReads rs).insts
      ∧ OnlyChanges [.insts, .out, .wire, .wide] s ((s.countAttempt g ident m).sendReads rs) := by
  have hcount := s.countAttempt_only g ident m
  have hsent := (s.countAttempt g ident m).sendReads_only rs
  have hinst := hsent.inst (by simp) g
  have hinsts : ((s.countAttempt g ident m).sendReads rs).insts = (s.countAttempt g ident m).insts :=
    hsent .insts (by simp)
  have hout : (s.countAttempt g ident m).out = s.out := hcount .out (by simp)
  refine ⟨?_, ?_, ?_, ?_, (hcount.mono (by simp)).then hsent (by simp)⟩
  · exact (State.loading?_congr (congrArg Inst.next hinst) (congrArg Inst.adapters hinst) ident).trans
      (State.loading?_countAttempt hl m)
  · rw [hinst, State.countAttempt_shardAttempts]
  · rw [State.sendReads_out, hout]
  · rw [hinsts]
    exact s.countAttempt_keys g ident m

/-- An attempt begins where the shard awaits one, fewer than 32 are in progress, those before it have begun and a target
is left. -/
theorem State.fetchShard_attempts {s : State} {g i p t : Nat} {ident : Option Nat} {l : Load}
    (hl : s.loading? g ident = some l) (hi : i < l.manifest.shards.length)
    (hv : (l.shards.getD i ShardState.init).verified = false) (ha : (l.shards.getD i ShardState.init).active = none)
    (hroom : l.activeShards.length < 32) (hbefore : ∀ k, k < i → 0 < (l.shards.getD k ShardState.init).attempts)
    (ht : s.nextTarget l i = some (p, t)) : s.fetchShard g ident i
      = (s.countAttempt g ident (l.putShard i ((l.shards.getD i ShardState.init).attempt p t))).sendReads
        (shardReads t (l.manifest.shards.getD i ⟨0, [], [], 0, 0⟩)) := by
  have hstarted : (List.range i).all (fun k => decide (0 < (l.shards.getD k ShardState.init).attempts)) = true :=
    List.all_eq_true.2 (fun k hk => decide_eq_true (hbefore k (List.mem_range.1 hk)))
  have hopen : ¬ (l.manifest.shards.length ≤ i ∨ (l.shards.getD i ShardState.init).verified
      ∨ (l.shards.getD i ShardState.init).active.isSome ∨ 32 ≤ l.activeShards.length
      ∨ !((List.range i).all (fun k => decide (0 < (l.shards.getD k ShardState.init).attempts)))) := by
    rw [hv, ha, hstarted]
    simp only [Option.isSome_none, Bool.false_eq_true, Bool.not_true, or_false, false_or, not_or]
    omega
  simp only [State.fetchShard, hl, if_neg hopen, ht]
  rfl

/-! ### An attempt that fails (R237, R238) -/

/-- Which targets can be used is of the configuration and the port, so replacing a load does not change it. -/
theorem State.hopeless_setLoad_ne (s : State) (g : Nat) (ident : Option Nat) (m l : Load) (x : ShardState) {i k : Nat}
    (hk : k ≠ i) : (s.setLoad g ident m).hopeless (l.putShard i x) k = s.hopeless l k := by
  have hcfg : (s.setLoad g ident m).cfg = s.cfg := s.setLoad_only g ident m .cfg (by simp)
  have hport : (s.setLoad g ident m).port = s.port := s.setLoad_only g ident m .port (by simp)
  simp only [State.hopeless, State.nextTarget, State.targetUsable, hcfg, hport, Load.putShard, Tbl.getD_put_ne _ _ _ hk]

/-- After four attempts there is no other. -/
theorem State.hopeless_of_attempts {s : State} {l : Load} {i : Nat}
    (hv : (l.shards.getD i ShardState.init).verified = false) (ha : (l.shards.getD i ShardState.init).active = none)
    (hn : 4 ≤ (l.shards.getD i ShardState.init).attempts) : s.hopeless l i = true := by
  simp [State.hopeless, hv, ha, hn]

/-- The first shard that can have no further attempt fails the load. -/
theorem State.failHopeless_first {s : State} {g i : Nat} {ident : Option Nat} {l : Load}
    (hl : s.loading? g ident = some l) (hi : i < l.manifest.shards.length) (hh : s.hopeless l i = true)
    (hbefore : ∀ k, k < i → s.hopeless l k = false) : s.failHopeless g ident
      = s.failLoad g ident (l.shards.getD i ShardState.init).failure (some i) := by
  have hfirst : (List.range l.manifest.shards.length).find? (s.hopeless l) = some i :=
    List.find?_range_eq_some.2 ⟨hh, List.mem_range.2 hi, fun k hk => by simp [hbefore k hk]⟩
  simp only [State.failHopeless, hl, hfirst]

/-- A shard once the attempt in progress has failed. -/
def ShardState.failed (x : ShardState) (mismatch : Bool) : ShardState := { x with active := none, mismatch := mismatch }

theorem State.attemptFails_eq {s : State} {g i : Nat} {ident : Option Nat} {l : Load} (b : Bool)
    (hl : s.loading? g ident = some l) : s.attemptFails g ident i b
      = (s.setLoad g ident (l.putShard i ((l.shards.getD i ShardState.init).failed b))).failHopeless g ident := by
  simp only [State.attemptFails, hl]
  rfl

theorem State.attemptFails_last {s : State} {g i : Nat} {ident : Option Nat} {l : Load} (b : Bool)
    (hl : s.loading? g ident = some l) (hi : i < l.manifest.shards.length)
    (hv : (l.shards.getD i ShardState.init).verified = false) (ha : 4 ≤ (l.shards.getD i ShardState.init).attempts)
    (hbefore : ∀ k, k < i → s.hopeless l k = false) : s.attemptFails g ident i b
      = (s.setLoad g ident (l.putShard i ((l.shards.getD i ShardState.init).failed b))).failLoad g ident
        (if b then .digestMismatch else .shardMissing) (some i) := by
  have hshard : (l.putShard i ((l.shards.getD i ShardState.init).failed b)).shards.getD i ShardState.init
      = (l.shards.getD i ShardState.init).failed b := Tbl.getD_put_self _ _ _ _
  have hload := State.loading?_setLoad hl (l.putShard i ((l.shards.getD i ShardState.init).failed b))
  rw [State.attemptFails_eq b hl, State.failHopeless_first hload hi, hshard]
  · rfl
  · refine State.hopeless_of_attempts ?_ ?_ ?_ <;> rw [hshard]
    · exact hv
    · rfl
    · exact ha
  · intro k hk
    rw [State.hopeless_setLoad_ne _ _ _ _ _ _ (Nat.ne_of_lt hk)]
    exact hbefore k hk

/-! ### The data of an attempt (R236, R239) -/

section
variable {s : State} {g i t : Nat} {ident : Option Nat} {l : Load} (hl : s.loading? g ident = some l)
  (ha : (l.shards.getD i ShardState.init).active = some t)
include hl ha

theorem State.checkShard_mismatch {data : List Byte}
    (hd : Crypto.sha256 data ≠ (l.manifest.shards.getD i ⟨0, [], [], 0, 0⟩).digest) :
    s.checkShard g ident i data = s.attemptFails g ident i true := by
  simp only [State.checkShard, hl, ha, Option.isNone_some, Bool.false_eq_true, if_false, if_pos (Or.inr hd)]

theorem State.checkShard_verifies {data : List Byte} {s1 : State} {l2 : Load}
    (hlen : data.length = (l.manifest.shards.getD i ⟨0, [], [], 0, 0⟩).len)
    (hd : Crypto.sha256 data = (l.manifest.shards.getD i ⟨0, [], [], 0, 0⟩).digest)
    (hc : s.convertReady g ident i { l with
      shards := l.shards.put i { (l.shards.getD i ShardState.init) with active := none, verified := true }
      data := l.data.put i data } = some (s1, l2)) :
    s.checkShard g ident i data = if l2.complete then s1.finishLoad g ident l2 else s1.setLoad g ident l2 := by
  simp [State.checkShard, hl, ha, hd, hlen, hc]

end

/-- A model's load that completes is loaded, after its notice. -/
theorem State.finishLoad_next (s : State) (g : Nat) (l : Load) : ((s.finishLoad g none l).inst g).next
    = ((s.notice l.sess 0x22 l.origin .ok [g, 0, 0xFFFF, ShardState.init.attempts, ShardState.init.lastTarget]).inst
      g).next.map (fun x => { x with phase := .loaded, load := l }) := by
  rw [State.finishLoad, State.inst_updInst_self]
  rfl

/-! ### The events -/

theorem exec_shardFetch (g : GroupIx) (ident : Option Nat) (i : Nat) (s : State) :
    exec (.shardFetch g ident i) s = .next (s.fetchShard g.val ident i) := rfl

theorem exec_shardAttemptTimeout {g : GroupIx} {ident : Option Nat} {s : State} {l : Load} (i : Nat)
    (hl : s.loading? g.val ident = some l) : exec (.shardAttemptTimeout g ident i) s = .next
      (if (l.shards.getD i ShardState.init).active.isSome then s.attemptFails g.val ident i false else s) := by
  have hexec : exec (.shardAttemptTimeout g ident i) s = execShardAttemptTimeout g ident i s := rfl
  simp only [hexec, execShardAttemptTimeout, hl]

theorem exec_shardDigestCheck (g : GroupIx) (ident : Option Nat) (i : Nat) (data : List Byte) (s : State) :
    exec (.shardDigestCheck g ident i data) s = .next (s.checkShard g.val ident i data) := rfl

end Sys2Proof.Machine
end

section
/-! SUPPORT. The statement about the attempts at a load's shards. -/

namespace Sys2Proof.Machine

open Sys2Proof

/-- Settles O25: an attempt replaces the load in progress and then only sends its reads; one that fails leaves the shards
before it as they were, so its own is the first that can have no further attempt. -/
theorem shardEvents : Obligations.ShardEvents := by
  refine ⟨?fetch, fun t e r => shardReads_mem, shardReads_sum, ?timeout, ?noAttempt, ?fourth, ?mismatch, ?verified⟩
  case fetch =>
    intro s g ident i l p t hl hi hv ha hroom hbefore ht
    rw [exec_shardFetch, State.fetchShard_attempts hl hi hv ha hroom hbefore ht]
    exact ⟨_, rfl, State.countAttempt_sendReads hl _ _⟩
  case timeout =>
    intro s g ident i l t hl ha
    rw [exec_shardAttemptTimeout i hl, ha]
    rfl
  case noAttempt =>
    intro s g ident i l hl ha
    rw [exec_shardAttemptTimeout i hl, ha]
    rfl
  case fourth =>
    intro s g ident i l b hl hi hv ha hbefore
    exact State.attemptFails_last b hl hi hv ha hbefore
  case mismatch =>
    intro s g ident i data l t hl ha hd
    rw [exec_shardDigestCheck, State.checkShard_mismatch hl ha hd]
  case verified =>
    intro s g i data l t s1 l2 hl ha hlen hd hc
    rw [exec_shardDigestCheck, State.checkShard_verifies hl ha hlen hd hc]
    refine ⟨fun hpart => ?_, fun hwhole => ?_⟩
    · rw [if_neg (by simp [hpart])]
    · rw [if_pos hwhole]
      exact ⟨_, rfl, s1.finishLoad_next g.val l2⟩

end Sys2Proof.Machine
end
